-- ==== Sys2Proof/Word.lean ====
section
/-! DEFINITION. Bytes of the links, clock values and the plain arithmetic every block uses. -/
namespace Sys2Proof

/-- One byte of a frame (R168). -/
abbrev Byte := BitVec 8

/-- A two-byte number of a payload (R180). -/
abbrev Half := BitVec 16

/-- The largest value of the performance clock (R2). -/
def clockMax : Nat := 4294967295

/-- A clock value saturates at the maximum (R2, R3). -/
def satClock (n : Nat) : Nat := min n clockMax

/-- `n` brought into `lo` to `hi` (R181). -/
def clampNat (lo hi n : Nat) : Nat := max lo (min hi n)

/-- A signed quantity brought into `lo` to `hi`. -/
def clampInt (lo hi n : Int) : Int := max lo (min hi n)

/-- Division rounded up (00_scope.md, Arithmetic). -/
def ceilDiv (a b : Nat) : Nat := (a + b - 1) / b

/-- `f` of every entry of a table. -/
def vmap {α β : Type} {n : Nat} (f : α → β) (v : Vector α n) : Vector β n :=
  ⟨(v.toList.map f).toArray, by simp⟩

/-- `f i` of the entry `i` for every `i`, in one list of the entries. -/
def mapFrom {α β : Type} (f : Nat → α → β) : Nat → List α → List β
  | _, [] => []
  | k, x :: xs => f k x :: mapFrom f (k + 1) xs

theorem length_mapFrom {α β : Type} (f : Nat → α → β) (k : Nat) (xs : List α) :
    (mapFrom f k xs).length = xs.length := by
  induction xs generalizing k with
  | nil => rfl
  | cons x xs ih => simp [mapFrom, ih]

/-- `f i` of entry `i` of a table, for every `i`. -/
def vmapIdx {α β : Type} {n : Nat} (f : Nat → α → β) (v : Vector α n) : Vector β n :=
  ⟨(mapFrom f 0 v.toList).toArray, by simp [length_mapFrom]⟩

/-- The number whose bit `i` is entry `i` of the list. -/
def bitsToNat : List Bool → Nat
  | [] => 0
  | b :: bs => b.toNat + 2 * bitsToNat bs

end Sys2Proof
end

