-- ==== Sys2Proof/Syntax.lean ====
section
/-! DEFINITION. The commands of the part: one constructor per row of spec/opcode_table.json. A request row
carries the port on which the request arrived and the numbers of its payload in payload order (R180). -/
namespace Sys2Proof

/-- The four ports, each named by the desk at its end (Table 10-1). -/
inductive Port where
  | prompt | house | panel | console
deriving DecidableEq, Repr

/-- The two announcement channels (R150). -/
inductive Channel where
  | a | b
deriving DecidableEq, Repr

/-- The two built-in calls (R130): descriptor 1 and descriptor 2. -/
inductive BuiltIn where
  | evacuation | staffAlert
deriving DecidableEq, Repr

/-- A settled line, numbered as Table 11-3: 0 to 7 are L0 to L7, 8 the fire release line, 9 the manual release
button, 10 the blackout button, 11 the bottom limit, 12 the top limit. -/
abbrev Line := Fin 13

/-- A call descriptor by its index: index `i` is descriptor number `i + 1` (R129). -/
abbrev CallId := Fin 48

inductive Instr where
  -- supply and start-up
  | powerOn
  | resetAsserted
  | startUpSettleEnd
  -- lines: the new supervision and contact levels of one line (R25)
  | lineRawChange (line : Line) (sound closed : Bool)
  | settleExpiry (line : Line)
  -- links: the bytes that arrive on one port
  | receiveFrame (port : Port) (bytes : List Byte)
  | frameAbandoned (port : Port)
  | supervisionExpiry (port : Port)
  | frameSent (port : Port)
  | unknownRequest (port : Port) (kind : Byte) (payload : List Byte)
  -- configuration (Table 10-13)
  | configureZone (port : Port) (zone cls area curtainRelease delayEligible : Byte)
  | configureCurtain (port : Port) (T C S Tf Ts B D Vs W stall creep : Half)
  | configureCircuit (port : Port) (circuit slot escapeLit masked park : Byte)
  | configureSlot (port : Port) (slot code : Byte)
  | configurePreset (port : Port) (preset : Byte) (levels : Vector Byte 48) (slot inUse : Byte)
  | configurePagingZone (port : Port) (zone staff evac : Byte)
  | configureBuiltInCall (port : Port) (descriptor message : Byte) (length gap : Half)
  | configureTiming (port : Port) (investigation showDelay : Half)
      (interval escapeMin parkSlot restoreSlot supP supH supF supC : Byte)
  | configureLine (port : Port) (line polarity settle : Byte)
  | configureOption (port : Port) (demoRequired : Byte)
  | configurationComplete (port : Port)
  -- performance
  | openPerformance (port : Port)
  | closePerformance (port : Port)
  | openHouse (port : Port)
  | houseClosed (port : Port)
  | goAct (port : Port)
  | endAct (port : Port) (final : Byte)
  | showStop (port : Port)
  | resume (port : Port)
  | endPerformance (port : Port)
  | giveClearance (port : Port)
  | withdrawClearance (port : Port)
  | setPlannedUp (port : Port) (seconds : Half)
  | delayUp (port : Port) (seconds : Half)
  | extendInterval (port : Port) (minutes : Byte)
  | showModeOn (port : Port)
  | showModeOff (port : Port)
  | intervalCountdownExpiry
  -- fire zones and the fire condition
  | zoneReport (port : Port) (pairs : List (Byte × Byte))
  | panelResetZone (port : Port) (zone : Byte)
  | resetZone (port : Port) (zone : Byte)
  | isolateZone (port : Port) (zone : Byte)
  | restoreZone (port : Port) (zone : Byte)
  | acknowledgeZones (port : Port) (zone : Byte)
  | showDelayExpiry (zone : Fin 32)
  | investigationExpiry
  | evacuateNow (port : Port)
  | panelEvacuate (port : Port)
  | standDown (port : Port)
  | restore (port : Port)
  -- the curtain; a sample and a tick bring the raw encoder count read at that moment (R63)
  | dropCurtain (port : Port)
  | demonstrateCurtain (port : Port)
  | raiseHold (port : Port)
  | stopRaise (port : Port)
  | resetManualRelease (port : Port)
  | clearCurtainFaults (port : Port)
  | leaseExpiry
  | raiseSample (raw : BitVec 17)
  | creepSample (raw : BitVec 17)
  | descentSample (raw : BitVec 17)
  -- the house lights
  | lights (port : Port) (slot : Byte) (pairs : List (Byte × Byte))
  | goPreset (port : Port) (preset slot : Byte)
  | holdFades (port : Port)
  | fadeStep (circuit : Fin 48)
  | takeLights (port : Port)
  | giveBackLights (port : Port)
  | reclaimLights (port : Port)
  | panicLightsOn (port : Port)
  | panicLightsOff (port : Port)
  | dimmerFrame
  -- calls and channels
  | createCall (port : Port) (kind message : Byte) (length zones : Half) (repeatCount : Byte)
      (gap lifetime : Half) (notify : Byte) (timing : Option (Byte × BitVec 32))
  | cancelCall (port : Port) (descriptor : Byte)
  | dueTimerExpiry
  | callDeadline (call : CallId)
  | collectCompletions (port : Port)
  | zoneGate (port : Port) (zone muted held : Byte)
  | resetChannel (port : Port) (channel : Byte)
  | playingRises (channel : Channel)
  | playingFalls (channel : Channel)
  | startTimerExpiry (channel : Channel)
  | guardTimerExpiry (channel : Channel)
  | stopTimerExpiry (channel : Channel)
  | builtInGapExpiry (call : BuiltIn)
  -- reads
  | readHouse (port : Port)
  | readZones (port : Port) (first : Byte)
  | readAlarmList (port : Port) (first : Byte)
  | readCurtain (port : Port) (part : Byte)
  | readCircuits (port : Port) (selector first count : Byte)
  | readCall (port : Port) (descriptor : Byte)
  | readQueues (port : Port)
  | readChannels (port : Port)
  | readLinks (port : Port)
  -- time, and the last row of the table
  | performanceClockTick (raw : BitVec 17)
  | lengthAbove120 (port : Port) (length : Byte)
deriving DecidableEq, Repr

end Sys2Proof
end

