-- ==== Sys2Proof/Decode.lean ====
section
/-! DEFINITION. The decoding of opcode-table words. The table of this part gives no row any bits: its commands are
requests on links, pin changes and timer events, and the frames of the requests are decoded by Machine/Frames.lean. -/
namespace Sys2Proof

/-- The command that a word of the table spells: none, since no row has bits (log 17). -/
def decodeTableWord (_nbits _w : Nat) : Option Instr := none

end Sys2Proof
end

