-- ==== Sys2Proof/Machine/State.lean ====
section
/-! DEFINITION. The state of the part: one structure per block (00_scope.md, "Block Overview"), as plain data,
the notices and replies that wait in the transmit queues, and the state right after power-on (R184). -/
namespace Sys2Proof.Machine

/-! ## Performance Unit (Table 1-1) -/

/-- The performance phases (Table 1-3). -/
inductive Phase where
  | unconfigured | dark | preset | houseOpen | act | interval | stopped | emptying
deriving DecidableEq, Repr

inductive StopCause where
  | desk | fire
deriving DecidableEq, Repr

/-- The stop record, present only in STOPPED (R1). -/
structure StopRecord where
  origin : Phase
  cause : StopCause
deriving DecidableEq, Repr

inductive Clearance where
  | given | withheld
deriving DecidableEq, Repr

inductive ClearanceCause where
  | given | withdrawn | consumed | cleared
deriving DecidableEq, Repr

/-- The six anchors, in the order of Table 1-2. -/
inductive Anchor where
  | plannedUp | houseOpen | actStart | intervalStart | intervalEnd | curtainDown
deriving DecidableEq, Repr

/-- What happened to an anchor (R3). -/
inductive AnchorEvent where
  | set | moved | cleared
deriving DecidableEq, Repr

/-- Each anchor is absent or holds a clock value (R3). -/
structure Anchors where
  plannedUp : Option Nat
  houseOpen : Option Nat
  actStart : Option Nat
  intervalStart : Option Nat
  intervalEnd : Option Nat
  curtainDown : Option Nat
deriving DecidableEq, Repr

def Anchors.none : Anchors := ⟨.none, .none, .none, .none, .none, .none⟩

/-- The house condition record (Table 1-1). -/
structure House where
  phase : Phase
  actNumber : Nat
  stop : Option StopRecord
  clearance : Clearance
  demoMark : Bool
  curtainShown : Bool
  showMode : Bool
  anchors : Anchors
  countdown : Nat
deriving DecidableEq, Repr

/-- The house condition record at power-on (Table 1-1). -/
def House.powerOn : House :=
  ⟨.unconfigured, 0, none, .withheld, false, false, false, Anchors.none, 0⟩

/-! ## Fire Monitor (Tables 2-1 and 3-1) -/

/-- A reading of a settled line (R25). On a limit switch `active` is closed and `quiet` is open (Table 11-3). -/
inductive Reading where
  | quiet | active | faulty
deriving DecidableEq, Repr

inductive ZoneClass where
  | detector | callPoint | suppression
deriving DecidableEq, Repr

inductive Area where
  | stage | auditorium | front | backstage
deriving DecidableEq, Repr

inductive ZoneState where
  | normal | delayed | alarm | fault | isolated
deriving DecidableEq, Repr

/-- A zone record (Table 2-1). -/
structure Zone where
  cls : ZoneClass
  area : Area
  curtainRelease : Bool
  delayEligible : Bool
  state : ZoneState
  input : Reading
  suppressed : Nat
  alarmTime : Option Nat
  delayRemaining : Option Nat
  activeWhileIsolated : Bool
  pendingPrompt : Bool
  pendingHouse : Bool
deriving DecidableEq, Repr

/-- Zones 0 to 7 are local zones (R23). -/
abbrev ZoneId := Fin 32

/-- A zone record at power-on: local zones NORMAL and QUIET, panel zones FAULT and FAULTY (R23). -/
def Zone.powerOn (isLocal : Bool) : Zone :=
  ⟨.detector, .auditorium, false, false, if isLocal then .normal else .fault,
    if isLocal then .quiet else .faulty, 0, none, none, false, false, false⟩

/-- Why a zone changed state (R45). -/
inductive ZoneCause where
  | input | delayExpiry | promotion | reset | isolate | restore | baseline | linkLoss
deriving DecidableEq, Repr

/-- The fire condition (R46). -/
inductive Condition where
  | quiet | alert | evacuate
deriving DecidableEq, Repr

/-- Causes of a change of condition (Table 3-2). -/
inductive FireCause where
  | callPoint | suppression | furtherAlarm | coincidentAlarms | detectorAlarm | investigationExpired
  | houseDesk | firePanel | standDown | restore
deriving DecidableEq, Repr

/-- The Fire Monitor: zone table, alarm list (R36) and fire condition record (Table 3-1). -/
structure Fire where
  zones : Vector Zone 32
  alarmList : List ZoneId
  condition : Condition
  previous : Option Condition
  cause : Option FireCause
  enteredAt : Nat
  investigation : Option Nat
  demand : Bool
deriving DecidableEq, Repr

def Fire.powerOn : Fire where
  zones := vmapIdx (fun i _ => Zone.powerOn (i < 8)) (Vector.replicate 32 ())
  alarmList := []
  condition := .quiet
  previous := none
  cause := none
  enteredAt := 0
  investigation := none
  demand := false

/-! ## Line Interface (R25, R26, Table 11-3) -/

/-- One settled line: its polarity (true: normally closed), its settle time, its settled state (absent until the
end of the start-up settle, R86) and its candidate with the time left on the settle timer. -/
structure LineRecord where
  normallyClosed : Bool
  settleTime : Nat
  settled : Option Reading
  candidate : Option (Reading × Nat)
deriving DecidableEq, Repr

def Lines.powerOn : Vector LineRecord 13 :=
  vmapIdx (fun i _ => ⟨false, if i < 8 then 5 else 2, none, none⟩) (Vector.replicate 13 ())

/-- The levels on the two pins of a line: loop sound, contact closed (R25). -/
structure LinePins where
  sound : Bool
  closed : Bool
deriving DecidableEq, Repr

/-- The levels on the input pins: they belong to the equipment outside and outlive a reset. -/
structure Pins where
  lines : Vector LinePins 13
  encoder : BitVec 17
  playingA : Bool
  playingB : Bool
deriving DecidableEq, Repr

/-- DESIGN CHOICE (log 6): contacts open, loops sound, count 0, players silent. -/
def Pins.rest : Pins := ⟨Vector.replicate 13 ⟨true, false⟩, 0, false, false⟩

/-! ## Curtain Controller and Descent Supervisor (Tables 4-1 and 5-2) -/

/-- The curtain states (Table 4-2). -/
inductive CurtainState where
  | stowed | raising | halted | descending | secondary | jammed | landed
deriving DecidableEq, Repr

/-- The change reasons (R84, section 10.8). -/
inductive CurtainReason where
  | demand | raise | leaseExpired | stopRaise | topLimit | overTravel | raiseStall | fireChange | creep
  | bottomLimit | position | lag | jam | powerOn
deriving DecidableEq, Repr

/-- The cause set (R64). -/
structure CauseSet where
  fire : Bool
  hardLine : Bool
  manual : Bool
  drop : Bool
  demonstration : Bool
  powerOn : Bool
deriving DecidableEq, Repr

def CauseSet.empty : CauseSet := ⟨false, false, false, false, false, false⟩

/-- The raise record (Table 4-1); the positions newest first. -/
structure RaiseRecord where
  leaseExpiry : Nat
  sample : Nat
  positions : List Nat
deriving DecidableEq, Repr

/-- The faults of the curtain (R82). -/
inductive CurtainFault where
  | lag | overspeed | jammed | raiseStall | overTravel | creep | encoderDisagree | limitSwitch
deriving DecidableEq, Repr

/-- The fault set: for each fault in it the clock value of its latest occurrence, and for ENCODER_DISAGREE the
correction in mm (Table 4-1). -/
structure FaultSet where
  lag : Option Nat
  overspeed : Option Nat
  jammed : Option Nat
  raiseStall : Option Nat
  overTravel : Option Nat
  creep : Option Nat
  encoderDisagree : Option Nat
  limitSwitch : Option Nat
  correction : Option Nat
deriving DecidableEq, Repr

def FaultSet.empty : FaultSet := ⟨none, none, none, none, none, none, none, none, none⟩

/-- The descent record (Table 5-2); the speed window newest first. -/
structure Descent where
  startTime : Nat
  travel : Nat
  slowHeight : Nat
  fastAllowance : Nat
  slowAllowance : Nat
  startPosition : Nat
  p0 : Nat
  fastLeg : Nat
  s0 : Nat
  slowLeg : Nat
  sample : Nat
  allowed : Option Nat
  lagCount : Nat
  secondaryStart : Option Nat
  window : List Nat
  speed : Option Int
  overspeedCount : Nat
  retard : Bool
deriving DecidableEq, Repr

/-- The curtain record (Table 4-1), the descent record, and the model's own count of samples that the time base
owes (log 5). -/
structure Curtain where
  state : CurtainState
  enteredAt : Nat
  reason : CurtainReason
  fireDemand : Bool
  hardLine : Bool
  manual : Bool
  causes : CauseSet
  raise : Option RaiseRecord
  lowCount : Option Nat
  homeOffset : Nat
  faults : FaultSet
  descent : Option Descent
  samplesDue : Nat
deriving DecidableEq, Repr

def Curtain.powerOn : Curtain where
  state := .descending
  enteredAt := 0
  reason := .powerOn
  fireDemand := false
  hardLine := false
  manual := false
  causes := { CauseSet.empty with powerOn := true }
  raise := none
  lowCount := none
  homeOffset := 0
  faults := FaultSet.empty
  descent := none
  samplesDue := 0

/-- The curtain parameters (Table 5-1). -/
structure CurtainParams where
  travel : Nat
  countsPerMetre : Nat
  slowHeight : Nat
  fastAllowance : Nat
  slowAllowance : Nat
  lagTolerance : Nat
  lagPersistence : Nat
  slowSpeed : Nat
  landingWindow : Nat
  stallDistance : Nat
  creepLimit : Nat
deriving DecidableEq, Repr

def CurtainParams.default : CurtainParams := ⟨8000, 1000, 2000, 200, 100, 150, 3, 300, 20, 30, 100⟩

/-! ## Lighting Controller (Tables 6-1, 6-3 and 7-1) -/

/-- The fade record (Table 6-3). -/
structure Fade where
  start : Nat
  target : Nat
  duration : Nat
  elapsed : Nat
  startedAt : Nat
  slot : Nat
deriving DecidableEq, Repr

/-- A circuit record (Table 6-1) less its output level, which is composed (R126). -/
structure Circuit where
  slot : Nat
  escapeLit : Bool
  masked : Bool
  park : Nat
  base : Nat
  fade : Option Fade
deriving DecidableEq, Repr

def Circuit.powerOn : Circuit := ⟨1, false, false, 200, 255, none⟩

/-- A preset (R107); preset `n` is entry `n - 1`. -/
structure Preset where
  levels : Vector Nat 48
  slot : Nat
  inUse : Bool
deriving DecidableEq, Repr

def Preset.powerOn : Preset := ⟨Vector.replicate 48 0, 1, false⟩

inductive Authority where
  | house | console
deriving DecidableEq, Repr

/-- Causes of a change of authority (R120). -/
inductive AuthorityCause where
  | take | giveBack | reclaim | phase | evacuate | consoleLost
deriving DecidableEq, Repr

/-- The Lighting Controller: circuits, slots, presets, the lighting record (Table 7-1), the latest frame of the
dimmer line, and the model's own counts of fade steps that the time base owes (log 5). -/
structure Lights where
  circuits : Vector Circuit 48
  slots : Vector Nat 4
  presets : Vector Preset 8
  authority : Authority
  authorityAt : Nat
  authorityCause : Option AuthorityCause
  panic : Bool
  fireSeen : Condition
  phaseSeen : Phase
  stopSeen : Option StopRecord
  consoleSeen : Bool
  blackout : Reading
  dimmer : Option (Vector Nat 48)
  stepsDue : Vector Nat 48
deriving DecidableEq, Repr

def Lights.powerOn : Lights where
  circuits := Vector.replicate 48 Circuit.powerOn
  slots := ⟨#[0, 6, 9, 3], rfl⟩
  presets := Vector.replicate 8 Preset.powerOn
  authority := .house
  authorityAt := 0
  authorityCause := none
  panic := false
  fireSeen := .quiet
  phaseSeen := .unconfigured
  stopSeen := none
  consoleSeen := false
  blackout := .quiet
  dimmer := none
  stepsDue := Vector.replicate 48 0

/-! ## Call Scheduler, Call Arbiter and channels (Tables 8-1, 8-2, 9-1 and 9-2) -/

inductive CallKind where
  | scheduled | immediate | evacuation | staffAlert
deriving DecidableEq, Repr

inductive Life where
  | free | waiting | timed | ready | playing | finished
deriving DecidableEq, Repr

inductive DueBasis where
  | anchor | replay
deriving DecidableEq, Repr

inductive CallOutcome where
  | delivered | partly | silenced | expired | cancelled | preEmpted | channelFault
deriving DecidableEq, Repr

/-- The two desks that create calls (R129). -/
inductive Desk where
  | prompt | house
deriving DecidableEq, Repr

/-- A set of paging zones: bit `i` is zone `i` (R180). -/
abbrev ZoneSet := BitVec 12

/-- A call descriptor (Table 8-1) less its number. -/
structure Descriptor where
  life : Life
  kind : CallKind
  creator : Desk
  message : Nat
  length : Nat
  zones : ZoneSet
  repeatCount : Nat
  gap : Nat
  lifetime : Nat
  anchor : Option Anchor
  offset : Int
  notify : Bool
  createdAt : Nat
  due : Option Nat
  basis : Option DueBasis
  entry : Option Nat
  deadline : Option Nat
  plays : Nat
  missed : ZoneSet
  channel : Option Channel
  outcome : Option CallOutcome
  finishTime : Option Nat
deriving DecidableEq, Repr

/-- A FREE descriptor: no field but its number and life state is present (R129); the others hold fixed values
that nothing reads (log 21). -/
def Descriptor.free : Descriptor :=
  ⟨.free, .immediate, .prompt, 0, 0, 0, 0, 0, 0, none, 0, false, 0, none, none, none, none, 0, 0, none, none, none⟩

/-- A completion entry (R165). -/
structure Completion where
  number : Nat
  message : Nat
  outcome : CallOutcome
  plays : Nat
  missed : ZoneSet
  finishTime : Nat
  runs : Nat
deriving DecidableEq, Repr

/-- An item of the finished list (R164). -/
inductive Finished where
  | general (call : CallId)
  | builtIn (call : BuiltIn) (entry : Completion)
deriving DecidableEq, Repr

/-- A paging zone record (Table 9-1). -/
structure PagingZone where
  staff : Bool
  evac : Bool
  muted : Bool
  held : Bool
  conn : Option Channel
deriving DecidableEq, Repr

inductive ChannelState where
  | idle | starting | playing | stopping | faulted
deriving DecidableEq, Repr

inductive ChannelFault where
  | noStart | guardExpired | noStop | unsolicited
deriving DecidableEq, Repr

/-- A channel record (Table 9-2), its message output and its two strobe outputs (log 8). -/
structure ChannelRecord where
  state : ChannelState
  call : Option CallId
  message : Nat
  live : ZoneSet
  missedBefore : ZoneSet
  startTimer : Option Nat
  guardTimer : Option Nat
  stopTimer : Option Nat
  reserved : Option BuiltIn
  fault : Option ChannelFault
  startStrobe : Bool
  stopStrobe : Bool
deriving DecidableEq, Repr

def ChannelRecord.idle : ChannelRecord :=
  ⟨.idle, none, 0, 0, 0, none, none, none, none, none, false, false⟩

/-- Where the run of a built-in call stands (R159). -/
inductive RunPosition where
  | notRunning
  | waiting
  | onChannel (channel : Channel)
  | inGap (channel : Channel) (remaining : Nat)
deriving DecidableEq, Repr

/-- The Call Scheduler and the Call Arbiter. `creation` is the model's own record of the order of creation
(log 16). -/
structure Calls where
  table : Vector Descriptor 48
  creation : Vector Nat 48
  nextCreation : Nat
  pool : List CallId
  waiting : List CallId
  timetable : List CallId
  ready : List CallId
  finished : List Finished
  promptQueue : List Completion
  houseQueue : List Completion
  fireSeen : Condition
  phaseSeen : Phase
  paging : Vector PagingZone 12
  chanA : ChannelRecord
  chanB : ChannelRecord
  arbiterFire : Condition
  evacuation : RunPosition
  staffAlert : RunPosition
deriving DecidableEq, Repr

/-- The general descriptors, numbers 3 to 48 (R129), in ascending order. -/
def generalCalls : List CallId := (List.finRange 48).drop 2

def Calls.powerOn : Calls where
  table := Vector.replicate 48 Descriptor.free
  creation := Vector.replicate 48 0
  nextCreation := 0
  pool := generalCalls
  waiting := []
  timetable := []
  ready := []
  finished := []
  promptQueue := []
  houseQueue := []
  fireSeen := .quiet
  phaseSeen := .unconfigured
  paging := Vector.replicate 12 ⟨false, true, false, false, none⟩
  chanA := ChannelRecord.idle
  chanB := ChannelRecord.idle
  arbiterFire := .quiet
  evacuation := .notRunning
  staffAlert := .notRunning

/-- The configuration of a built-in call (R183). -/
structure BuiltInConfig where
  message : Nat
  length : Nat
  gap : Nat
deriving DecidableEq, Repr

/-! ## Configuration Store (Table 11-2) -/

/-- The tables of the Configuration Store that no other block holds. -/
structure Params where
  curtain : CurtainParams
  investigation : Nat
  showDelay : Nat
  interval : Nat
  escapeMin : Nat
  parkSlot : Nat
  restoreSlot : Nat
  supervisionP : Nat
  supervisionH : Nat
  supervisionF : Nat
  supervisionC : Nat
  evacuationCall : BuiltInConfig
  staffAlertCall : BuiltInConfig
  demoRequired : Bool
deriving DecidableEq, Repr

def Params.default : Params :=
  ⟨CurtainParams.default, 1800, 0, 20, 64, 3, 2, 20, 20, 20, 20, ⟨1, 300, 50⟩, ⟨2, 200, 100⟩, true⟩

/-! ## Notices (Table 10-3) -/

/-- A ZONE CHANGE notice (R45). -/
structure ZoneChange where
  zone : ZoneId
  previous : ZoneState
  state : ZoneState
  input : Reading
  cause : ZoneCause
  cls : ZoneClass
  area : Area
  suppressed : Nat
  alarmTime : Option Nat
  delayRemaining : Option Nat
  firstAlarm : Bool
deriving DecidableEq, Repr

/-- A FIRE CONDITION notice (R59). -/
structure FireNotice where
  condition : Condition
  previous : Condition
  cause : FireCause
  enteredAt : Nat
  entries : Nat
  firstAlarm : Option ZoneId
  investigation : Option Nat
  demand : Bool
deriving DecidableEq, Repr

/-- A CURTAIN notice (R84). -/
structure CurtainNotice where
  state : CurtainState
  previous : CurtainState
  reason : CurtainReason
  position : Nat
  causes : CauseSet
  faults : FaultSet
deriving DecidableEq, Repr

/-- A CURTAIN FAULT notice (R82, R83): after a clearing it names no fault. -/
structure CurtainFaultNotice where
  fault : Option CurtainFault
  time : Option Nat
  correction : Option Nat
  state : CurtainState
  position : Nat
  faults : FaultSet
deriving DecidableEq, Repr

/-- An AUTHORITY notice (R120). -/
structure AuthorityNotice where
  authority : Authority
  previous : Authority
  cause : AuthorityCause
  changedAt : Nat
  parking : Bool
deriving DecidableEq, Repr

/-- A CALL FINISHED notice (R164). -/
structure CallFinishedNotice where
  number : Nat
  message : Nat
  outcome : CallOutcome
  plays : Nat
  missed : ZoneSet
  finishTime : Nat
deriving DecidableEq, Repr

/-- A CHANNEL FAULT notice (R155). -/
structure ChannelFaultNotice where
  channel : Channel
  fault : ChannelFault
  number : Option Nat
  message : Option Nat
  other : ChannelState
deriving DecidableEq, Repr

inductive Notice where
  | phase (phase : Phase) (act : Nat) (actClock : Option Nat) (stop : Option StopRecord)
  | clearance (value : Clearance) (cause : ClearanceCause)
  | showMode (on : Bool)
  | intervalUp (act : Nat) (intervalEnd : Option Nat)
  | zoneChange (body : ZoneChange)
  | reportAll
  | fireCondition (body : FireNotice)
  | curtain (body : CurtainNotice)
  | curtainFault (body : CurtainFaultNotice)
  | authority (body : AuthorityNotice)
  | callFinished (body : CallFinishedNotice)
  | completionsWaiting (entries : Nat)
  | channelFault (body : ChannelFaultNotice)
  | evacuationUnannounced (faultA faultB : Option ChannelFault) (zones : Nat)
  | linkState (port : Port) (present : Bool) (lastValid : Option Nat)
  | noticesLost (since : Nat)
deriving DecidableEq, Repr

/-- A notice with the ports to which Table 10-3 routes it. -/
structure Mail where
  ports : List Port
  notice : Notice
deriving DecidableEq, Repr

/-! ## Replies (R173, R174) -/

inductive Reason where
  | notPermitted | malformed | wrongPhase | frozen | notAuthority | badNumber | noDescriptor | emptyZoneSet
  | notActive | interlock | stillActive | inAlarm | alarmPresent | inMotion | busy
deriving DecidableEq, Repr

/-- The interlock conditions, in the order of their bits (Table 10-5). -/
inductive Interlock where
  | clearanceWithheld | fireNotQuiet | curtainNotStowed | zoneDelayed | demonstrationOutstanding
  | releaseDemand | curtainJammed | linkLost | evacuationInForce
deriving DecidableEq, Repr

/-- The four curtain outputs (Table 4-2). -/
structure CurtainOutputs where
  holdOff : Bool
  hoist : Bool
  secondary : Bool
  retard : Bool
deriving DecidableEq, Repr

/-- READ CURTAIN section 0 (R85). -/
structure CurtainReport where
  state : CurtainState
  enteredAt : Nat
  reason : CurtainReason
  position : Nat
  raw : Nat
  count : Nat
  homeOffset : Nat
  topLimit : Option Reading
  bottomLimit : Option Reading
  fireLine : Option Reading
  manualButton : Option Reading
  fireDemand : Bool
  hardLine : Bool
  manual : Bool
  causes : CauseSet
  leaseExpiry : Option Nat
  lowCount : Option Nat
  faults : FaultSet
  outputs : CurtainOutputs
deriving DecidableEq, Repr

/-- One entry of READ ALARM LIST (R36). -/
structure AlarmEntry where
  zone : ZoneId
  cls : ZoneClass
  area : Area
  alarmTime : Option Nat
  input : Reading
  firstAlarm : Bool
deriving DecidableEq, Repr

/-- READ ALARM LIST (R60). -/
structure AlarmReport where
  condition : Condition
  previous : Option Condition
  cause : Option FireCause
  enteredAt : Nat
  investigation : Option Nat
  demand : Bool
  length : Nat
  delayed : Nat
  entries : List AlarmEntry
deriving DecidableEq, Repr

/-- What READ CIRCUITS carries beside the circuits of a range (R113, R115). -/
structure LightsReport where
  slots : Vector Nat 4
  presets : List (Bool × Nat)
  authority : Authority
  authorityAt : Nat
  authorityCause : Option AuthorityCause
  panic : Bool
  fireSeen : Condition
  phaseSeen : Phase
  stopSeen : Option StopRecord
  consoleSeen : Bool
  blackoutLine : Reading
  override : Bool
  blackout : Bool
deriving DecidableEq, Repr

/-- READ QUEUES (R179). -/
structure QueuesReport where
  pool : Nat
  waiting : Nat
  timetable : Nat
  ready : Nat
  finishedPrompt : Nat
  finishedHouse : Nat
  finishedBuiltIn : Nat
  promptQueue : Nat
  houseQueue : Nat
  callA : Option Nat
  callB : Option Nat
  evacuationLife : Life
  staffAlertLife : Life
deriving DecidableEq, Repr

/-- READ LINKS for one port (R179). -/
structure LinkReport where
  present : Bool
  changedAt : Option Nat
  lastValid : Option Nat
  period : Nat
  received : Nat
  sending : Nat
  overrun : Bool
deriving DecidableEq, Repr

/-- What a reply carries after its result (R173): the fields the owning rule names. -/
inductive Body where
  | empty
  | refusal (reason : Reason)
  | interlock (failing : List Interlock)
  | alarmPresent (entries delayed : Nat)
  | config (record : Nat) (ident : Option Nat) (fields : List Nat)
  | number (n : Nat)
  | clockValue (value : Nat)
  | countdown (ds : Nat) (intervalEnd : Option Nat)
  | condition (value : Condition)
  | curtainState (value : CurtainState)
  | presetStarted (preset duration : Nat)
  | panic (inForce override : Bool)
  | callCreated (number : Nat) (life : Life) (due : Option Nat)
  | lifeBefore (value : Life)
  | completions (entries : List Completion) (left : Nat)
  | gate (muted held : Bool)
  | house (record : House) (clock : Nat) (actClock : Option Nat) (demoRequired : Bool)
  | zones (first : Nat) (records : List Zone) (promptAttention houseAttention : Bool)
  | alarmList (report : AlarmReport)
  | curtain (report : CurtainReport)
  | descent (record : Option Descent)
  | window (positions : Option (List Nat))
  | circuits (first : Nat) (records : List (Circuit × Nat)) (report : LightsReport)
  | preset (levels : Vector Nat 48) (slot : Nat) (inUse : Bool)
  | call (number : Nat) (record : Descriptor) (anchorValue : Option Nat) (place : Option Nat)
  | queues (report : QueuesReport)
  | channels (a b : ChannelRecord) (playingA playingB : Bool) (paging : Vector PagingZone 12)
  | links (ports : List (Port × LinkReport))
deriving DecidableEq, Repr

/-- The result with which a reply begins (R173). -/
inductive Result where
  | done | clamped | refused
deriving DecidableEq, Repr

structure Answer where
  result : Result
  body : Body
deriving DecidableEq, Repr

/-! ## Station Links (R167) -/

/-- A received request frame: its kind and its payload. -/
structure Frame where
  kind : Byte
  payload : List Byte
deriving DecidableEq, Repr

/-- A frame that waits in a transmit queue. A reply carries the kind of its request plus 0x80 (R173). -/
inductive TxFrame where
  | reply (kind : Byte) (answer : Answer)
  | notice (body : Notice)
deriving DecidableEq, Repr

/-- One port (R167). `timer` is the time left on the supervision timer, absent when it is stopped; `overrun` holds
the clock value at which the mark was set; `receiver` holds the bytes of the frame in reception, none while hunting. -/
structure PortRecord where
  present : Bool
  timer : Option Nat
  rx : List Frame
  tx : List TxFrame
  overrun : Option Nat
  changedAt : Option Nat
  lastValid : Option Nat
  receiver : List Byte
deriving DecidableEq, Repr

def PortRecord.powerOn : PortRecord := ⟨false, none, [], [], none, none, none, []⟩

structure Links where
  prompt : PortRecord
  house : PortRecord
  panel : PortRecord
  console : PortRecord
deriving DecidableEq, Repr

def Links.powerOn : Links := ⟨.powerOn, .powerOn, .powerOn, .powerOn⟩

/-! ## The whole part -/

/-- The state of the part. -/
structure State where
  clock : Nat
  inert : Bool
  startUp : Option Nat
  pins : Pins
  params : Params
  lines : Vector LineRecord 13
  house : House
  intervalUpDue : Bool
  fire : Fire
  curtain : Curtain
  lights : Lights
  calls : Calls
  links : Links
  pending : List Instr
deriving DecidableEq, Repr

/-- The length of the start-up settle interval in ds (R185). -/
def startUpLength : Nat := 20

/-- The state that power-on makes, with the levels that stand on the pins (R184, Table 11-4). -/
def State.atPowerOn (pins : Pins) : State where
  clock := 0
  inert := false
  startUp := some startUpLength
  pins := pins
  params := Params.default
  lines := Lines.powerOn
  house := House.powerOn
  intervalUpDue := false
  fire := Fire.powerOn
  curtain := Curtain.powerOn
  lights := Lights.powerOn
  calls := Calls.powerOn
  links := Links.powerOn
  pending := []

/-- The part right after reset (R184): log 6 names the pin levels. -/
def State.reset : State := State.atPowerOn Pins.rest

/-- The part has no machine fault: every event and request has an effect in the spec. No meaning raises one. -/
inductive Fault where
deriving DecidableEq, Repr

/-- Why a command has no meaning. -/
inductive Refusal where
  /-- Raised by the dispatch alone, for a command with no meaning yet: safe, the machine stops. -/
  | notModelled (mnemonic : String)
deriving DecidableEq, Repr

/-- What a command answers. -/
abbrev Answered := Host.Outcome State Fault Refusal

end Sys2Proof.Machine
end

