-- ==== Sys2Proof/Machine/Ops.lean ====
section
/-! DEFINITION. Shared operations: acting on one block while collecting the notices it raises, placing frames in the
transmit queues (R176), timers, and access to ports, anchors and channels by name. -/
namespace Sys2Proof.Machine

/-! ## Acting on one block -/

/-- The state of one block during an event, with the notices raised so far, in the order raised. -/
structure Act (α : Type) where
  val : α
  out : List Mail

/-- Raise a notice (R175). -/
def Act.emit {α : Type} (m : Mail) (w : Act α) : Act α := { w with out := w.out ++ [m] }

/-- Raise several notices in order. -/
def Act.emitAll {α : Type} (ms : List Mail) (w : Act α) : Act α := { w with out := w.out ++ ms }

/-- Update the block. -/
def Act.map {α : Type} (f : α → α) (w : Act α) : Act α := { w with val := f w.val }

/-! ## Ports -/

def Links.get (l : Links) : Port → PortRecord
  | .prompt => l.prompt
  | .house => l.house
  | .panel => l.panel
  | .console => l.console

def Links.set (l : Links) (p : Port) (r : PortRecord) : Links :=
  match p with
  | .prompt => { l with prompt := r }
  | .house => { l with house := r }
  | .panel => { l with panel := r }
  | .console => { l with console := r }

/-- The port of a desk that creates calls. -/
def Desk.port : Desk → Port
  | .prompt => .prompt
  | .house => .house

def TxFrame.isNotice : TxFrame → Bool
  | .notice _ => true
  | .reply _ _ => false

/-- How many replies wait in a transmit queue (R172). -/
def PortRecord.replies (r : PortRecord) : Nat := (r.tx.filter fun f => !f.isNotice).length

/-- How many notices wait in a transmit queue (R176). -/
def PortRecord.notices (r : PortRecord) : Nat := (r.tx.filter TxFrame.isNotice).length

/-- The most notices a transmit queue holds, and the places kept for replies (R176). -/
def noticeRoom : Nat := 20
def replyRoom : Nat := 4

/-- One copy of a notice at one port (R176): dropped while the port is LOST, queued while fewer than 20 notices
wait, else dropped with the overrun mark set. The mark keeps the clock value at which it was set (R177). -/
def PortRecord.queueNotice (now : Nat) (n : Notice) (r : PortRecord) : PortRecord :=
  if !r.present then r
  else if r.notices < noticeRoom then { r with tx := r.tx ++ [.notice n] }
  else match r.overrun with
    | some _ => r
    | none => { r with overrun := some now }

/-- Every copy of one notice. -/
def Links.raise (now : Nat) (m : Mail) (l : Links) : Links :=
  m.ports.foldl (fun l p => l.set p ((l.get p).queueNotice now m.notice)) l

/-- Notices in the order raised (R176). -/
def Links.post (now : Nat) (ms : List Mail) (l : Links) : Links :=
  ms.foldl (fun l m => l.raise now m) l

/-- Raise notices from the whole part. -/
def State.post (ms : List Mail) (s : State) : State := { s with links := s.links.post s.clock ms }

/-- The reply joins the tail of the transmit queue as it stood when the request was taken, so it leaves before every
notice the request raises (R176). `before` is that queue's length. -/
def PortRecord.insertReply (before : Nat) (f : TxFrame) (r : PortRecord) : PortRecord :=
  { r with tx := r.tx.take before ++ f :: r.tx.drop before }

/-! ## Timers -/

/-- A timer that has run out: nothing is left on it (log 1). -/
def timerDone (t : Option Nat) : Bool := t == some 0

/-- A moment given as a clock value has come. -/
def timeReached (now : Nat) (at? : Option Nat) : Bool :=
  match at? with
  | some t => t ≤ now
  | none => false

/-- One decisecond off a running timer. -/
def runDown (t : Option Nat) : Option Nat := t.map (· - 1)

/-! ## Anchors -/

def Anchors.get (a : Anchors) : Anchor → Option Nat
  | .plannedUp => a.plannedUp
  | .houseOpen => a.houseOpen
  | .actStart => a.actStart
  | .intervalStart => a.intervalStart
  | .intervalEnd => a.intervalEnd
  | .curtainDown => a.curtainDown

/-- The anchors in the order of Table 1-2. -/
def Anchor.all : List Anchor :=
  [.plannedUp, .houseOpen, .actStart, .intervalStart, .intervalEnd, .curtainDown]

/-- The event of a change of one anchor; a write that leaves it as it was hands none (R3). -/
def anchorEvent : Option Nat → Option Nat → Option AnchorEvent
  | none, some _ => some .set
  | some _, none => some .cleared
  | some x, some y => if x = y then none else some .moved
  | none, none => none

/-- The anchor events of a change of the record, in the order of Table 1-2 (R3). -/
def anchorEvents (old new : Anchors) : List (Anchor × AnchorEvent) :=
  Anchor.all.filterMap fun a => (anchorEvent (old.get a) (new.get a)).map (a, ·)

/-! ## Channels, lines and pins -/

def Calls.chan (c : Calls) : Channel → ChannelRecord
  | .a => c.chanA
  | .b => c.chanB

def Calls.setChan (c : Calls) (ch : Channel) (r : ChannelRecord) : Calls :=
  match ch with
  | .a => { c with chanA := r }
  | .b => { c with chanB := r }

def otherChannel : Channel → Channel
  | .a => .b
  | .b => .a

def Pins.playing (p : Pins) : Channel → Bool
  | .a => p.playingA
  | .b => p.playingB

def Pins.setPlaying (p : Pins) (ch : Channel) (level : Bool) : Pins :=
  match ch with
  | .a => { p with playingA := level }
  | .b => { p with playingB := level }

/-- The fire release line, the manual release button, the blackout button and the two limits (Table 11-3). -/
def fireLine : Line := 8
def manualLine : Line := 9
def blackoutLine : Line := 10
def bottomLine : Line := 11
def topLine : Line := 12

/-- The settled state of a line, absent before its baseline (R86). -/
def State.settled (s : State) (l : Line) : Option Reading := s.lines[l].settled

/-- A supervision period by port (Table 11-2). -/
def Params.supervision (p : Params) : Port → Nat
  | .prompt => p.supervisionP
  | .house => p.supervisionH
  | .panel => p.supervisionF
  | .console => p.supervisionC

/-! ## What a request answers -/

def done (b : Body) : Answer := ⟨.done, b⟩
def refuse (r : Reason) : Answer := ⟨.refused, .refusal r⟩

/-- CLAMPED when a quantity was brought into range, DONE otherwise (R174). -/
def doneOrClamped (clamped : Bool) (b : Body) : Answer := ⟨if clamped then .clamped else .done, b⟩

end Sys2Proof.Machine
end

