-- ==== Sys2Proof/Machine/Flags.lean ====
section
/-! DEFINITION. Conditions and outputs that follow from the state: occupied, the clocks, attention (R42), position
(R63), the held demands (R64), the interlocks (R7, R69, R72, R116), override and blackout (R115, R124), the output
levels (R126) and the output lines while the part is held inert (R184). -/
namespace Sys2Proof.Machine

/-! ## The house -/

/-- The phases in which the house is occupied (Table 1-3). -/
def Phase.occupied : Phase → Bool
  | .houseOpen | .act | .interval | .stopped | .emptying => true
  | .unconfigured | .dark | .preset => false

/-- The act clock: present in ACT and in STOPPED with origin ACT (R2). -/
def House.actClock (h : House) (now : Nat) : Option Nat :=
  let runs : Bool := match h.phase with
    | .act => true
    | .stopped => (h.stop.map (·.origin)) == some .act
    | _ => false
  if runs then h.anchors.actStart.map (now - ·) else none

/-! ## The zones -/

/-- Whether some zone is DELAYED (R36). -/
def Fire.anyDelayed (f : Fire) : Bool := f.zones.toList.any fun z => z.state == .delayed

/-- How many zones are DELAYED (R53, R60). -/
def Fire.delayedCount (f : Fire) : Nat := (f.zones.toList.filter fun z => z.state == .delayed).length

/-- PROMPT ATTENTION (R42). -/
def Fire.promptAttention (f : Fire) : Bool := f.zones.toList.any (·.pendingPrompt)

/-- HOUSE ATTENTION (R42). -/
def Fire.houseAttention (f : Fire) : Bool := f.zones.toList.any (·.pendingHouse)

/-- The FIRE demand that R56 gives for a condition and the zones on the alarm list. -/
def Fire.demandFor (f : Fire) (c : Condition) : Bool :=
  match c with
  | .evacuate => true
  | .alert => f.alarmList.any fun z => f.zones[z].curtainRelease
  | .quiet => false

/-! ## The curtain -/

/-- The count: the raw count less the home offset, 0 below 0 (R63). -/
def countOf (raw home : Nat) : Nat := raw - home

/-- The position in mm: floor(count × 1,000 / C), not clamped (R63, R88). -/
def positionOf (raw home perMetre : Nat) : Nat := countOf raw home * 1000 / perMetre

/-- The position at this moment, from the encoder as last read (log 4). -/
def State.position (s : State) : Nat :=
  positionOf s.pins.encoder.toNat s.curtain.homeOffset s.params.curtain.countsPerMetre

/-- A held demand is present (R64). -/
def Curtain.heldDemand (c : Curtain) : Bool := c.fireDemand || c.hardLine || c.manual

/-- The retard state of the descent record. -/
def Curtain.retardState (c : Curtain) : Bool :=
  match c.descent with
  | some d => d.retard
  | none => false

/-- The outputs of a curtain state (Table 4-2). -/
def Curtain.outputs (c : Curtain) : CurtainOutputs :=
  match c.state with
  | .stowed | .halted => ⟨true, false, false, false⟩
  | .raising => ⟨true, true, false, false⟩
  | .descending => ⟨false, false, false, c.retardState⟩
  | .secondary | .jammed => ⟨false, false, true, false⟩
  | .landed => ⟨false, false, false, false⟩

/-- The outputs on the pins: all de-energized while the part is held inert (R184). -/
def State.curtainOutputs (s : State) : CurtainOutputs :=
  if s.inert then ⟨false, false, false, false⟩ else s.curtain.outputs

/-- PROMPT ATTENTION and HOUSE ATTENTION on the pins (R42, R184). -/
def State.promptAttention (s : State) : Bool := !s.inert && s.fire.promptAttention
def State.houseAttention (s : State) : Bool := !s.inert && s.fire.houseAttention

/-- The relay of a paging zone: OFF (none) while FREE, else the channel it connects (R148, R184). -/
def State.relay (s : State) (z : Fin 12) : Option Channel := if s.inert then none else s.calls.paging[z].conn

/-- The message output of a channel (R151, R184). -/
def State.messageOutput (s : State) (ch : Channel) : Nat := if s.inert then 0 else (s.calls.chan ch).message

/-- The strobe outputs of a channel: START and STOP (R150, R184). -/
def State.strobes (s : State) (ch : Channel) : Bool × Bool :=
  if s.inert then (false, false) else ((s.calls.chan ch).startStrobe, (s.calls.chan ch).stopStrobe)

/-! ## Interlocks: every condition that holds, in bit order (R174, Table 10-5) -/

/-- The conditions of a list of tests that hold. -/
def failing (tests : List (Interlock × Bool)) : List Interlock :=
  tests.filterMap fun t => if t.2 then some t.1 else none

/-- The Go Act interlock (R7); `entering` is the act to be entered for GO ACT, absent for RESUME. -/
def State.goActInterlock (s : State) (entering : Option Nat) : List Interlock :=
  failing [
    (.clearanceWithheld, s.house.clearance == .withheld),
    (.fireNotQuiet, s.fire.condition != .quiet),
    (.curtainNotStowed, s.curtain.state != .stowed),
    (.zoneDelayed, s.fire.anyDelayed),
    (.demonstrationOutstanding, entering == some 1 && s.params.demoRequired && !s.house.curtainShown)]

/-- The conditions of DEMONSTRATE CURTAIN (R69). -/
def State.demonstrateInterlock (s : State) : List Interlock :=
  failing [(.fireNotQuiet, s.fire.condition != .quiet), (.curtainNotStowed, s.curtain.state != .stowed)]

/-- The conditions of RAISE HOLD (R72). -/
def State.raiseInterlock (s : State) : List Interlock :=
  failing [
    (.fireNotQuiet, s.fire.condition != .quiet),
    (.releaseDemand, s.curtain.heldDemand),
    (.curtainJammed, s.curtain.state == .jammed || s.curtain.faults.jammed.isSome)]

/-- The conditions of TAKE LIGHTS (R116). -/
def Lights.takeInterlock (l : Lights) : List Interlock :=
  failing [(.linkLost, !l.consoleSeen), (.evacuationInForce, l.fireSeen == .evacuate)]

def Interlock.bit : Interlock → Nat
  | .clearanceWithheld => 0
  | .fireNotQuiet => 1
  | .curtainNotStowed => 2
  | .zoneDelayed => 3
  | .demonstrationOutstanding => 4
  | .releaseDemand => 5
  | .curtainJammed => 6
  | .linkLost => 7
  | .evacuationInForce => 8

/-- The set of conditions as R174 sends it. -/
def interlockSet (failed : List Interlock) : BitVec 16 :=
  failed.foldl (fun acc i => acc ||| BitVec.twoPow 16 i.bit) 0

/-! ## The lights -/

/-- The override is on while panic is in force or the fire condition seen is EVACUATE (R115). -/
def Lights.override (l : Lights) : Bool := l.panic || l.fireSeen == .evacuate

/-- Blackout is effective (R115, R124). -/
def Lights.blackoutEffective (l : Lights) : Bool :=
  l.blackout == .active && l.phaseSeen == .act && !l.override

/-- The output level of one circuit (R126). -/
def Lights.outputOf (l : Lights) (escapeMin : Nat) (c : Circuit) : Nat :=
  if l.override then 255
  else
    let m := if l.blackoutEffective && !c.masked then 0 else c.base
    if l.phaseSeen.occupied && c.escapeLit then max m escapeMin else m

/-- The output levels of all circuits. -/
def State.outputLevels (s : State) : Vector Nat 48 :=
  vmap (s.lights.outputOf s.params.escapeMin) s.lights.circuits

/-- The phases in which the console may hold the authority (R116, R118). -/
def Phase.consolePhase : Phase → Bool
  | .houseOpen | .act | .interval => true
  | _ => false

end Sys2Proof.Machine
end

