-- ==== Sys2Proof/Machine/Calls.lean ====
section
/-! DEFINITION. The Call Scheduler (08_calls_and_the_timetable.md) and the reporting of finished calls (09, section
9.5): collections, arming, anchor events, finishing, the drain. -/
namespace Sys2Proof.Machine

/-- What the Call Scheduler and the Call Arbiter read outside their own state: the clock, the anchors, the levels of
the PLAYING lines and the configuration of the built-in calls. -/
structure CallEnv where
  now : Nat
  anchors : Anchors
  playingA : Bool
  playingB : Bool
  evacuationCall : BuiltInConfig
  staffAlertCall : BuiltInConfig

def State.callEnv (s : State) : CallEnv :=
  ⟨s.clock, s.house.anchors, s.pins.playingA, s.pins.playingB, s.params.evacuationCall, s.params.staffAlertCall⟩

def CallEnv.playing (e : CallEnv) : Channel → Bool
  | .a => e.playingA
  | .b => e.playingB

/-- Let the Call Scheduler and the Call Arbiter act. -/
def State.onCalls (f : CallEnv → Act Calls → Act Calls) (s : State) : State :=
  let w := f s.callEnv ⟨s.calls, []⟩
  { s with calls := w.val, links := s.links.post s.clock w.out }

/-! ## Descriptors and collections -/

/-- The number of a descriptor (R129). -/
def callNumber (i : CallId) : Nat := i.val + 1

/-- A general descriptor has a number of 3 or more (R129). -/
def isGeneral (i : CallId) : Bool := 2 ≤ i.val

def Calls.setDesc (i : CallId) (d : Descriptor) (c : Calls) : Calls := { c with table := c.table.set i d }

/-- Insert before the first entry that `x` precedes: behind every entry it does not precede (R131, R132). -/
def insertBy {α : Type} (before : α → α → Bool) (x : α) : List α → List α
  | [] => [x]
  | y :: ys => if before x y then x :: y :: ys else y :: insertBy before x ys

/-- The class of a call in the ready queue: IMMEDIATE before SCHEDULED (R132). -/
def Descriptor.classRank (d : Descriptor) : Nat := if d.kind = .immediate then 0 else 1

/-- The order of the ready queue: class, entry time, number (R132). -/
def Calls.readyBefore (c : Calls) (i j : CallId) : Bool :=
  let a := c.table[i]
  let b := c.table[j]
  let ea := a.entry.getD 0
  let eb := b.entry.getD 0
  a.classRank < b.classRank ||
    (a.classRank == b.classRank && (ea < eb || (ea == eb && i.val < j.val)))

def Calls.joinReady (i : CallId) (c : Calls) : Calls := { c with ready := insertBy c.readyBefore i c.ready }

/-- The timetable keeps its calls by due time, equal due times in order of entry (R131). -/
def Calls.joinTimetable (i : CallId) (c : Calls) : Calls :=
  { c with timetable :=
      insertBy (fun i j => (c.table[i].due.getD 0) < (c.table[j].due.getD 0)) i c.timetable }

/-- The anchor-waiting list keeps the order of creation (R131). -/
def Calls.joinWaiting (i : CallId) (c : Calls) : Calls :=
  { c with waiting := insertBy (fun i j => c.creation[i] < c.creation[j]) i c.waiting }

/-- The free pool, lowest number first (R131). -/
def Calls.joinPool (i : CallId) (c : Calls) : Calls :=
  { c with pool := insertBy (fun i j => i.val < j.val) i c.pool }

/-- A descriptor leaves the collections in which a live call waits. -/
def Calls.leave (i : CallId) (c : Calls) : Calls :=
  { c with
    waiting := c.waiting.erase i
    timetable := c.timetable.erase i
    ready := c.ready.erase i }

/-- The deadline of an entry into READY: none when the lifetime is 0 (R141). -/
def deadlineOf (entry lifetime : Nat) : Option Nat :=
  if lifetime = 0 then none else some (satClock (entry + lifetime))

/-- A call enters READY now (R134, R135, R139), its due time and basis removed. -/
def enterReady (now : Nat) (i : CallId) (c : Calls) : Calls :=
  let d := c.table[i]
  (c.setDesc i { d with
    life := .ready, due := none, basis := none, entry := some now,
    deadline := deadlineOf now d.lifetime }).joinReady i

/-- A call becomes TIMED and joins the timetable (R135). -/
def enterTimed (due : Nat) (basis : DueBasis) (i : CallId) (c : Calls) : Calls :=
  (c.setDesc i { c.table[i] with
    life := .timed, due := some due, basis := some basis, entry := none, deadline := none }).joinTimetable i

/-- A call becomes WAITING (R134, R138). -/
def enterWaiting (i : CallId) (c : Calls) : Calls :=
  (c.setDesc i { c.table[i] with life := .waiting, due := none, basis := none }).joinWaiting i

/-! ## Finished calls (R164, R165) -/

def Calls.queue (c : Calls) : Desk → List Completion
  | .prompt => c.promptQueue
  | .house => c.houseQueue

def Calls.setQueue (c : Calls) (k : Desk) (q : List Completion) : Calls :=
  match k with
  | .prompt => { c with promptQueue := q }
  | .house => { c with houseQueue := q }

/-- The number of entries a completion queue holds (R165). -/
def completionRoom : Nat := 16

/-- The desk to whose queue an item goes; the built-in calls' creator is the house desk (R130). -/
def Calls.ownerOf (c : Calls) : Finished → Desk
  | .general i => c.table[i].creator
  | .builtIn _ _ => .house

/-- The completion entry of a finished general call, made from its descriptor (R165). -/
def Descriptor.completion (d : Descriptor) (i : CallId) : Completion :=
  ⟨callNumber i, d.message, d.outcome.getD .cancelled, d.plays, d.missed, d.finishTime.getD 0, 1⟩

def Calls.entryOf (c : Calls) : Finished → Completion
  | .general i => c.table[i].completion i
  | .builtIn _ e => e

/-- A descriptor returns to the free pool, with no field but its number present (R165, R129). -/
def freeCall (i : CallId) (c : Calls) : Calls := (c.setDesc i Descriptor.free).joinPool i

/-- The oldest `room` items of a desk leave the finished list; the answer is what leaves and what stays. -/
def takeOwned (owned : Finished → Bool) : Nat → List Finished → List Finished × List Finished
  | _, [] => ([], [])
  | room, x :: xs =>
    if room = 0 then ([], x :: xs)
    else if owned x then
      let r := takeOwned owned (room - 1) xs
      (x :: r.1, r.2)
    else
      let r := takeOwned owned room xs
      (r.1, x :: r.2)

/-- Move one item into a completion queue, freeing a general descriptor (R165). -/
def drainItem (k : Desk) (c : Calls) (x : Finished) : Calls :=
  let c' := c.setQueue k (c.queue k ++ [c.entryOf x])
  match x with
  | .general i => freeCall i c'
  | .builtIn _ _ => c'

/-- The drain for one desk (R165); `quiet` is the drain of COLLECT COMPLETIONS, which raises no notice (R166). -/
def drain (quiet : Bool) (k : Desk) (w : Act Calls) : Act Calls :=
  let c := w.val
  let r := takeOwned (fun x => c.ownerOf x = k) (completionRoom - (c.queue k).length) c.finished
  let c' := r.1.foldl (drainItem k) { c with finished := r.2 }
  { val := c'
    out := if !quiet && (c.queue k).isEmpty && !(c'.queue k).isEmpty then
        w.out ++ [⟨[k.port], .completionsWaiting (c'.queue k).length⟩]
      else w.out }

/-- The notice of a finished call (R164). -/
def finishedMail (i : CallId) (d : Descriptor) (o : CallOutcome) (now : Nat) : List Mail :=
  if d.notify then
    [⟨[d.creator.port], .callFinished ⟨callNumber i, d.message, o, d.plays, d.missed, now⟩⟩]
  else []

/-- A general call finishes (R143, R164): it leaves where it stands, its outcome and finish time are recorded, its
notice is raised, it joins the finished list and its creator's drain is taken. -/
def finishCall (now : Nat) (i : CallId) (o : CallOutcome) (w : Act Calls) : Act Calls :=
  let d := w.val.table[i]
  let c := (w.val.leave i).setDesc i { d with
    life := .finished, due := none, basis := none, entry := none, deadline := none, channel := none,
    outcome := some o, finishTime := some now }
  drain false d.creator
    { val := { c with finished := c.finished ++ [.general i] }
      out := w.out ++ finishedMail i d o now }

/-- EXPIRED before the first play, PARTIAL after it (R141). -/
def Descriptor.lateOutcome (d : Descriptor) : CallOutcome := if d.plays = 0 then .expired else .partly

/-! ## Arming (R135) -/

/-- Where arming puts a call (the cases of R135). -/
inductive Placing where
  | timed | expired | ready
deriving DecidableEq, Repr

def placingOf (now due lifetime : Nat) (fire : Condition) : Placing :=
  if now < due then .timed
  else if fire = .evacuate then .timed
  else if 0 < lifetime ∧ due + lifetime < now then .expired
  else .ready

/-- Arm a call, which stands in no collection, with a due time (R135). -/
def armCall (now : Nat) (due : Nat) (basis : DueBasis) (i : CallId) (w : Act Calls) : Act Calls :=
  match placingOf now due w.val.table[i].lifetime w.val.fireSeen with
  | .timed => w.map (enterTimed due basis i)
  | .expired => finishCall now i .expired w
  | .ready => w.map (enterReady now i)

/-- The due time of an anchor value and an offset: below 0 gives 0, above the maximum gives the maximum (R135). -/
def dueFromAnchor (value : Nat) (offset : Int) : Nat := satClock ((value : Int) + offset).toNat

/-- The due time of a call from its anchor, absent while the anchor is. -/
def CallEnv.anchorDue (e : CallEnv) (d : Descriptor) : Option Nat :=
  (d.anchor.bind e.anchors.get).map fun v => dueFromAnchor v d.offset

/-- Arm a call from its anchor (R135); while the anchor is absent the call is WAITING (R134). -/
def armFromAnchor (e : CallEnv) (i : CallId) (w : Act Calls) : Act Calls :=
  match e.anchorDue w.val.table[i] with
  | some due => armCall e.now due .anchor i w
  | none => w.map (enterWaiting i)

/-! ## Anchor events (R136 to R138) -/

/-- SET: the WAITING calls on the anchor are armed in the order of the list (R136). -/
def onAnchorSet (e : CallEnv) (a : Anchor) (w : Act Calls) : Act Calls :=
  (w.val.waiting.filter fun i => w.val.table[i].anchor = some a).foldl
    (fun w i => armFromAnchor e i (w.map (Calls.leave i))) w

/-- The TIMED calls on an anchor with due basis ANCHOR, in timetable order. -/
def Calls.timedOn (c : Calls) (a : Anchor) : List CallId :=
  c.timetable.filter fun i => c.table[i].anchor = some a ∧ c.table[i].basis = some .anchor

/-- MOVED: those calls leave the timetable and are armed again, one at a time (R137). -/
def onAnchorMoved (e : CallEnv) (a : Anchor) (w : Act Calls) : Act Calls :=
  (w.val.timedOn a).foldl (fun w i => armFromAnchor e i (w.map (Calls.leave i))) w

/-- CLEARED: those calls return to WAITING (R138). -/
def onAnchorCleared (a : Anchor) (w : Act Calls) : Act Calls :=
  (w.val.timedOn a).foldl (fun w i => w.map fun c => enterWaiting i (c.leave i)) w

def onAnchorEvent (e : CallEnv) (a : Anchor) : AnchorEvent → Act Calls → Act Calls
  | .set => onAnchorSet e a
  | .moved => onAnchorMoved e a
  | .cleared => onAnchorCleared a

/-! ## Falling due (R139, R140) -/

/-- The calls at the head of the timetable whose due time is at or before now (R139). -/
def Calls.dueNow (now : Nat) (c : Calls) : List CallId :=
  c.timetable.takeWhile fun i => timeReached now c.table[i].due

/-- Every call that has fallen due enters READY (R139). -/
def takeDue (now : Nat) (w : Act Calls) : Act Calls :=
  (w.val.dueNow now).foldl (fun w i => w.map fun c => enterReady now i (c.leave i)) w

/-- The catch-up at RESTORE: the calls already due are armed with their own due times (R140). -/
def catchUp (now : Nat) (w : Act Calls) : Act Calls :=
  (w.val.dueNow now).foldl (fun w i =>
    let d := w.val.table[i]
    armCall now (d.due.getD 0) (d.basis.getD .anchor) i (w.map (Calls.leave i))) w

/-- The hand-off of the fire condition to the Call Scheduler (R140). -/
def schedulerFireHandoff (new : Condition) (e : CallEnv) (w : Act Calls) : Act Calls :=
  let old := w.val.fireSeen
  let w := w.map fun c => { c with fireSeen := new }
  if old = .evacuate ∧ new = .quiet then catchUp e.now w else w

/-- The repeat or the finish of a general call whose play has ended (R142). -/
def afterPlay (now : Nat) (i : CallId) (w : Act Calls) : Act Calls :=
  let d := w.val.table[i]
  if d.repeatCount = 255 ∨ d.plays < d.repeatCount then armCall now (satClock (now + d.gap)) .replay i w
  else finishCall now i (if d.missed = 0 then .delivered else .partly) w

end Sys2Proof.Machine
end

