-- ==== Sys2Proof/Machine/Arbiter.lean ====
section
/-! DEFINITION. The Call Arbiter and the announcement channels (09_announcement_channels_and_the_call_arbiter.md):
starts, stops, faults, the walk of the ready queue, and the built-in calls. -/
namespace Sys2Proof.Machine

/-! ## Paging zones as sets -/

/-- The set of the paging zones that pass a test. -/
def Calls.zonesWhere (c : Calls) (f : PagingZone → Bool) : ZoneSet :=
  BitVec.ofNat 12 (bitsToNat (c.paging.toList.map f))

def Calls.mutedZones (c : Calls) : ZoneSet := c.zonesWhere (·.muted)
def Calls.staffZones (c : Calls) : ZoneSet := c.zonesWhere (·.staff)
def Calls.evacZones (c : Calls) : ZoneSet := c.zonesWhere (·.evac)

/-- The zones that are FREE and not HELD (R157). -/
def Calls.openZones (c : Calls) : ZoneSet := c.zonesWhere fun z => z.conn.isNone && !z.held

/-- Two sets share a zone. -/
def meets (a b : ZoneSet) : Bool := a &&& b != 0

/-- How many zones a set names (R163). -/
def zoneCount (z : ZoneSet) : Nat := ((List.range 12).filter z.getLsbD).length

/-- Connect the zones of a set to a channel (R151). -/
def Calls.connect (ch : Channel) (set : ZoneSet) (c : Calls) : Calls :=
  { c with paging := vmapIdx (fun i z => if set.getLsbD i then { z with conn := some ch } else z) c.paging }

/-- Every zone connected to a channel becomes FREE (R148). -/
def Calls.release (ch : Channel) (c : Calls) : Calls :=
  { c with paging := vmap (fun z => if z.conn = some ch then { z with conn := none } else z) c.paging }

/-! ## The built-in calls' records -/

/-- The descriptor of a built-in call (R130). -/
def builtInCall : BuiltIn → CallId
  | .evacuation => 0
  | .staffAlert => 1

def builtInKind : BuiltIn → CallKind
  | .evacuation => .evacuation
  | .staffAlert => .staffAlert

def builtInOf (i : CallId) : Option BuiltIn :=
  if i.val = 0 then some .evacuation else if i.val = 1 then some .staffAlert else none

def Calls.run (c : Calls) : BuiltIn → RunPosition
  | .evacuation => c.evacuation
  | .staffAlert => c.staffAlert

def Calls.setRun (c : Calls) (b : BuiltIn) (r : RunPosition) : Calls :=
  match b with
  | .evacuation => { c with evacuation := r }
  | .staffAlert => { c with staffAlert := r }

/-- The zone set of a built-in call, read from the paging zone table (R130). -/
def Calls.builtInZones (c : Calls) : BuiltIn → ZoneSet
  | .evacuation => c.evacZones
  | .staffAlert => c.staffZones

def CallEnv.builtInConfig (e : CallEnv) : BuiltIn → BuiltInConfig
  | .evacuation => e.evacuationCall
  | .staffAlert => e.staffAlertCall

/-- Some built-in call waits for a channel (R157, R159). -/
def Calls.builtInWaits (c : Calls) : Bool := c.evacuation == .waiting || c.staffAlert == .waiting

/-- The descriptor of a built-in call at the beginning of a run (R159, R130). No zone set is stored ahead of a start
(R130). The beginning of the run is taken as created at and as the entry time, which the run keeps (log 32). -/
def builtInDescriptor (e : CallEnv) (b : BuiltIn) : Descriptor :=
  let g := e.builtInConfig b
  { Descriptor.free with
    life := .ready, kind := builtInKind b, creator := .house, message := g.message, length := g.length,
    repeatCount := 255, gap := g.gap, createdAt := e.now, entry := some e.now }

/-- A run begins, waiting for a channel (R159). -/
def beginRun (e : CallEnv) (b : BuiltIn) (c : Calls) : Calls :=
  (c.setDesc (builtInCall b) (builtInDescriptor e b)).setRun b .waiting

/-- A built-in call in its run waits for a channel again (R159): READY, on no channel, and with no zone set until its
next start reads one (R130). Its entry time stays that of the run (log 32). -/
def waitAgain (b : BuiltIn) (c : Calls) : Calls :=
  (c.setDesc (builtInCall b) { c.table[builtInCall b] with life := .ready, channel := none, zones := 0 }).setRun b .waiting

/-- An entry for a built-in call that waits in the finished list already takes the new run (R164). -/
def mergeRun (old new : Completion) : Completion :=
  { old with
    outcome := new.outcome, finishTime := new.finishTime, plays := min 255 (old.plays + new.plays)
    runs := min 255 (old.runs + 1) }

def joinBuiltIn (b : BuiltIn) (e : Completion) : List Finished → List Finished
  | [] => [.builtIn b e]
  | x :: xs =>
    match x with
    | .builtIn b' old => if b' = b then .builtIn b (mergeRun old e) :: xs else x :: joinBuiltIn b e xs
    | .general _ => x :: joinBuiltIn b e xs

/-- A built-in call finishes (R143, R161, R164). It keeps the zone set stored, the empty one where its run ended while
it waited (log 33). -/
def finishBuiltIn (now : Nat) (b : BuiltIn) (o : CallOutcome) (w : Act Calls) : Act Calls :=
  let d := { w.val.table[builtInCall b] with
    life := .finished, entry := none, deadline := none, channel := none, outcome := some o, finishTime := some now }
  drain false .house (w.map fun c =>
    let c := (c.setDesc (builtInCall b) d).setRun b .notRunning
    { c with finished := joinBuiltIn b (d.completion (builtInCall b)) c.finished })

/-! ## Starting, stopping and faulting a channel -/

/-- How long a player may take to answer or to stop, and the margin of the guard timer (Table 9-2). -/
def playerTime : Nat := 10
def guardMargin : Nat := 20

/-- A channel record at the start of a play (R151). -/
def ChannelRecord.starting (i : CallId) (message : Nat) (live missedBefore : ZoneSet) (r : ChannelRecord) :
    ChannelRecord :=
  { r with
    state := .starting, call := some i, message := message, live := live, missedBefore := missedBefore,
    startTimer := some playerTime, guardTimer := none, stopTimer := none, reserved := none, startStrobe := true }

/-- A channel record that carries nothing, in a given state. -/
def ChannelRecord.emptied (state : ChannelState) (r : ChannelRecord) : ChannelRecord :=
  { r with
    state := state, call := none, message := 0, live := 0, missedBefore := 0, startTimer := none,
    guardTimer := none, stopTimer := none, reserved := none, fault := none }

/-- A call starts on a channel with a live set (R151). -/
def startPlay (ch : Channel) (i : CallId) (live : ZoneSet) (c : Calls) : Calls :=
  let d := c.table[i]
  let c := { c with ready := c.ready.erase i }
  let c := c.setDesc i { d with
    life := .playing, deadline := none, channel := some ch,
    missed := if isGeneral i then d.missed ||| (d.zones &&& ~~~live) else d.missed }
  let c := c.connect ch live
  c.setChan ch ((c.chan ch).starting i d.message live d.missed)

/-- A channel that carried a call is stopped, the call already taken from it (R154). -/
def stopChannel (e : CallEnv) (ch : Channel) (c : Calls) : Calls :=
  let c := c.release ch
  let r := c.chan ch
  c.setChan ch
    (if e.playing ch then
      { (r.emptied .stopping) with stopTimer := some playerTime, stopStrobe := true }
    else { (r.emptied .idle) with stopStrobe := true })

/-- Whether a channel carries a call. -/
def ChannelRecord.carrying (r : ChannelRecord) : Bool := r.state == .starting || r.state == .playing

/-- The general call that a channel carries. -/
def Calls.generalOn (c : Calls) (ch : Channel) : Option CallId :=
  if (c.chan ch).carrying then (c.chan ch).call.filter isGeneral else none

/-- A general call on a channel is pre-empted: it finishes and its channel is stopped (R159, R160). -/
def preEmpt (e : CallEnv) (ch : Channel) (w : Act Calls) : Act Calls :=
  match w.val.generalOn ch with
  | some i => (finishCall e.now i .preEmpted w).map (stopChannel e ch)
  | none => w

/-- A channel becomes FAULTED with its CHANNEL FAULT notice (R155); `call` is the call it carried where the notice
names it, `strobe` tells whether STOP is given. Its zones are FREE from then on. -/
def faultChannel (ch : Channel) (reason : ChannelFault) (call : Option (CallId × Nat)) (strobe : Bool)
    (w : Act Calls) : Act Calls :=
  let c := w.val.release ch
  let r := c.chan ch
  { val := c.setChan ch
      { (r.emptied .faulted) with fault := some reason, stopStrobe := r.stopStrobe || strobe }
    out := w.out ++ [⟨[.prompt, .house], .channelFault
      ⟨ch, reason, call.map (fun x => callNumber x.1), call.map (·.2), (c.chan (otherChannel ch)).state⟩⟩] }

/-! ## The walk of the ready queue (R156 to R158) -/

/-- A channel is IDLE and not reserved (R157). -/
def ChannelRecord.usable (r : ChannelRecord) : Bool := r.state == .idle && r.reserved.isNone

/-- The first usable channel, A before B, while no built-in call waits (R157). -/
def Calls.usableChannel (c : Calls) : Option Channel :=
  if c.builtInWaits then none
  else if c.chanA.usable then some .a
  else if c.chanB.usable then some .b
  else none

/-- The live set of a general call at this moment (R157). -/
def Calls.liveSet (c : Calls) (i : CallId) : ZoneSet := c.table[i].zones &&& ~~~c.mutedZones

/-- The zones of a live set allow a start (R157): all FREE and not HELD, none reserved, and in ALERT no staff zone. -/
def Calls.zonesAllow (c : Calls) (live reserved : ZoneSet) : Bool :=
  live &&& ~~~c.openZones == 0 && !meets live reserved && !(c.arbiterFire == .alert && meets live c.staffZones)

/-- A call whose live set is empty finishes without a channel (R158). -/
def silence (now : Nat) (i : CallId) (w : Act Calls) : Act Calls :=
  let d := w.val.table[i]
  finishCall now i (if d.plays = 0 then .silenced else .partly)
    (w.map (Calls.setDesc i { d with missed := d.missed ||| d.zones }))

/-- One call of a walk, with the reserved set so far (R157). -/
def walkOne (now : Nat) (a : Act Calls × ZoneSet) (i : CallId) : Act Calls × ZoneSet :=
  let c := a.1.val
  let live := c.liveSet i
  if live = 0 then (silence now i a.1, a.2)
  else
    match c.usableChannel with
    | some ch => if c.zonesAllow live a.2 then (a.1.map (startPlay ch i live), a.2) else (a.1, a.2 ||| live)
    | none => (a.1, a.2 ||| live)

/-- A walk of the ready queue from its head (R157); none is made while the recorded condition is EVACUATE (R156). -/
def walk (now : Nat) (w : Act Calls) : Act Calls :=
  if w.val.arbiterFire = .evacuate then w else (w.val.ready.foldl (walkOne now) (w, 0)).1

/-- A walk when the ready queue has changed (R132, R156). -/
def walkOnChange (now : Nat) (before : Calls) (w : Act Calls) : Act Calls :=
  if w.val.ready = before.ready then w else walk now w

/-! ## The built-in calls in action (R159 to R163) -/

/-- The start of a built-in play on an IDLE channel (R151, R159): a general call on the other channel whose live set
meets its zones is pre-empted first. -/
def startBuiltIn (e : CallEnv) (b : BuiltIn) (ch : Channel) (w : Act Calls) : Act Calls :=
  let zones := w.val.builtInZones b
  let w := if meets (w.val.chan (otherChannel ch)).live zones then preEmpt e (otherChannel ch) w else w
  w.map fun c =>
    let c := c.setDesc (builtInCall b) { c.table[builtInCall b] with zones := zones }
    (startPlay ch (builtInCall b) zones c).setRun b (.onChannel ch)

/-- The EVACUATION UNANNOUNCED notice (R163). -/
def unannounced (c : Calls) : Mail :=
  ⟨[.prompt, .house], .evacuationUnannounced c.chanA.fault c.chanB.fault (zoneCount c.evacZones)⟩

/-- The channel the evacuation call would take: A when IDLE, B only while A is FAULTED (R162). -/
def Calls.evacChannel (c : Calls) : Option Channel :=
  if c.chanA.state = .idle then some .a
  else if c.chanA.state = .faulted ∧ c.chanB.state = .idle then some .b
  else none

/-- The waiting evacuation call looks for a channel (R162, R163). `announce` is set on the occasions at which both
channels FAULTED raise the notice (log 12). -/
def seekEvacuation (e : CallEnv) (announce : Bool) (w : Act Calls) : Act Calls :=
  if w.val.evacuation = .waiting then
    if w.val.evacZones = 0 then w.emit (unannounced w.val)
    else
      match w.val.evacChannel with
      | some ch => startBuiltIn e .evacuation ch w
      | none =>
        if announce ∧ w.val.chanA.state = .faulted ∧ w.val.chanB.state = .faulted then w.emit (unannounced w.val)
        else w
  else w

/-- The waiting staff alert looks for a channel: the first that is IDLE, A before B (R160). -/
def seekStaffAlert (e : CallEnv) (w : Act Calls) : Act Calls :=
  if w.val.staffAlert = .waiting ∧ w.val.staffZones ≠ 0 then
    if w.val.chanA.state = .idle then startBuiltIn e .staffAlert .a w
    else if w.val.chanB.state = .idle then startBuiltIn e .staffAlert .b w
    else w
  else w

/-- Both built-in calls look for a channel; at most one of them is running. -/
def seekBuiltIns (e : CallEnv) (announce : Bool) (w : Act Calls) : Act Calls :=
  seekStaffAlert e (seekEvacuation e announce w)

/-- What follows a channel becoming IDLE: a waiting built-in call takes it first, then one walk (R156, R159). -/
def afterIdle (e : CallEnv) (w : Act Calls) : Act Calls := walk e.now (seekBuiltIns e true w)

/-- The staff alert begins on the change to ALERT (R160). -/
def beginStaffAlert (e : CallEnv) (w : Act Calls) : Act Calls :=
  let staff := w.val.staffZones
  let cut := fun (ch : Channel) (w : Act Calls) => if meets (w.val.chan ch).live staff then preEmpt e ch w else w
  let w := cut .b (cut .a (w.map (beginRun e .staffAlert)))
  let w :=
    if w.val.chanA.state = .idle ∨ w.val.chanB.state = .idle then w
    else if (w.val.generalOn .b).isSome then preEmpt e .b w
    else if w.val.chanB.state = .faulted then preEmpt e .a w
    else w
  seekStaffAlert e w

/-- A built-in call ends in whatever position it holds (R161, R163): it has finished before its channel is stopped. -/
def endBuiltIn (e : CallEnv) (b : BuiltIn) (o : CallOutcome) (w : Act Calls) : Act Calls :=
  match w.val.run b with
  | .notRunning => w
  | .waiting => finishBuiltIn e.now b o w
  | .onChannel ch => (finishBuiltIn e.now b o w).map (stopChannel e ch)
  | .inGap ch _ =>
    (finishBuiltIn e.now b o w).map fun c => c.setChan ch { c.chan ch with reserved := none }

/-- One channel at the start of an evacuation (R162): a call on it is stopped, STOP is strobed in any case. -/
def stopForEvacuation (e : CallEnv) (ch : Channel) (c : Calls) : Calls :=
  if (c.chan ch).carrying then stopChannel e ch c
  else c.setChan ch { c.chan ch with stopStrobe := true }

/-- The general call on a channel finishes PRE_EMPTED (R162). -/
def finishOnChannel (e : CallEnv) (ch : Channel) (w : Act Calls) : Act Calls :=
  match w.val.generalOn ch with
  | some i => finishCall e.now i .preEmpted w
  | none => w

/-- The evacuation call begins on the change to EVACUATE (R162). -/
def beginEvacuation (e : CallEnv) (w : Act Calls) : Act Calls :=
  let w := w.map fun c => (c.release .a).release .b
  let w := finishOnChannel e .b (finishOnChannel e .a w)
  let w := w.map fun c => beginRun e .evacuation (stopForEvacuation e .b (stopForEvacuation e .a c))
  seekEvacuation e true w

/-- The hand-off of the fire condition to the Call Arbiter (R156, R160 to R163). -/
def arbiterFireHandoff (new : Condition) (e : CallEnv) (w : Act Calls) : Act Calls :=
  let w := w.map fun c => { c with arbiterFire := new }
  match new with
  | .alert => walk e.now (beginStaffAlert e w)
  | .evacuate => beginEvacuation e (endBuiltIn e .staffAlert .preEmpted w)
  | .quiet => walk e.now (endBuiltIn e .evacuation .cancelled (endBuiltIn e .staffAlert .cancelled w))

/-! ## Events at the channels -/

/-- PLAYING rises (R150, R152). -/
def playingRisesAct (ch : Channel) (e : CallEnv) (w : Act Calls) : Act Calls :=
  let r := w.val.chan ch
  match r.state with
  | .starting =>
    let length := match r.call with
      | some i => w.val.table[i].length
      | none => 0
    w.map fun c => c.setChan ch
      { r with state := .playing, startTimer := none, guardTimer := some (length + guardMargin) }
  | .idle => seekEvacuation e true (faultChannel ch .unsolicited none false w)
  | .playing | .stopping | .faulted => w

/-- The play of a call has ended (R153): the call leaves the channel, which becomes IDLE. -/
def endPlay (ch : Channel) (i : CallId) (c : Calls) : Calls :=
  let d := c.table[i]
  let c := (c.setDesc i { d with plays := min 255 (d.plays + 1), channel := none }).release ch
  c.setChan ch ((c.chan ch).emptied .idle)

/-- A built-in call goes into its gap after a play (R159): READY, at the entry time of its run (log 32). -/
def enterGap (b : BuiltIn) (ch : Channel) (c : Calls) : Calls :=
  let d := c.table[builtInCall b]
  let c := c.setDesc (builtInCall b) { d with life := .ready }
  (c.setChan ch { c.chan ch with reserved := some b }).setRun b (.inGap ch d.gap)

/-- The gap of a built-in call has run out (R159): it starts again on its channel if that is still IDLE, else it
waits for a channel. An evacuation call that finds both channels FAULTED then raises EVACUATION UNANNOUNCED: they
became FAULTED while it did not wait (R163, log 12). -/
def leaveGap (e : CallEnv) (b : BuiltIn) (ch : Channel) (w : Act Calls) : Act Calls :=
  let w := w.map fun c => (waitAgain b c).setChan ch { c.chan ch with reserved := none }
  if (w.val.chan ch).state = .idle ∧ w.val.builtInZones b ≠ 0 then startBuiltIn e b ch w
  else seekBuiltIns e true w

/-- PLAYING falls (R153, R154). -/
def playingFallsAct (ch : Channel) (e : CallEnv) (w : Act Calls) : Act Calls :=
  let r := w.val.chan ch
  match r.state with
  | .playing =>
    match r.call with
    | some i =>
      let w := w.map (endPlay ch i)
      match builtInOf i with
      | none => afterIdle e (afterPlay e.now i w)
      | some b =>
        let w := w.map (enterGap b ch)
        walk e.now (if w.val.table[i].gap = 0 then leaveGap e b ch w else w)
    | none => afterIdle e (w.map fun c => (c.release ch).setChan ch (r.emptied .idle))
  | .stopping => afterIdle e (w.map fun c => c.setChan ch (r.emptied .idle))
  | .idle | .starting | .faulted => w

/-- A general call returns to the ready queue after NO_START, at the entry time it held (R152, R141). -/
def returnToReady (now : Nat) (i : CallId) (missedBefore : ZoneSet) (w : Act Calls) : Act Calls :=
  let d := w.val.table[i]
  let deadline := deadlineOf (d.entry.getD now) d.lifetime
  let w := w.map fun c => (c.setDesc i { d with
    life := .ready, channel := none, missed := missedBefore, deadline := deadline }).joinReady i
  if timeReached now deadline then finishCall now i d.lateOutcome w else w

/-- The start timer expires (R152). -/
def startTimerExpiryAct (ch : Channel) (e : CallEnv) (w : Act Calls) : Act Calls :=
  let r := w.val.chan ch
  if r.state = .starting ∧ timerDone r.startTimer = true then
    match r.call with
    | some i =>
      let w := faultChannel ch .noStart (some (i, r.message)) true w
      let w := match builtInOf i with
        | none => returnToReady e.now i r.missedBefore w
        | some b => w.map (waitAgain b)
      walk e.now (seekBuiltIns e true w)
    | none => w
  else w

/-- The guard timer expires (R153). -/
def guardTimerExpiryAct (ch : Channel) (e : CallEnv) (w : Act Calls) : Act Calls :=
  let r := w.val.chan ch
  if r.state = .playing ∧ timerDone r.guardTimer = true then
    match r.call with
    | some i =>
      let w := faultChannel ch .guardExpired (some (i, r.message)) true w
      let w := match builtInOf i with
        | none => finishCall e.now i .channelFault w
        | some b => w.map (waitAgain b)
      walk e.now (seekBuiltIns e true w)
    | none => w
  else w

/-- The stop timer expires (R154). -/
def stopTimerExpiryAct (ch : Channel) (e : CallEnv) (w : Act Calls) : Act Calls :=
  let r := w.val.chan ch
  if r.state = .stopping ∧ timerDone r.stopTimer = true then
    seekEvacuation e true (faultChannel ch .noStop none false w)
  else w

/-- A built-in call's gap runs out (R159). -/
def gapExpiryAct (b : BuiltIn) (e : CallEnv) (w : Act Calls) : Act Calls :=
  match w.val.run b with
  | .inGap ch remaining => if timerDone (some remaining) then walk e.now (leaveGap e b ch w) else w
  | .notRunning | .waiting | .onChannel _ => w

/-- RESET CHANNEL on a FAULTED channel whose PLAYING line is low (R155). -/
def resetChannelAct (ch : Channel) (e : CallEnv) (w : Act Calls) : Act Calls :=
  afterIdle e (w.map fun c => c.setChan ch ((c.chan ch).emptied .idle))

/-! ## Events at the calls -/

/-- The due timer expires (R139). -/
def dueTimerAct (e : CallEnv) (w : Act Calls) : Act Calls :=
  if w.val.fireSeen = .evacuate then w else walkOnChange e.now w.val (takeDue e.now w)

/-- The deadline of a READY call (R141). -/
def deadlineAct (i : CallId) (e : CallEnv) (w : Act Calls) : Act Calls :=
  let d := w.val.table[i]
  if d.life = .ready ∧ timeReached e.now d.deadline = true then
    walkOnChange e.now w.val (finishCall e.now i d.lateOutcome w)
  else w

/-- One anchor event, taken whole with every call it moves (R136 to R138), then a walk when the ready queue has
changed (R132). -/
def anchorEventAct (a : Anchor) (ev : AnchorEvent) (e : CallEnv) (w : Act Calls) : Act Calls :=
  walkOnChange e.now w.val (onAnchorEvent e a ev w)

/-- A live general call is cancelled (R144): its channel is stopped after it has finished. -/
def cancelCall (e : CallEnv) (i : CallId) (w : Act Calls) : Act Calls :=
  let d := w.val.table[i]
  let w := finishCall e.now i .cancelled w
  match d.life, d.channel with
  | .playing, some ch => w.map (stopChannel e ch)
  | _, _ => w

/-- CANCEL CALL on a live call, with the walk that follows (R144, R156). -/
def cancelAct (i : CallId) (e : CallEnv) (w : Act Calls) : Act Calls :=
  let before := w.val
  let w' := cancelCall e i w
  if before.table[i].life = .playing then afterIdle e w' else walkOnChange e.now before w'

def Life.live : Life → Bool
  | .waiting | .timed | .ready | .playing => true
  | .free | .finished => false

/-- The cancellation on entering DARK, in ascending number, and one walk on the completed state (R145). -/
def darkCancelAct (e : CallEnv) (w : Act Calls) : Act Calls :=
  let before := w.val
  let w := generalCalls.foldl (fun w i => if w.val.table[i].life.live then cancelCall e i w else w) w
  if w.val.chanA = before.chanA ∧ w.val.chanB = before.chanB then walkOnChange e.now before w else afterIdle e w

/-- A paging zone record has been written: a waiting built-in call with an empty zone set tries again (R159). The
write itself is no walk event (R156); a channel that the start stops is one. -/
def afterPagingWrite (e : CallEnv) (w : Act Calls) : Act Calls :=
  let w' := seekBuiltIns e false w
  if w'.val.generalOn .a = w.val.generalOn .a ∧ w'.val.generalOn .b = w.val.generalOn .b then w' else walk e.now w'

end Sys2Proof.Machine
end

