-- ==== Sys2Proof/Machine/Curtain.lean ====
section
/-! DEFINITION. The Curtain Controller (04_safety_curtain_control.md): latching a fault, changing the state, release,
landing, the held demands, raising and holding out, each as an action on the curtain record. -/
namespace Sys2Proof.Machine

/-- What the Curtain Controller reads outside its record: the clock, the raw encoder count, the curtain parameters
and the settled states of the two limits. -/
structure CurtainEnv where
  now : Nat
  raw : Nat
  params : CurtainParams
  top : Option Reading
  bottom : Option Reading

def State.curtainEnv (s : State) : CurtainEnv :=
  ⟨s.clock, s.pins.encoder.toNat, s.params.curtain, s.settled topLine, s.settled bottomLine⟩

/-- The position formed now (R63). -/
def Curtain.position (e : CurtainEnv) (c : Curtain) : Nat :=
  positionOf e.raw c.homeOffset e.params.countsPerMetre

/-- A fault in the set, with the time of its latest occurrence (R82). -/
def FaultSet.add (f : FaultSet) (now : Nat) (correction : Option Nat) : CurtainFault → FaultSet
  | .lag => { f with lag := some now }
  | .overspeed => { f with overspeed := some now }
  | .jammed => { f with jammed := some now }
  | .raiseStall => { f with raiseStall := some now }
  | .overTravel => { f with overTravel := some now }
  | .creep => { f with creep := some now }
  | .encoderDisagree => { f with encoderDisagree := some now, correction := correction }
  | .limitSwitch => { f with limitSwitch := some now }

/-- How many faults the set holds (R83). -/
def FaultSet.size (f : FaultSet) : Nat :=
  ([f.lag, f.overspeed, f.jammed, f.raiseStall, f.overTravel, f.creep, f.encoderDisagree,
    f.limitSwitch].filter Option.isSome).length

/-- The desks that hear of the curtain (Table 10-3). -/
def curtainPorts : List Port := [.prompt, .house]

/-- Latch a fault and raise its CURTAIN FAULT notice (R82); it is latched before the change of state that may follow
(log 10). -/
def latchFault (e : CurtainEnv) (f : CurtainFault) (correction : Option Nat) (w : Act Curtain) : Act Curtain :=
  let c := { w.val with faults := w.val.faults.add e.now correction f }
  { val := c
    out := w.out ++ [⟨curtainPorts, .curtainFault ⟨some f, some e.now, correction, c.state, c.position e, c.faults⟩⟩] }

/-- The descent record with the retard state off (R94, R96). -/
def Curtain.retardOff (c : Curtain) : Curtain :=
  { c with descent := c.descent.map fun d => { d with retard := false } }

/-- A change of the curtain state (R62, R84): the raise record lives in RAISING alone (R73), the retard state goes off
on a change out of DESCENDING (R96), and the CURTAIN notice is raised from the completed record. The time base begins
its samples anew in RAISING, STOWED and DESCENDING (R72, R77, R70) and goes on sampling in SECONDARY and JAMMED (R90). -/
def changeState (e : CurtainEnv) (new : CurtainState) (reason : CurtainReason) (w : Act Curtain) : Act Curtain :=
  let old := w.val
  let c := { old with
    state := new
    enteredAt := e.now
    reason := reason
    raise := if new = .raising then old.raise else none
    samplesDue := if new = .secondary ∨ new = .jammed then old.samplesDue else 0 }
  let c := if new = .descending then c else c.retardOff
  { val := c
    out := w.out ++ [⟨curtainPorts, .curtain ⟨new, old.state, reason, c.position e, c.causes, c.faults⟩⟩] }

/-- The one-shot causes leave the set (R64). -/
def CauseSet.heldOnly (s : CauseSet) : CauseSet :=
  { s with drop := false, demonstration := false, powerOn := false }

/-- Entry into LANDED (R80). -/
def enterLanded (e : CurtainEnv) (reason : CurtainReason) (w : Act Curtain) : Act Curtain :=
  changeState e .landed reason
    (w.map fun c => { c with lowCount := none, causes := c.causes.heldOnly })

/-- The disagreement test and the homing of the count (R78, R81). -/
def homeCount (e : CurtainEnv) (w : Act Curtain) : Act Curtain :=
  let p := w.val.position e
  let w := if e.params.landingWindow < p then latchFault e .encoderDisagree (some p) w else w
  w.map fun c => { c with homeOffset := e.raw }

/-- Landing by the limit (R78). -/
def landByLimit (e : CurtainEnv) (w : Act Curtain) : Act Curtain :=
  enterLanded e .bottomLimit (homeCount e w)

/-- The leg allowance of the fast leg (R90). -/
def fastLegOf (Tf T S p0 : Nat) : Nat :=
  if S < p0 then max 1 (ceilDiv (Tf * (p0 - S)) (T - S)) else 0

/-- The leg allowance of the slow leg (R90). -/
def slowLegOf (Ts S s0 : Nat) : Nat :=
  if 0 < S ∧ 0 < s0 then ceilDiv (Ts * s0) S else 0

/-- The record made at the start of a descent (R88, R90, Table 5-2). -/
def makeDescent (e : CurtainEnv) (position : Nat) : Descent :=
  let T := e.params.travel
  let S := e.params.slowHeight
  let p0 := min position T
  let s0 := min p0 S
  { startTime := e.now
    travel := T
    slowHeight := S
    fastAllowance := e.params.fastAllowance
    slowAllowance := e.params.slowAllowance
    startPosition := position
    p0 := p0
    fastLeg := fastLegOf e.params.fastAllowance T S p0
    s0 := s0
    slowLeg := slowLegOf e.params.slowAllowance S s0
    sample := 0
    allowed := none
    lagCount := 0
    secondaryStart := none
    window := [position]
    speed := none
    overspeedCount := 0
    retard := false }

/-- The release of a curtain that is held out (R70): a new descent, and the landing at once when the bottom limit is
closed. -/
def releaseCurtain (e : CurtainEnv) (w : Act Curtain) : Act Curtain :=
  let w := changeState e .descending .demand
    (w.map fun c => { c with lowCount := some 0, descent := some (makeDescent e (c.position e)) })
  if e.bottom = some .active then landByLimit e w else w

/-- The arrival of a release demand, its cause already in the set: it releases a curtain held out (R70) and changes
no other state (R71). -/
def releaseDemand (e : CurtainEnv) (w : Act Curtain) : Act Curtain :=
  match w.val.state with
  | .stowed | .raising | .halted => releaseCurtain e w
  | .descending | .secondary | .jammed | .landed => w

/-- The hand-off of the Fire Monitor (R67): the FIRE demand, and the new condition where the condition changed. -/
def curtainFireHandoff (e : CurtainEnv) (demand : Bool) (condition : Option Condition) (w : Act Curtain) :
    Act Curtain :=
  let was := w.val.fireDemand
  let w :=
    if demand && !was then
      releaseDemand e (w.map fun c => { c with fireDemand := true, causes := { c.causes with fire := true } })
    else if !demand && was then
      w.map fun c => { c with fireDemand := false, causes := { c.causes with fire := false } }
    else w
  let leavesQuiet := match condition with
    | some .alert | some .evacuate => true
    | _ => false
  if w.val.state = .raising ∧ leavesQuiet = true then changeState e .halted .fireChange w else w

/-- A settled change of the fire release line, or its baseline (R65, R86): a baseline has no state before it. -/
def hardLineChange (e : CurtainEnv) (old : Option Reading) (new : Reading) (w : Act Curtain) : Act Curtain :=
  match new with
  | .quiet => w.map fun c => { c with hardLine := false, causes := { c.causes with hardLine := false } }
  | .active | .faulty =>
    if old = none ∨ old = some .quiet then
      releaseDemand e (w.map fun c => { c with hardLine := true, causes := { c.causes with hardLine := true } })
    else w

/-- A settled change of the manual release button: ACTIVE from QUIET sets the latch (R66). -/
def manualChange (e : CurtainEnv) (old : Option Reading) (new : Reading) (w : Act Curtain) : Act Curtain :=
  if old = some .quiet ∧ new = .active then
    releaseDemand e (w.map fun c => { c with manual := true, causes := { c.causes with manual := true } })
  else w

/-- A settled change of the top limit (R75, R81). -/
def topLimitChange (e : CurtainEnv) (new : Reading) (w : Act Curtain) : Act Curtain :=
  if new = .active ∧ w.val.state = .raising then changeState e .stowed .topLimit w else w

/-- A settled change of the bottom limit (R78, R81). -/
def bottomLimitChange (e : CurtainEnv) (new : Reading) (w : Act Curtain) : Act Curtain :=
  if new = .active then
    match w.val.state with
    | .descending | .secondary | .jammed => landByLimit e w
    | .landed => homeCount e w
    | .stowed | .raising | .halted => w
  else w

/-- The baseline of the bottom limit at the end of the start-up settle (R86): closed lands the curtain, open begins
the supervision of the fall under way. A landing here makes no descent record, though R90 speaks of one (log 35). -/
def bottomBaseline (e : CurtainEnv) (new : Reading) (w : Act Curtain) : Act Curtain :=
  if new = .active then landByLimit e w
  else w.map fun c =>
    { c with lowCount := some 0, descent := some (makeDescent e (c.position e)), samplesDue := 0 }

/-! ## Raising and holding out -/

/-- How long one RAISE HOLD keeps the hoist running (R73). -/
def leaseLength : Nat := 5

/-- A raise begins (R72): the one-shot causes leave, the raise record starts at sample 0. -/
def startRaise (e : CurtainEnv) (w : Act Curtain) : Act Curtain :=
  changeState e .raising .raise (w.map fun c =>
    { c with
      causes := c.causes.heldOnly
      raise := some ⟨satClock (e.now + leaseLength), 0, [c.position e]⟩ })

/-- A renewal of the lease: samples and stall window go on (R73). -/
def renewLease (e : CurtainEnv) (w : Act Curtain) : Act Curtain :=
  w.map fun c =>
    { c with raise := c.raise.map fun r => { r with leaseExpiry := satClock (e.now + leaseLength) } }

/-- A raise that halts (R73, R74). -/
def haltRaise (e : CurtainEnv) (reason : CurtainReason) (w : Act Curtain) : Act Curtain :=
  if w.val.state = .raising then changeState e .halted reason w else w

/-- The over-travel margin above the travel (R75). -/
def overTravelMargin : Nat := 200

/-- One raise sample (R75, R76). -/
def raiseSampleAct (e : CurtainEnv) (w : Act Curtain) : Act Curtain :=
  match w.val.state, w.val.raise with
  | .raising, some r =>
    let p := w.val.position e
    let k := r.sample + 1
    let ps := (p :: r.positions).take 21
    let w := w.map fun c =>
      { c with raise := some { r with sample := k, positions := ps }, samplesDue := c.samplesDue - 1 }
    if e.params.travel + overTravelMargin ≤ p ∧ e.top ≠ some .active then
      haltRaise e .overTravel (latchFault e .overTravel none w)
    else
      match ps[20]? with
      | some before =>
        if 20 ≤ k ∧ p < before + e.params.stallDistance then
          haltRaise e .raiseStall (latchFault e .raiseStall none w)
        else w
      | none => w
  | _, _ => w

/-- One sample in STOWED (R77). -/
def creepSampleAct (e : CurtainEnv) (w : Act Curtain) : Act Curtain :=
  if w.val.state = .stowed then
    let w := w.map fun c => { c with samplesDue := c.samplesDue - 1 }
    if w.val.position e + e.params.creepLimit < e.params.travel then
      changeState e .halted .creep (latchFault e .creep none w)
    else w
  else w

/-! ## Requests to the curtain that need no state of another block -/

/-- DROP joins the cause set and the request is taken as a release demand (R68). -/
def dropAct (e : CurtainEnv) (w : Act Curtain) : Act Curtain :=
  releaseDemand e (w.map fun c => { c with causes := { c.causes with drop := true } })

/-- DEMONSTRATION joins the cause set and the request is taken as a release demand (R69). -/
def demonstrateAct (e : CurtainEnv) (w : Act Curtain) : Act Curtain :=
  releaseDemand e (w.map fun c => { c with causes := { c.causes with demonstration := true } })

/-- The MANUAL latch is cleared (R66). -/
def clearManual (w : Act Curtain) : Act Curtain :=
  w.map fun c => { c with manual := false, causes := { c.causes with manual := false } }

/-- The fault set after CLEAR CURTAIN FAULTS: JAMMED stays while the state is JAMMED (R83). -/
def Curtain.clearedFaults (c : Curtain) : FaultSet :=
  { FaultSet.empty with jammed := if c.state = .jammed then c.faults.jammed else none }

/-- How many faults CLEAR CURTAIN FAULTS removes (R83). -/
def Curtain.clearable (c : Curtain) : Nat := c.faults.size - c.clearedFaults.size

/-- The clearing, with its notice when at least one fault is removed (R83). -/
def clearFaults (e : CurtainEnv) (w : Act Curtain) : Act Curtain :=
  if w.val.clearable = 0 then w
  else
    let c := { w.val with faults := w.val.clearedFaults }
    { val := c
      out := w.out ++ [⟨curtainPorts, .curtainFault ⟨none, none, none, c.state, c.position e, c.faults⟩⟩] }

/-! ## On the whole part -/

/-- The demonstration bookkeeping of the Performance Unit for a change of the curtain state to LANDED or STOWED
(R6). -/
def demoBookkeeping (old new : CurtainState) (calm : Bool) (h : House) : House :=
  if new = .landed ∧ old ≠ .landed then
    { h with demoMark := h.demoMark || (h.phase.occupied && calm) }
  else if new = .stowed ∧ old ≠ .stowed then
    { h with curtainShown := h.curtainShown || (h.demoMark && h.phase.occupied), demoMark := false }
  else h

/-- Let the Curtain Controller act: its notices are raised and a landing or stowing is handed to the Performance
Unit. -/
def State.onCurtain (f : CurtainEnv → Act Curtain → Act Curtain) (s : State) : State :=
  let w := f s.curtainEnv ⟨s.curtain, []⟩
  { s with
    curtain := w.val
    links := s.links.post s.clock w.out
    house := demoBookkeeping s.curtain.state w.val.state (s.fire.condition == .quiet) s.house }

end Sys2Proof.Machine
end

