-- ==== Sys2Proof/Machine/Operands.lean ====
section
/-! DEFINITION. The operands of requests: codes, identifiers, flags and the bit order of sets (R180, Tables 10-8 to
10-13). An identifier out of range names nothing, and its reading answers none. -/
namespace Sys2Proof.Machine

/-- A flag byte holds 0 or 1; any other value is a shape error (R180). -/
def isFlag (b : Byte) : Bool := b.toNat ≤ 1

def flagOf (b : Byte) : Bool := b == 1

/-- An identifier below `n`. -/
def identifier (n : Nat) (b : Byte) : Option (Fin n) :=
  if h : b.toNat < n then some ⟨b.toNat, h⟩ else none

/-- An identifier of 1 to `n`, as an index from 0 (a preset, a call descriptor). -/
def identifierFrom1 (n : Nat) (b : Byte) : Option (Fin n) :=
  if h : 1 ≤ b.toNat ∧ b.toNat ≤ n then some ⟨b.toNat - 1, by omega⟩ else none

def zoneClassOf (b : Byte) : Option ZoneClass :=
  match b.toNat with
  | 0 => some .detector
  | 1 => some .callPoint
  | 2 => some .suppression
  | _ => none

def ZoneClass.code : ZoneClass → Nat
  | .detector => 0
  | .callPoint => 1
  | .suppression => 2

def areaOf (b : Byte) : Option Area :=
  match b.toNat with
  | 0 => some .stage
  | 1 => some .auditorium
  | 2 => some .front
  | 3 => some .backstage
  | _ => none

def Area.code : Area → Nat
  | .stage => 0
  | .auditorium => 1
  | .front => 2
  | .backstage => 3

/-- The state of a pair of a ZONE REPORT, as the input that arrives (R28, Table 10-8). -/
def panelInput (b : Byte) : Option Reading :=
  match b.toNat with
  | 0 => some .quiet
  | 1 => some .active
  | 2 => some .faulty
  | _ => none

/-- The kind of call a desk may create (R133, Table 10-9). -/
def callKindOf (b : Byte) : Option CallKind :=
  match b.toNat with
  | 1 => some .scheduled
  | 2 => some .immediate
  | _ => none

def anchorOf (b : Byte) : Option Anchor :=
  match b.toNat with
  | 0 => some .plannedUp
  | 1 => some .houseOpen
  | 2 => some .actStart
  | 3 => some .intervalStart
  | 4 => some .intervalEnd
  | 5 => some .curtainDown
  | _ => none

def channelOf (b : Byte) : Option Channel :=
  match b.toNat with
  | 0 => some .a
  | 1 => some .b
  | _ => none

/-- The byte that stands for "no slot", and for "all zones" (Tables 10-10 and 10-12). -/
def noneByte : Byte := 0xFF

/-- An optional slot: 0xFF for none, else an identifier below 4 (R108, Table 10-10). -/
def optionalSlot (b : Byte) : Option (Option (Fin 4)) :=
  if b = noneByte then some none else (identifier 4 b).map some

/-- The desk at a port that may create calls. -/
def deskOf : Port → Desk
  | .prompt => .prompt
  | _ => .house

end Sys2Proof.Machine
end

