-- ==== Sys2Proof/Machine/Lights.lean ====
section
/-! DEFINITION. The Lighting Controller (06_house_light_circuits_and_fades.md and
07_lighting_authority_and_overrides.md): fades, commands, authority, the override, and what the hand-offs do. -/
namespace Sys2Proof.Machine

/-- What the Lighting Controller reads outside its own state: the clock and two timing parameters (R115). -/
structure LightEnv where
  now : Nat
  parkSlot : Nat
  restoreSlot : Nat

def State.lightEnv (s : State) : LightEnv := ⟨s.clock, s.params.parkSlot, s.params.restoreSlot⟩

/-- Let the Lighting Controller act. -/
def State.onLights (f : LightEnv → Act Lights → Act Lights) (s : State) : State :=
  let w := f s.lightEnv ⟨s.lights, []⟩
  { s with lights := w.val, links := s.links.post s.clock w.out }

/-! ## Fades -/

/-- The duration of a code (Table 6-2). -/
def durationOf : Nat → Nat
  | 0 => 0
  | 1 => 5
  | 2 => 10
  | 3 => 20
  | 4 => 30
  | 5 => 40
  | 6 => 50
  | 7 => 60
  | 8 => 80
  | 9 => 100
  | 10 => 120
  | 11 => 150
  | 12 => 200
  | 13 => 300
  | 14 => 450
  | _ => 600

/-- The duration that a slot gives at this moment (R104). -/
def Lights.slotDuration (l : Lights) (slot : Nat) : Nat := durationOf (l.slots.toList.getD slot 0)

/-- A circuit on which a fade is started (R104). -/
def Circuit.startFade (now slot duration target : Nat) (c : Circuit) : Circuit :=
  if duration = 0 then { c with base := target, fade := none }
  else { c with fade := some ⟨c.base, target, duration, 0, now, slot⟩ }

/-- Start a fade on one circuit (R104); the time base owes its first step 1 ds later. -/
def Lights.startFade (now slot target : Nat) (i : Fin 48) (l : Lights) : Lights :=
  { l with
    circuits := l.circuits.set i (l.circuits[i].startFade now slot (l.slotDuration slot) target)
    stepsDue := l.stepsDue.set i 0 }

/-- Start a fade on every circuit, each to its own target (R110, R112). -/
def Lights.startAll (now slot : Nat) (target : Nat → Circuit → Nat) (l : Lights) : Lights :=
  { l with
    circuits := vmapIdx (fun i c => c.startFade now slot (l.slotDuration slot) (target i c)) l.circuits
    stepsDue := Vector.replicate 48 0 }

/-- The base level of a fade at elapsed `e` (R105). -/
def fadeLevel (start target duration elapsed : Nat) : Nat :=
  ((start : Int) + Int.tdiv (((target : Int) - start) * elapsed) duration).toNat

/-- A circuit after one step of its fade (R105). -/
def Circuit.step (c : Circuit) : Circuit :=
  match c.fade with
  | none => c
  | some f =>
    let e := f.elapsed + 1
    { c with
      base := fadeLevel f.start f.target f.duration e
      fade := if f.duration ≤ e then none else some { f with elapsed := e } }

/-- One step of the fade of one circuit, when the time base owes one (R105, log 5). -/
def Lights.stepFade (i : Fin 48) (l : Lights) : Lights :=
  if l.circuits[i].fade.isSome ∧ 0 < l.stepsDue[i] then
    { l with circuits := l.circuits.set i l.circuits[i].step, stepsDue := l.stepsDue.set i (l.stepsDue[i] - 1) }
  else l

/-- A decisecond of the fade engine: every running fade is owed one more step (R105). -/
def Lights.tick (l : Lights) : Lights :=
  { l with stepsDue :=
      vmapIdx (fun i n => if ((l.circuits.toList[i]?).bind (·.fade)).isSome then n + 1 else 0) l.stepsDue }

/-- How many fades run (R111). -/
def Lights.running (l : Lights) : Nat := (l.circuits.toList.filter (·.fade.isSome)).length

/-- Every running fade ends where it stands (R111). -/
def Lights.holdFades (l : Lights) : Lights :=
  { l with circuits := vmap (fun c => { c with fade := none }) l.circuits, stepsDue := Vector.replicate 48 0 }

/-! ## Authority -/

/-- A change of the authority, without its notice (R120). -/
def Lights.setAuthority (now : Nat) (a : Authority) (cause : AuthorityCause) (l : Lights) : Lights :=
  { l with authority := a, authorityAt := now, authorityCause := some cause }

/-- The AUTHORITY notice of a change already made (R120). -/
def authorityMail (now : Nat) (new old : Authority) (cause : AuthorityCause) (parking : Bool) : Mail :=
  ⟨[.house, .console], .authority ⟨new, old, cause, now, parking⟩⟩

/-- The authority changes and no parking is started (R116, R117, R118). -/
def changeAuthority (e : LightEnv) (a : Authority) (cause : AuthorityCause) (w : Act Lights) : Act Lights :=
  if w.val.authority = a then w
  else
    { val := w.val.setAuthority e.now a cause
      out := w.out ++ [authorityMail e.now a w.val.authority cause false] }

/-- Parking: every circuit starts a fade to its park level with the park slot (R119). -/
def Lights.parkAll (e : LightEnv) (l : Lights) : Lights :=
  l.startAll e.now e.parkSlot (fun _ c => c.park)

/-- A change of the console port (R119). -/
def consoleLinkChange (present : Bool) (e : LightEnv) (w : Act Lights) : Act Lights :=
  let w := w.map fun l => { l with consoleSeen := present }
  if present = false ∧ w.val.authority = .console then
    { val := (w.val.setAuthority e.now .house .consoleLost).parkAll e
      out := w.out ++ [authorityMail e.now .house .console .consoleLost true] }
  else w

/-- The show-stop preset is preset 8 (R127). -/
def showStopPreset : Fin 8 := 7

/-- Start the fades of a preset with a slot (R110, R127). -/
def Lights.startPreset (now slot : Nat) (preset : Fin 8) (l : Lights) : Lights :=
  l.startAll now slot (fun i _ => l.presets[preset].levels.toList.getD i 0)

/-- The phase hand-off (R4): the phase seen, the show-stop preset (R127) and the forced return of the authority
(R118). -/
def lightsPhaseHandoff (phase : Phase) (stop : Option StopRecord) (e : LightEnv) (w : Act Lights) : Act Lights :=
  let cause := stop.map (·.cause)
  let w := w.map fun l => { l with phaseSeen := phase, stopSeen := stop }
  let w : Act Lights :=
    if phase = .stopped ∧ cause = some StopCause.desk ∧ w.val.presets[showStopPreset].inUse = true then
      w.map fun l => l.startPreset e.now l.presets[showStopPreset].slot showStopPreset
    else w
  if phase.consolePhase then w
  else
    changeAuthority e .house (if phase = .stopped ∧ cause = some .fire then .evacuate else .phase) w

/-! ## The override -/

/-- The restore target of a circuit: where it was heading (R123). -/
def Circuit.heading (c : Circuit) : Nat :=
  match c.fade with
  | some f => f.target
  | none => c.base

/-- The restore fades when the override ends: from 255 to the target that `target` gives each circuit (R123). -/
def Lights.restoreFades (e : LightEnv) (target : Circuit → Nat) (l : Lights) : Lights :=
  { l with
    circuits := vmap (fun c =>
      ({ c with base := 255, fade := none } : Circuit).startFade e.now e.restoreSlot
        (l.slotDuration e.restoreSlot) (target c)) l.circuits
    stepsDue := Vector.replicate 48 0 }

/-- The fire condition hand-off (R118, R122): RESTORE ends the override when panic is not in force. -/
def lightsFireHandoff (new : Condition) (e : LightEnv) (w : Act Lights) : Act Lights :=
  let old := w.val.fireSeen
  let w := w.map fun l => { l with fireSeen := new }
  let w : Act Lights :=
    if old = .evacuate ∧ new ≠ .evacuate ∧ w.val.panic = false then
      w.map fun l => l.restoreFades e (fun _ => 255)
    else w
  if new = .evacuate then changeAuthority e .house .evacuate w else w

/-- PANIC LIGHTS OFF with panic in force (R121, R123). -/
def panicOff (e : LightEnv) (l : Lights) : Lights :=
  let l := { l with panic := false }
  if l.override then l else l.restoreFades e Circuit.heading

/-! ## Lighting commands -/

/-- The authority check of R108: which desk the authority accepts. -/
def Authority.accepts : Authority → Port → Bool
  | .house, .house => true
  | .console, .console => true
  | _, _ => false

/-- The pairs of a LIGHTS command, checked (R108): a circuit of 48 or more names nothing. -/
def lightPairs : List (Byte × Byte) → Option (List (Fin 48 × Nat))
  | [] => some []
  | (c, level) :: rest =>
    match identifier 48 c, lightPairs rest with
    | some i, some ps => some ((i, level.toNat) :: ps)
    | _, _ => none

/-- The pairs of a LIGHTS command in the order given (R109). -/
def Lights.startPairs (now : Nat) (slot : Option (Fin 4)) (pairs : List (Fin 48 × Nat)) (l : Lights) : Lights :=
  pairs.foldl (fun l p =>
    l.startFade now (match slot with | some n => n.val | none => l.circuits[p.1].slot) p.2 p.1) l

end Sys2Proof.Machine
end

