-- ==== Sys2Proof/Machine/House.lean ====
section
/-! DEFINITION. The Performance Unit (01_performance_phases_and_the_house_condition.md): completing a change of the
house condition record, and the change that every request makes to it. -/
namespace Sys2Proof.Machine

/-! ## Completing a change of the record (R3, R4, R5, R22) -/

/-- The anchor events, each taken whole before the next (R3, R136). -/
def handAnchors (events : List (Anchor × AnchorEvent)) (s : State) : State :=
  events.foldl (fun s x => s.onCalls (anchorEventAct x.1 x.2)) s

/-- The PHASE notice (R4). -/
def phaseMail (s : State) : Mail :=
  ⟨[.prompt, .house, .console],
    .phase s.house.phase s.house.actNumber (s.house.actClock s.clock) s.house.stop⟩

/-- The Call Scheduler records the phase (R146). -/
def recordPhase (s : State) : State := { s with calls := { s.calls with phaseSeen := s.house.phase } }

/-- A change of the phase or of the stop record's cause is handed on and then raises its notice (R4, log 37). -/
def handPhase (old : House) (s : State) : State :=
  if old.phase = s.house.phase ∧ old.stop = s.house.stop then s
  else
    let s := recordPhase (s.onLights (lightsPhaseHandoff s.house.phase s.house.stop))
    s.post [phaseMail s]

/-- The CLEARANCE notice of a change of clearance (R5). -/
def noteClearance (old : House) (cause : ClearanceCause) (s : State) : State :=
  if old.clearance = s.house.clearance then s
  else s.post [⟨[.prompt, .house], .clearance s.house.clearance cause⟩]

/-- A change of show mode raises its notice and is handed to the Fire Monitor (R22); `handOff` is what the Fire
Monitor does with a change to off. -/
def handShowMode (old : House) (handOff : State → State) (s : State) : State :=
  if old.showMode = s.house.showMode then s
  else
    let s := s.post [⟨[.prompt, .house], .showMode s.house.showMode⟩]
    if s.house.showMode then s else handOff s

/-- A change of the record, already complete, is handed on: anchor events, CLEARANCE, the phase, show mode (log 9). -/
def completeChange (old : House) (cause : ClearanceCause) (handOff : State → State) (s : State) : State :=
  handShowMode old handOff
    (handPhase old (noteClearance old cause (handAnchors (anchorEvents old.anchors s.house.anchors) s)))

/-! ## The changes themselves -/

/-- The phases a show can be stopped in (R13, R14). -/
def Phase.stoppable : Phase → Bool
  | .houseOpen | .act | .interval => true
  | _ => false

/-- OPEN PERFORMANCE (R9). -/
def House.opened (h : House) : House :=
  { h with
    phase := .preset, actNumber := 0, anchors := Anchors.none, clearance := .withheld, demoMark := false,
    curtainShown := false, showMode := false, countdown := 0, stop := none }

/-- OPEN HOUSE (R10). -/
def House.openedHouse (now : Nat) (h : House) : House :=
  { h with phase := .houseOpen, anchors := { h.anchors with houseOpen := some now } }

/-- GO ACT (R11). -/
def House.actBegun (now : Nat) (h : House) : House :=
  { h with
    phase := .act
    actNumber := h.actNumber + 1
    anchors := { h.anchors with actStart := some now, intervalStart := none, intervalEnd := none }
    countdown := 0
    clearance := .withheld }

/-- The length of an interval of `minutes` in ds (R12). -/
def intervalDs (minutes : Nat) : Nat := minutes * 600

/-- END ACT, not final (R12). -/
def House.intervalBegun (now minutes : Nat) (h : House) : House :=
  { h with
    phase := .interval
    anchors := { h.anchors with
      intervalStart := some now, intervalEnd := some (satClock (now + intervalDs minutes)) }
    countdown := intervalDs minutes }

/-- END ACT, final (R12, R22). -/
def House.closedByAct (now : Nat) (h : House) : House :=
  { h with phase := .emptying, anchors := { h.anchors with curtainDown := some now }, showMode := false }

/-- The show stops (R13, R14, R22). -/
def House.stopped (cause : StopCause) (h : House) : House :=
  { h with phase := .stopped, stop := some ⟨h.phase, cause⟩, showMode := false }

/-- The fire condition becomes EVACUATE (R14). -/
def House.evacuated (h : House) : House :=
  if h.phase.stoppable then h.stopped .fire
  else
    { h with
      stop := if h.phase = .stopped then h.stop.map (fun r => { r with cause := .fire }) else h.stop
      showMode := false }

/-- RESUME into ACT (R15). -/
def House.resumedAct (h : House) : House := { h with phase := .act, stop := none, clearance := .withheld }

/-- RESUME into another origin (R15). -/
def House.resumed (origin : Phase) (h : House) : House := { h with phase := origin, stop := none }

/-- END PERFORMANCE (R16). -/
def House.ended (now : Nat) (h : House) : House :=
  { h with
    phase := .emptying, stop := none, countdown := 0, anchors := { h.anchors with curtainDown := some now } }

/-- Entering DARK (R17). -/
def House.darkened (h : House) : House :=
  { h with
    phase := .dark, anchors := Anchors.none, clearance := .withheld, showMode := false, countdown := 0 }

/-- Write PLANNED_UP (R18, R19). -/
def House.planned (value : Nat) (h : House) : House :=
  { h with anchors := { h.anchors with plannedUp := some value } }

/-- The largest interval countdown (Table 1-1). -/
def countdownMax : Nat := 36000

/-- The amount that EXTEND INTERVAL adds for `minutes` (R21). -/
def House.extension (h : House) (minutes : Nat) : Nat := min (intervalDs minutes) (countdownMax - h.countdown)

/-- EXTEND INTERVAL by an amount (R21). -/
def House.extended (amount : Nat) (h : House) : House :=
  { h with
    countdown := h.countdown + amount
    anchors := { h.anchors with intervalEnd := h.anchors.intervalEnd.map fun t => satClock (t + amount) } }

/-- The phases in which PLANNED_UP may be written (R18, R19). -/
def Phase.plannable : Phase → Bool
  | .preset | .houseOpen | .stopped => true
  | _ => false

/-- One decisecond of the interval countdown (R20). -/
def House.tick (h : House) : House :=
  if h.phase = .interval ∧ 0 < h.countdown then { h with countdown := h.countdown - 1 } else h

/-- The countdown reaches 0 at this decisecond (R20, log 15). -/
def House.countdownEnds (h : House) : Bool := h.phase == .interval && h.countdown == 1

end Sys2Proof.Machine
end

