-- ==== Sys2Proof/Machine/Fire.lean ====
section
/-! DEFINITION. The Fire Monitor (02_fire_zones_and_the_alarm_list.md and
03_fire_condition_and_evacuation_response.md): zone arrivals, promotion, the alarm list, the ladder and the hand-offs of
a change of condition. -/
namespace Sys2Proof.Machine

/-- What the Fire Monitor reads outside its own state: the clock, the show delay and show mode (R29). -/
structure FireEnv where
  now : Nat
  showDelay : Nat
  showMode : Bool

def State.fireEnv (s : State) : FireEnv := ⟨s.clock, s.params.showDelay, s.house.showMode⟩

/-- An event at the zones: what it does, and the zones that entered ALARM by it, in list order (R33, R36). -/
abbrev ZoneEvent := FireEnv → Act Fire → Act Fire × List ZoneId

/-- Let the zone table act: the notices of the batch are raised from the completed table (R36). -/
def State.onZones (f : ZoneEvent) (s : State) : State × List ZoneId :=
  let r := f s.fireEnv ⟨s.fire, []⟩
  ({ s with fire := r.1.val, links := s.links.post s.clock r.1.out }, r.2)

/-! ## Zones -/

def Fire.setZone (z : ZoneId) (r : Zone) (f : Fire) : Fire := { f with zones := f.zones.set z r }

/-- Local zones are 0 to 7 (R23). -/
def isLocal (z : ZoneId) : Bool := z.val < 8

/-- A ZONE CHANGE notice from the completed table, routed as R45 says. -/
def zoneMail (f : Fire) (previous : ZoneState) (cause : ZoneCause) (z : ZoneId) : Mail :=
  let r := f.zones[z]
  ⟨if isLocal z then [.prompt, .house, .panel] else [.prompt, .house],
    .zoneChange ⟨z, previous, r.state, r.input, cause, r.cls, r.area, r.suppressed,
      if r.state = .alarm then r.alarmTime else none,
      if r.state = .delayed then r.delayRemaining else none,
      f.alarmList.head? == some z⟩⟩

/-- Both acknowledgement flags are set on entry into ALARM, DELAYED or FAULT (R40). -/
def Zone.flagged (r : Zone) : Zone := { r with pendingPrompt := true, pendingHouse := true }

/-- Entry into ALARM: alarm time now, appended to the alarm list (R29, R36). -/
def enterAlarm (now : Nat) (f : Fire) (z : ZoneId) : Fire :=
  let f' := f.setZone z { f.zones[z].flagged with state := .alarm, alarmTime := some now, delayRemaining := none }
  { f' with alarmList := f.alarmList ++ [z] }

/-- Entry into FAULT (R30). -/
def enterFault (f : Fire) (z : ZoneId) : Fire :=
  f.setZone z { f.zones[z].flagged with state := .fault, delayRemaining := none }

/-- Entry into DELAYED (R29). -/
def enterDelayed (delay : Nat) (f : Fire) (z : ZoneId) : Fire :=
  f.setZone z { f.zones[z].flagged with state := .delayed, delayRemaining := some delay }

/-- The DELAYED zones whose recorded input is `r`, in ascending number (R33). -/
def Fire.delayedWith (f : Fire) (r : Reading) : List ZoneId :=
  (List.finRange 32).filter fun z => f.zones[z].state = .delayed ∧ f.zones[z].input = r

/-- Promotion (R33): every DELAYED zone ends at once. -/
def promoteZones (now : Nat) (f : Fire) : Fire :=
  (f.delayedWith .faulty).foldl enterFault ((f.delayedWith .active).foldl (enterAlarm now) f)

/-- The ZONE CHANGE notices of a promotion, in the order of R36, from the completed table. -/
def promotionMails (before after : Fire) : List Mail :=
  (before.delayedWith .active ++ before.delayedWith .faulty).map (zoneMail after .delayed .promotion)

/-- A zone enters ALARM and promotes the DELAYED zones: one batch (R29, R33, R36). -/
def alarmBatch (now : Nat) (z : ZoneId) (previous : ZoneState) (cause : ZoneCause) (w : Act Fire) :
    Act Fire × List ZoneId :=
  let f1 := enterAlarm now w.val z
  let f2 := promoteZones now f1
  (⟨f2, w.out ++ zoneMail f2 previous cause z :: promotionMails f1 f2⟩, z :: f1.delayedWith .active)

/-- The promotion made by show mode turning off (R33, R58): one batch. -/
def promoteAll : ZoneEvent := fun e w =>
  let f := promoteZones e.now w.val
  (⟨f, w.out ++ promotionMails w.val f⟩, w.val.delayedWith .active)

/-- One zone moved to a state by a change of its record, with its notice. -/
def changeZone (z : ZoneId) (previous : ZoneState) (cause : ZoneCause) (f : Fire) (w : Act Fire) :
    Act Fire × List ZoneId :=
  (⟨f, w.out ++ [zoneMail f previous cause z]⟩, [])

/-- The delay conditions (R29). -/
def delayConditions (e : FireEnv) (z : ZoneId) (f : Fire) : Bool :=
  isLocal z && f.zones[z].cls == .detector && f.zones[z].delayEligible && e.showMode && f.alarmList.isEmpty &&
    decide (0 < e.showDelay)

/-- An ACTIVE input at a zone in NORMAL or FAULT (R29). -/
def activeArrival (e : FireEnv) (z : ZoneId) (previous : ZoneState) (cause : ZoneCause) (w : Act Fire) :
    Act Fire × List ZoneId :=
  if delayConditions e z w.val then changeZone z previous cause (enterDelayed e.showDelay w.val z) w
  else alarmBatch e.now z previous cause w

/-- The input of a zone is recorded, whatever its state (02, section 2.2). -/
def recordInput (z : ZoneId) (r : Reading) (f : Fire) : Fire := f.setZone z { f.zones[z] with input := r }

/-- The end of DELAYED by a QUIET arrival (R31). -/
def Zone.cleared (r : Zone) : Zone :=
  { r with state := .normal, delayRemaining := none, suppressed := min 255 (r.suppressed + 1) }

/-- An arrival at a zone (R29, R30, R31, R34, R38). -/
def zoneArrival (z : ZoneId) (r : Reading) : ZoneEvent := fun e w =>
  let w := w.map (recordInput z r)
  let f := w.val
  match f.zones[z].state, r with
  | .normal, .active | .fault, .active => activeArrival e z f.zones[z].state .input w
  | .normal, .faulty => changeZone z .normal .input (enterFault f z) w
  | .fault, .quiet => changeZone z .fault .input (f.setZone z { f.zones[z] with state := .normal }) w
  | .delayed, .quiet => changeZone z .delayed .input (f.setZone z f.zones[z].cleared) w
  | .isolated, .active => (w.map fun f => f.setZone z { f.zones[z] with activeWhileIsolated := true }, [])
  | .normal, .quiet | .fault, .faulty | .delayed, .faulty | .delayed, .active
  | .alarm, _ | .isolated, .quiet | .isolated, .faulty => (w, [])

/-- The baseline of a local zone (R27). R27 speaks of a zone left NORMAL or made FAULT: one that ISOLATE ZONE isolated
during the interval stays ISOLATED on QUIET and becomes FAULT otherwise, with active-while-isolated kept (log 30). -/
def zoneBaseline (z : ZoneId) (r : Reading) : ZoneEvent := fun _ w =>
  let w := w.map (recordInput z r)
  match r with
  | .quiet => (w, [])
  | .active | .faulty => changeZone z w.val.zones[z].state .baseline (enterFault w.val z) w

/-- The show-delay timer of a zone expires (R32), the delay remaining having reached 0. -/
def delayExpiry (z : ZoneId) : ZoneEvent := fun e w =>
  let r := w.val.zones[z]
  if r.state = .delayed ∧ timerDone r.delayRemaining = true then
    match r.input with
    | .active => alarmBatch e.now z .delayed .delayExpiry w
    | .faulty => changeZone z .delayed .delayExpiry (enterFault w.val z) w
    | .quiet => (w, [])
  else (w, [])

/-- RESTORE ZONE of an ISOLATED zone (R39): one notice, from ISOLATED, with cause RESTORE. -/
def restoreIsolated (z : ZoneId) : ZoneEvent := fun e w =>
  let w := w.map fun f => f.setZone z { f.zones[z] with state := .normal, activeWhileIsolated := false }
  match w.val.zones[z].input with
  | .quiet => changeZone z .isolated .restore w.val w
  | .faulty => changeZone z .isolated .restore (enterFault w.val z) w
  | .active => activeArrival e z .isolated .restore w

/-- The panel zones. -/
def panelZones : List ZoneId := (List.finRange 32).drop 8

/-- The panel link is lost (R43): every panel input becomes FAULTY, then each NORMAL panel zone becomes FAULT. -/
def panelLoss : ZoneEvent := fun _ w =>
  let w := w.map fun f => panelZones.foldl (fun f z => recordInput z .faulty f) f
  (panelZones.foldl (fun w z =>
    if w.val.zones[z].state = .normal then (changeZone z .normal .linkLoss (enterFault w.val z) w).1 else w) w, [])

/-! ## The ladder -/

/-- The classes of the zones of a batch (R47). -/
def Fire.hasClass (f : Fire) (entering : List ZoneId) (c : ZoneClass) : Bool :=
  entering.any fun z => f.zones[z].cls == c

/-- The new condition that a batch calls for (R47): the first row that holds; none leaves the condition. -/
def Fire.climb (f : Fire) (entering : List ZoneId) : Option (Condition × FireCause) :=
  if f.condition = .evacuate then none
  else if f.hasClass entering .callPoint then some (.evacuate, .callPoint)
  else if f.hasClass entering .suppression then some (.evacuate, .suppression)
  else if f.condition = .alert then some (.evacuate, .furtherAlarm)
  else if 2 ≤ f.alarmList.length then some (.evacuate, .coincidentAlarms)
  else some (.alert, .detectorAlarm)

/-- The condition record of a new condition (R46, R47, R49, R56). -/
def Fire.withCondition (f : Fire) (now period : Nat) (new : Condition) (cause : FireCause) : Fire :=
  { f with
    condition := new
    previous := some f.condition
    cause := some cause
    enteredAt := now
    investigation := if new = .alert then some period else none
    demand := f.demandFor new }

/-- The FIRE CONDITION notice (R59), from the completed record and the alarm list of the moment it is raised
(log 31). -/
def fireMail (f : Fire) (previous : Condition) (cause : FireCause) : Mail :=
  ⟨[.prompt, .house, .console], .fireCondition
    ⟨f.condition, previous, cause, f.enteredAt, f.alarmList.length, f.alarmList.head?, f.investigation, f.demand⟩⟩

/-- The promotion that show mode turning off makes during EVACUATE: its batch changes no condition (R58). -/
def promoteInEvacuate (s : State) : State := (s.onZones promoteAll).1

/-- The hand-back of R58, when a change to EVACUATE finds show mode on: the DELAYED zones are promoted. It is taken
before the FIRE CONDITION notice, which R59 puts after the ZONE CHANGE notices of its event (log 31). -/
def promoteOnEvacuate (new : Condition) (s : State) : State :=
  if new = .evacuate ∧ s.house.showMode = true then promoteInEvacuate s else s

/-- The hand-off of EVACUATE to the Performance Unit (R14, R22); its hand-back is `promoteOnEvacuate`. -/
def stopShow (s : State) : State := completeChange s.house .cleared id { s with house := s.house.evacuated }

/-- A change of the condition, completed in the two steps of R57: the record, then the notice and the hand-offs in the
order of Table 3-3 (log 37), after the promotion of R58. The SHOW MODE notice of `stopShow` leaves last (log 31). -/
def changeCondition (new : Condition) (cause : FireCause) (s : State) : State :=
  let previous := s.fire.condition
  let f := s.fire.withCondition s.clock s.params.investigation new cause
  let s := promoteOnEvacuate new { s with fire := f }
  let s := s.post [fireMail s.fire previous cause]
  let s := s.onCurtain fun e => curtainFireHandoff e f.demand (some new)
  let s := s.onLights (lightsFireHandoff new)
  let s := s.onCalls (schedulerFireHandoff new)
  let s := s.onCalls (arbiterFireHandoff new)
  if new = .evacuate then stopShow s else s

/-- The FIRE demand is brought to its new value without a change of condition (R56). -/
def evaluateDemand (s : State) : State :=
  let d := s.fire.demandFor s.fire.condition
  if d = s.fire.demand then s
  else ({ s with fire := { s.fire with demand := d } } : State).onCurtain fun e => curtainFireHandoff e d none

/-- A list change that adds zones reaches the ladder (R47). -/
def climbLadder (entering : List ZoneId) (s : State) : State :=
  match s.fire.climb entering with
  | some (c, cause) => changeCondition c cause s
  | none => evaluateDemand s

/-- An event at the zones with all that follows from it. -/
def zoneEvent (f : ZoneEvent) (s : State) : State :=
  let r := s.onZones f
  if r.2.isEmpty then r.1 else climbLadder r.2 r.1

/-- Show mode turns off by a request: the Fire Monitor promotes every DELAYED zone (R33). -/
def showModeOff (s : State) : State := zoneEvent promoteAll s

/-- A change of the record made by a request of the prompt or the house desk. -/
def changeHouse (cause : ClearanceCause) (new : House) (s : State) : State :=
  completeChange s.house cause showModeOff { s with house := new }

/-! ## Reset, isolation, acknowledgement -/

/-- The zone leaves ALARM by a reset (R35, R36). -/
def leaveAlarm (z : ZoneId) : ZoneEvent := fun _ w =>
  let f := { w.val with alarmList := w.val.alarmList.erase z }
  let r := f.zones[z]
  match r.input with
  | .quiet => changeZone z .alarm .reset (f.setZone z { r with state := .normal, alarmTime := none }) w
  | .faulty => changeZone z .alarm .reset (f.setZone z { r.flagged with state := .fault, alarmTime := none }) w
  | .active => (w, [])

/-- A reset of a zone of the right kind (R35, R55). -/
def resetZoneBlock (z : ZoneId) (s : State) : State × Answer :=
  let r := s.fire.zones[z]
  if r.state = .alarm then
    if r.input = .active then (s, refuse .stillActive)
    else (evaluateDemand (s.onZones (leaveAlarm z)).1, done .empty)
  else (s, done .empty)

/-- ISOLATE ZONE (R37). -/
def isolateBlock (z : ZoneId) (s : State) : State × Answer :=
  let r := s.fire.zones[z]
  match r.state with
  | .alarm | .delayed => (s, refuse .inAlarm)
  | .isolated => (s, done .empty)
  | .normal | .fault =>
    (zoneEvent (fun _ w => changeZone z r.state .isolate
      (w.val.setZone z { r with state := .isolated, activeWhileIsolated := r.input == .active }) w) s, done .empty)

/-- RESTORE ZONE (R39). -/
def restoreZoneBlock (z : ZoneId) (s : State) : State × Answer :=
  if s.fire.zones[z].state = .isolated then (zoneEvent (restoreIsolated z) s, done .empty) else (s, done .empty)

/-- The flag of a desk on a zone (R41). -/
def Zone.pending (r : Zone) : Desk → Bool
  | .prompt => r.pendingPrompt
  | .house => r.pendingHouse

def Zone.acknowledged (k : Desk) (r : Zone) : Zone :=
  match k with
  | .prompt => { r with pendingPrompt := false }
  | .house => { r with pendingHouse := false }

/-- ACKNOWLEDGE ZONES (R41): the named zone, or all zones. -/
def acknowledgeBlock (k : Desk) (zone : Option ZoneId) (s : State) : State × Answer :=
  match zone with
  | some z =>
    let r := s.fire.zones[z]
    ({ s with fire := s.fire.setZone z (r.acknowledged k) }, done (.number (if r.pending k then 1 else 0)))
  | none =>
    ({ s with fire := { s.fire with zones := vmap (Zone.acknowledged k) s.fire.zones } },
      done (.number (s.fire.zones.toList.filter (fun r => r.pending k)).length))

/-! ## Evacuation by request, and the return to QUIET -/

/-- EVACUATE NOW and PANEL EVACUATE (R51, R52). -/
def evacuateBlock (cause : FireCause) (s : State) : State × Answer :=
  if s.fire.condition = .evacuate then (s, done (.condition .evacuate))
  else (changeCondition .evacuate cause s, done (.condition .evacuate))

/-- The house may be stood down or restored: the list empty and no zone DELAYED (R53, R54). -/
def Fire.calm (f : Fire) : Bool := f.alarmList.isEmpty && !f.anyDelayed

/-- STAND DOWN from ALERT and RESTORE from EVACUATE (R53, R54). -/
def returnToQuiet (required other : Condition) (cause : FireCause) (s : State) : State × Answer :=
  if s.fire.condition = .quiet then (s, done .empty)
  else if s.fire.condition = other then (s, refuse .notActive)
  else if s.fire.condition = required ∧ s.fire.calm = true then (changeCondition .quiet cause s, done .empty)
  else (s, ⟨.refused, .alarmPresent s.fire.alarmList.length s.fire.delayedCount⟩)

/-- The pairs of a ZONE REPORT, checked whole (R28): panel zones alone. -/
def reportPairs : List (Byte × Byte) → Option (List (ZoneId × Reading))
  | [] => some []
  | (z, st) :: rest =>
    match identifier 32 z, panelInput st, reportPairs rest with
    | some z, some r, some ps => if isLocal z then none else some ((z, r) :: ps)
    | _, _, _ => none

/-- ZONE REPORT (R28): each pair is taken whole before the next. -/
def zoneReportBlock (pairs : List (Byte × Byte)) (s : State) : State × Answer :=
  match reportPairs pairs with
  | none => (s, refuse .badNumber)
  | some ps => (ps.foldl (fun s p => zoneEvent (zoneArrival p.1 p.2) s) s, done .empty)

end Sys2Proof.Machine
end

