-- ==== Sys2Proof/Machine/Frames.lean ====
section
/-! DEFINITION. Frames on the links (10_station_links.md): the CRC (R169), the receiver (R168), the payload layouts of
every request (R180, Tables 10-6 to 10-13) in both directions, the permission table (Table 10-2) and the shape check of
R173. -/
namespace Sys2Proof.Machine

/-! ## The CRC and the receiver -/

/-- One data bit enters the CRC register (R169). -/
def crcBit (reg : BitVec 16) (bit : Bool) : BitVec 16 :=
  if reg.msb != bit then (reg <<< 1) ^^^ 0x1021#16 else reg <<< 1

/-- One byte enters, most significant bit first (R169). -/
def crcByte (reg : BitVec 16) (b : Byte) : BitVec 16 :=
  [7, 6, 5, 4, 3, 2, 1, 0].foldl (fun r i => crcBit r (b.getLsbD i)) reg

/-- The CRC over station byte, kind byte, length byte and payload (R169). -/
def crc (bs : List Byte) : BitVec 16 := bs.foldl crcByte 0xFFFF#16

/-- The two bytes of a number, most significant byte first (R180). -/
def halfBytes (h : Half) : List Byte := [h.extractLsb' 8 8, h.extractLsb' 0 8]

/-- The four bytes of a number, most significant byte first (R180). -/
def wordBytes (w : BitVec 32) : List Byte :=
  [w.extractLsb' 24 8, w.extractLsb' 16 8, w.extractLsb' 8 8, w.extractLsb' 0 8]

/-- The number that two bytes send. -/
def half (hi lo : Byte) : Half := hi ++ lo

/-- The number that four bytes send. -/
def word (a b c d : Byte) : BitVec 32 := a ++ b ++ c ++ d

/-- The start marker (Table 10-6). -/
def startMarker : Byte := 0xA5

/-- The station byte of a port (Table 10-1). -/
def stationByte : Port → Byte
  | .prompt => 0x50
  | .house => 0x48
  | .panel => 0x46
  | .console => 0x43

/-- The largest length of a payload (Table 10-6). -/
def payloadMax : Nat := 120

/-- A whole frame as its bytes (Table 10-6). -/
def frameBytes (station kind : Byte) (payload : List Byte) : List Byte :=
  let body := station :: kind :: BitVec.ofNat 8 payload.length :: payload
  startMarker :: (body ++ halfBytes (crc body))

/-- The check of a completed frame: its CRC and its station byte (R168). The bytes are those after the start
marker. -/
def checkFrame (p : Port) (body : List Byte) : Option Frame :=
  match body with
  | station :: kind :: length :: rest =>
    let payload := rest.take length.toNat
    if station = stationByte p ∧ rest.drop length.toNat = halfBytes (crc (station :: kind :: length :: payload)) then
      some ⟨kind, payload⟩
    else none
  | _ => none

/-- What one byte does to a receiver (R168): `held` are the bytes of the frame in reception with its start marker,
none while hunting. The answer is the bytes held next, and the frame completed by this byte when it is valid. -/
def receiveByte (p : Port) (held : List Byte) (b : Byte) : List Byte × Option Frame :=
  match held with
  | [] => (if b = startMarker then [b] else [], none)
  | [_] | [_, _] => (held ++ [b], none)
  | [_, _, _] => (if payloadMax < b.toNat then [] else held ++ [b], none)
  | _ :: station :: kind :: length :: rest =>
    if rest.length + 1 = length.toNat + 2 then
      ([], checkFrame p (station :: kind :: length :: (rest ++ [b])))
    else (held ++ [b], none)

/-! ## The kinds of request and their permissions (Table 10-2) -/

/-- A kind names a request. -/
def kindKnown (k : Byte) : Bool := 1 ≤ k.toNat && k.toNat ≤ 0x38

/-- Table 10-2: the port may make a request of this kind. -/
def permitted (p : Port) (k : Byte) : Bool :=
  let n := k.toNat
  if 0x30 ≤ n then true
  else if n = 0x19 ∨ (0x2B ≤ n ∧ n ≤ 0x2D) then p == .prompt || p == .house
  else if n = 0x23 ∨ n = 0x24 ∨ n = 0x25 then p == .house || p == .console
  else if n = 0x26 ∨ n = 0x27 then p == .console
  else if n = 0x13 ∨ n = 0x14 ∨ n = 0x15 then p == .panel
  else if n = 0x03 ∨ n = 0x04 ∨ (0x07 ≤ n ∧ n ≤ 0x0B) ∨ (0x0E ≤ n ∧ n ≤ 0x12) ∨ (0x1D ≤ n ∧ n ≤ 0x22) then
    p == .prompt
  else p == .house

/-! ## Layouts -/

/-- Pairs of bytes in order. -/
def pairBytes : List (Byte × Byte) → List Byte
  | [] => []
  | (a, b) :: rest => a :: b :: pairBytes rest

/-- The pairs that an even number of bytes holds. -/
def readPairs : List Byte → Option (List (Byte × Byte))
  | [] => some []
  | [_] => none
  | a :: b :: rest => (readPairs rest).map ((a, b) :: ·)

/-- The pairs of a payload whose count byte is `m`. -/
def countedPairs (m : Byte) (bytes : List Byte) : Option (List (Byte × Byte)) :=
  match readPairs bytes with
  | some ps => if ps.length = m.toNat then some ps else none
  | none => none

/-- The frame of a CONFIGURE record (Table 10-13). -/
def configFrame (code : Byte) (record : List Byte) : Frame := ⟨0x01, code :: record⟩

/-- The port on which a request arrives. -/
def requestPort : Instr → Option Port
  | .unknownRequest p _ _ | .configureZone p .. | .configureCurtain p .. | .configureCircuit p ..
  | .configureSlot p .. | .configurePreset p .. | .configurePagingZone p .. | .configureBuiltInCall p ..
  | .configureTiming p .. | .configureLine p .. | .configureOption p .. | .configurationComplete p
  | .openPerformance p | .closePerformance p | .openHouse p | .houseClosed p | .goAct p | .endAct p _ | .showStop p
  | .resume p | .endPerformance p | .giveClearance p | .withdrawClearance p | .setPlannedUp p _ | .delayUp p _
  | .extendInterval p _ | .showModeOn p | .showModeOff p | .zoneReport p _ | .panelResetZone p _ | .resetZone p _
  | .isolateZone p _ | .restoreZone p _ | .acknowledgeZones p _ | .evacuateNow p | .panelEvacuate p | .standDown p
  | .restore p | .dropCurtain p | .demonstrateCurtain p | .raiseHold p | .stopRaise p | .resetManualRelease p
  | .clearCurtainFaults p | .lights p .. | .goPreset p .. | .holdFades p | .takeLights p | .giveBackLights p
  | .reclaimLights p | .panicLightsOn p | .panicLightsOff p | .createCall p .. | .cancelCall p _
  | .collectCompletions p | .zoneGate p .. | .resetChannel p _ | .readHouse p | .readZones p _ | .readAlarmList p _
  | .readCurtain p _ | .readCircuits p .. | .readCall p _ | .readQueues p | .readChannels p | .readLinks p => some p
  | .powerOn | .resetAsserted | .startUpSettleEnd | .lineRawChange .. | .settleExpiry _ | .receiveFrame .. | .frameAbandoned _
  | .supervisionExpiry _ | .frameSent _ | .intervalCountdownExpiry | .showDelayExpiry _ | .investigationExpiry
  | .leaseExpiry | .raiseSample _ | .creepSample _ | .descentSample _ | .fadeStep _ | .dimmerFrame | .dueTimerExpiry
  | .callDeadline _ | .playingRises _ | .playingFalls _ | .startTimerExpiry _ | .guardTimerExpiry _
  | .stopTimerExpiry _ | .builtInGapExpiry _ | .performanceClockTick _ | .lengthAbove120 .. => none

/-- The frame that carries a request: its kind and its payload (Tables 10-2 and 10-8 to 10-13). An event has none;
its frame is that of no request. -/
def requestFrame : Instr → Frame
  | .unknownRequest _ kind payload => ⟨kind, payload⟩
  | .configureZone _ z c a r d => configFrame 0 [z, c, a, r, d]
  | .configureCurtain _ T C S Tf Ts B D Vs W stall creep =>
    configFrame 1 (halfBytes T ++ halfBytes C ++ halfBytes S ++ halfBytes Tf ++ halfBytes Ts ++ halfBytes B ++
      halfBytes D ++ halfBytes Vs ++ halfBytes W ++ halfBytes stall ++ halfBytes creep)
  | .configureCircuit _ c s e m k => configFrame 2 [c, s, e, m, k]
  | .configureSlot _ s c => configFrame 3 [s, c]
  | .configurePreset _ n levels slot used => configFrame 4 (n :: (levels.toList ++ [slot, used]))
  | .configurePagingZone _ z s e => configFrame 5 [z, s, e]
  | .configureBuiltInCall _ d m length gap => configFrame 6 (d :: m :: (halfBytes length ++ halfBytes gap))
  | .configureTiming _ inv delay i e p r sp sh sf sc =>
    configFrame 7 (halfBytes inv ++ halfBytes delay ++ [i, e, p, r, sp, sh, sf, sc])
  | .configureLine _ l p t => configFrame 8 [l, p, t]
  | .configureOption _ d => configFrame 9 [d]
  | .configurationComplete _ => ⟨0x02, []⟩
  | .openPerformance _ => ⟨0x03, []⟩
  | .closePerformance _ => ⟨0x04, []⟩
  | .openHouse _ => ⟨0x05, []⟩
  | .houseClosed _ => ⟨0x06, []⟩
  | .goAct _ => ⟨0x07, []⟩
  | .endAct _ final => ⟨0x08, [final]⟩
  | .showStop _ => ⟨0x09, []⟩
  | .resume _ => ⟨0x0A, []⟩
  | .endPerformance _ => ⟨0x0B, []⟩
  | .giveClearance _ => ⟨0x0C, []⟩
  | .withdrawClearance _ => ⟨0x0D, []⟩
  | .setPlannedUp _ n => ⟨0x0E, halfBytes n⟩
  | .delayUp _ n => ⟨0x0F, halfBytes n⟩
  | .extendInterval _ m => ⟨0x10, [m]⟩
  | .showModeOn _ => ⟨0x11, []⟩
  | .showModeOff _ => ⟨0x12, []⟩
  | .zoneReport _ ps => ⟨0x13, BitVec.ofNat 8 ps.length :: pairBytes ps⟩
  | .panelResetZone _ z => ⟨0x14, [z]⟩
  | .panelEvacuate _ => ⟨0x15, []⟩
  | .resetZone _ z => ⟨0x16, [z]⟩
  | .isolateZone _ z => ⟨0x17, [z]⟩
  | .restoreZone _ z => ⟨0x18, [z]⟩
  | .acknowledgeZones _ z => ⟨0x19, [z]⟩
  | .evacuateNow _ => ⟨0x1A, []⟩
  | .standDown _ => ⟨0x1B, []⟩
  | .restore _ => ⟨0x1C, []⟩
  | .dropCurtain _ => ⟨0x1D, []⟩
  | .demonstrateCurtain _ => ⟨0x1E, []⟩
  | .raiseHold _ => ⟨0x1F, []⟩
  | .stopRaise _ => ⟨0x20, []⟩
  | .resetManualRelease _ => ⟨0x21, []⟩
  | .clearCurtainFaults _ => ⟨0x22, []⟩
  | .lights _ slot ps => ⟨0x23, slot :: BitVec.ofNat 8 ps.length :: pairBytes ps⟩
  | .goPreset _ n slot => ⟨0x24, [n, slot]⟩
  | .holdFades _ => ⟨0x25, []⟩
  | .takeLights _ => ⟨0x26, []⟩
  | .giveBackLights _ => ⟨0x27, []⟩
  | .reclaimLights _ => ⟨0x28, []⟩
  | .panicLightsOn _ => ⟨0x29, []⟩
  | .panicLightsOff _ => ⟨0x2A, []⟩
  | .createCall _ kind message length zones rep gap life notify timing =>
    ⟨0x2B, kind :: message :: (halfBytes length ++ halfBytes zones ++ rep :: (halfBytes gap ++ halfBytes life ++
      notify :: (match timing with
        | none => []
        | some (anchor, offset) => anchor :: wordBytes offset)))⟩
  | .cancelCall _ d => ⟨0x2C, [d]⟩
  | .collectCompletions _ => ⟨0x2D, []⟩
  | .zoneGate _ z m h => ⟨0x2E, [z, m, h]⟩
  | .resetChannel _ c => ⟨0x2F, [c]⟩
  | .readHouse _ => ⟨0x30, []⟩
  | .readZones _ z => ⟨0x31, [z]⟩
  | .readAlarmList _ n => ⟨0x32, [n]⟩
  | .readCurtain _ n => ⟨0x33, [n]⟩
  | .readCircuits _ sel first count => ⟨0x34, [sel, first, count]⟩
  | .readCall _ d => ⟨0x35, [d]⟩
  | .readQueues _ => ⟨0x36, []⟩
  | .readChannels _ => ⟨0x37, []⟩
  | .readLinks _ => ⟨0x38, []⟩
  | .powerOn | .resetAsserted | .startUpSettleEnd | .lineRawChange .. | .settleExpiry _ | .receiveFrame .. | .frameAbandoned _
  | .supervisionExpiry _ | .frameSent _ | .intervalCountdownExpiry | .showDelayExpiry _ | .investigationExpiry
  | .leaseExpiry | .raiseSample _ | .creepSample _ | .descentSample _ | .fadeStep _ | .dimmerFrame | .dueTimerExpiry
  | .callDeadline _ | .playingRises _ | .playingFalls _ | .startTimerExpiry _ | .guardTimerExpiry _
  | .stopTimerExpiry _ | .builtInGapExpiry _ | .performanceClockTick _ | .lengthAbove120 .. => ⟨0, []⟩

/-- The levels of a PRESET record, in circuit order (Table 10-13). -/
def presetLevels (bytes : List Byte) : Option (Vector Byte 48 × Byte × Byte) :=
  match h : bytes.take 48, bytes.drop 48 with
  | levels, [slot, used] =>
    if hl : levels.length = 48 then some (⟨levels.toArray, by simpa using hl⟩, slot, used) else none
  | _, _ => none

/-- The CONFIGURE row that a record spells (Table 10-13). -/
def decodeConfigure (p : Port) (code : Nat) (record : List Byte) : Option Instr :=
  match code, record with
  | 0, [z, c, a, r, d] => some (.configureZone p z c a r d)
  | 1, [a, a', b, b', c, c', d, d', e, e', f, f', g, g', h, h', i, i', j, j', k, k'] =>
    some (.configureCurtain p (half a a') (half b b') (half c c') (half d d') (half e e') (half f f') (half g g')
      (half h h') (half i i') (half j j') (half k k'))
  | 2, [c, s, e, m, k] => some (.configureCircuit p c s e m k)
  | 3, [s, c] => some (.configureSlot p s c)
  | 4, n :: rest => (presetLevels rest).map fun x => .configurePreset p n x.1 x.2.1 x.2.2
  | 5, [z, s, e] => some (.configurePagingZone p z s e)
  | 6, [d, m, l, l', g, g'] => some (.configureBuiltInCall p d m (half l l') (half g g'))
  | 7, [i, i', d, d', n, e, pk, r, sp, sh, sf, sc] =>
    some (.configureTiming p (half i i') (half d d') n e pk r sp sh sf sc)
  | 8, [l, q, t] => some (.configureLine p l q t)
  | 9, [d] => some (.configureOption p d)
  | _, _ => none

/-- The row that a request without operands spells. -/
def decodeBare (p : Port) (kind : Nat) : Option Instr :=
  match kind with
  | 0x02 => some (.configurationComplete p)
  | 0x03 => some (.openPerformance p)
  | 0x04 => some (.closePerformance p)
  | 0x05 => some (.openHouse p)
  | 0x06 => some (.houseClosed p)
  | 0x07 => some (.goAct p)
  | 0x09 => some (.showStop p)
  | 0x0A => some (.resume p)
  | 0x0B => some (.endPerformance p)
  | 0x0C => some (.giveClearance p)
  | 0x0D => some (.withdrawClearance p)
  | 0x11 => some (.showModeOn p)
  | 0x12 => some (.showModeOff p)
  | 0x15 => some (.panelEvacuate p)
  | 0x1A => some (.evacuateNow p)
  | 0x1B => some (.standDown p)
  | 0x1C => some (.restore p)
  | 0x1D => some (.dropCurtain p)
  | 0x1E => some (.demonstrateCurtain p)
  | 0x1F => some (.raiseHold p)
  | 0x20 => some (.stopRaise p)
  | 0x21 => some (.resetManualRelease p)
  | 0x22 => some (.clearCurtainFaults p)
  | 0x25 => some (.holdFades p)
  | 0x26 => some (.takeLights p)
  | 0x27 => some (.giveBackLights p)
  | 0x28 => some (.reclaimLights p)
  | 0x29 => some (.panicLightsOn p)
  | 0x2A => some (.panicLightsOff p)
  | 0x2D => some (.collectCompletions p)
  | 0x30 => some (.readHouse p)
  | 0x36 => some (.readQueues p)
  | 0x37 => some (.readChannels p)
  | 0x38 => some (.readLinks p)
  | _ => none

/-- The row that a request of one byte spells. -/
def decodeOne (p : Port) (kind : Nat) (b : Byte) : Option Instr :=
  match kind with
  | 0x08 => some (.endAct p b)
  | 0x10 => some (.extendInterval p b)
  | 0x14 => some (.panelResetZone p b)
  | 0x16 => some (.resetZone p b)
  | 0x17 => some (.isolateZone p b)
  | 0x18 => some (.restoreZone p b)
  | 0x19 => some (.acknowledgeZones p b)
  | 0x2C => some (.cancelCall p b)
  | 0x2F => some (.resetChannel p b)
  | 0x31 => some (.readZones p b)
  | 0x32 => some (.readAlarmList p b)
  | 0x33 => some (.readCurtain p b)
  | 0x35 => some (.readCall p b)
  | _ => none

/-- The row that a request of two or three bytes spells. -/
def decodeFew (p : Port) (kind : Nat) (payload : List Byte) : Option Instr :=
  match kind, payload with
  | 0x0E, [a, b] => some (.setPlannedUp p (half a b))
  | 0x0F, [a, b] => some (.delayUp p (half a b))
  | 0x24, [a, b] => some (.goPreset p a b)
  | 0x2E, [a, b, c] => some (.zoneGate p a b c)
  | 0x34, [a, b, c] => some (.readCircuits p a b c)
  | _, _ => none

/-- The row that a CREATE CALL payload spells (Table 10-9). -/
def decodeCreate (p : Port) (payload : List Byte) : Option Instr :=
  match payload with
  | [k, m, l, l', z, z', r, g, g', t, t', n] =>
    some (.createCall p k m (half l l') (half z z') r (half g g') (half t t') n none)
  | [k, m, l, l', z, z', r, g, g', t, t', n, a, o, o', o'', o'''] =>
    some (.createCall p k m (half l l') (half z z') r (half g g') (half t t') n (some (a, word o o' o'' o''')))
  | _ => none

/-- The row that a request frame spells by the lengths of its layout; none where no row has its kind and length. -/
def decodeRow (p : Port) (kind : Nat) (payload : List Byte) : Option Instr :=
  if kind = 0x01 then
    match payload with
    | code :: record => decodeConfigure p code.toNat record
    | [] => none
  else if kind = 0x13 then
    match payload with
    | m :: rest => (countedPairs m rest).map (.zoneReport p ·)
    | [] => none
  else if kind = 0x23 then
    match payload with
    | slot :: m :: rest => (countedPairs m rest).map (.lights p slot ·)
    | _ => none
  else if kind = 0x2B then decodeCreate p payload
  else
    match payload with
    | [] => decodeBare p kind
    | [b] => decodeOne p kind b
    | _ => decodeFew p kind payload

/-- The command that a received request is. -/
def decodeRequest (p : Port) (f : Frame) : Instr :=
  match decodeRow p f.kind.toNat f.payload with
  | some i => i
  | none => .unknownRequest p f.kind f.payload

/-! ## The shape check (R173 step 3, R180) -/

/-- The encoding rules that a payload of the right length may still break. -/
def shapeOk : Instr → Bool
  | .configureZone _ _ _ _ release eligible => isFlag release && isFlag eligible
  | .configureCircuit _ _ _ lit masked _ => isFlag lit && isFlag masked
  | .configurePreset _ _ _ _ used => isFlag used
  | .configurePagingZone _ _ staff evac => isFlag staff && isFlag evac
  | .configureLine _ _ polarity _ => isFlag polarity
  | .configureOption _ required => isFlag required
  | .endAct _ final => isFlag final
  | .zoneReport _ pairs => 1 ≤ pairs.length && pairs.length ≤ 59 && pairs.all fun q => q.2.toNat ≤ 2
  | .lights _ _ pairs => 1 ≤ pairs.length && pairs.length ≤ 48
  | .createCall _ kind _ _ _ _ _ _ notify timing =>
    isFlag notify && !(kind == 1 && timing.isNone) && !(kind == 2 && timing.isSome)
  | .zoneGate _ _ muted held => isFlag muted && isFlag held
  | .readCircuits _ selector _ last => selector == 0 || (selector == 1 && last == 0)
  | _ => true

end Sys2Proof.Machine
end

