-- ==== Sys2Proof/Machine/Links.lean ====
section
/-! DEFINITION. The Station Links (10_station_links.md): presence (R170, R171), the receive queue and the taking of a
request (R172, R173), the transmit queue (R176, R177), and the event rows of the links. -/
namespace Sys2Proof.Machine

/-- Update one port. -/
def State.setPort (p : Port) (r : PortRecord) (s : State) : State := { s with links := s.links.set p r }

/-! ## Presence -/

/-- The LINK STATE notice of a change of presence (R171). -/
def linkMail (p : Port) (present : Bool) (lastValid : Option Nat) : Mail :=
  ⟨[.prompt, .house], .linkState p present lastValid⟩

/-- The hand-off of a change of presence: port C to the Lighting Controller (R119), port F to the Fire Monitor (R43,
R44), ports P and H to no block (R171). -/
def handPresence (p : Port) (present : Bool) (s : State) : State :=
  match p with
  | .console => s.onLights (consoleLinkChange present)
  | .panel => if present then s.post [⟨[.panel], .reportAll⟩] else zoneEvent panelLoss s
  | .prompt | .house => s

/-- A change of presence completed in the three steps of R171; `r` is the port's record after the change. -/
def completePresence (p : Port) (r : PortRecord) (lastValid : Option Nat) (s : State) : State :=
  handPresence p r.present
    ((s.setPort p { r with changedAt := some s.clock }).post [linkMail p r.present lastValid])

/-- A valid frame acts on presence (R170): the timer restarts, and a LOST port becomes PRESENT. -/
def markPresent (p : Port) (s : State) : State :=
  let r := s.links.get p
  let r' := { r with present := true, timer := some (s.params.supervision p), lastValid := some s.clock }
  if r.present then s.setPort p r' else completePresence p r' r.lastValid s

/-- A port becomes LOST (R170, R171, R176, R177): its timer stops, its waiting notices are removed and its overrun
mark is cleared. -/
def PortRecord.lost (r : PortRecord) : PortRecord :=
  { r with present := false, timer := none, tx := r.tx.filter (fun f => !f.isNotice), overrun := none }

/-- The supervision timer of a port expires (R170). -/
def linkLoss (p : Port) (s : State) : State :=
  let r := s.links.get p
  if r.present ∧ timerDone r.timer = true then completePresence p r.lost r.lastValid s else s

/-! ## The receive queue (R172) -/

/-- The most requests a receive queue holds (R172). -/
def receiveRoom : Nat := 4

/-- A valid request frame joins the tail of the receive queue, or is discarded when four wait; a PRESENCE frame joins
nothing (R172). -/
def PortRecord.enqueue (f : Frame) (r : PortRecord) : PortRecord :=
  if f.kind = 0 then r else if r.rx.length < receiveRoom then { r with rx := r.rx ++ [f] } else r

/-- A valid frame (R170, R172). -/
def receiveValid (p : Port) (f : Frame) (s : State) : State :=
  let s := markPresent p s
  s.setPort p ((s.links.get p).enqueue f)

/-- One byte arrives at a port (R168). -/
def receiveOne (p : Port) (s : State) (b : Byte) : State :=
  let r := s.links.get p
  let x := receiveByte p r.receiver b
  let s := s.setPort p { r with receiver := x.1 }
  match x.2 with
  | some f => receiveValid p f s
  | none => s

/-! ## Taking a request (R172, R173) -/

/-- The four steps of R173: kind, permission, shape, block. -/
def answerRequest (p : Port) (kind : Byte) (shape : Bool) (block : State → State × Answer) (s : State) :
    State × Answer :=
  if !kindKnown kind then (s, refuse .malformed)
  else if !permitted p kind then (s, refuse .notPermitted)
  else if !shape then (s, refuse .malformed)
  else block s

/-- The kind of the reply to a request (R173). The sum is a byte: an unknown request of kind 0x80 or above, whose sum
no byte holds and for which R173 states no kind, is answered with the sum modulo 256 (log 34). -/
def replyKind (kind : Byte) : Byte := kind + 0x80

/-- The reply is queued and the request leaves the receive queue (R172, R176). -/
def finishRequest (p : Port) (kind : Byte) (before : Nat) (r : State × Answer) : State :=
  let q := (r.1.links.get p).insertReply before (.reply (replyKind kind) r.2)
  r.1.setPort p { q with rx := q.rx.drop 1 }

/-- A request stands at the head of its port's queue (R172), or, with the queue empty, it has just arrived on a
PRESENT port: a LOST port has received no frame (R170), so nothing new is taken from it (R43, log 3). -/
def PortRecord.offers (f : Frame) (r : PortRecord) : Bool :=
  match r.rx with
  | [] => r.present
  | g :: _ => g == f

/-- A request can be taken: the part is not inert, fewer than four replies of its port wait, and it is the request
next in line on its port (R172, R184, log 3). -/
def takeable (p : Port) (f : Frame) (s : State) : Bool :=
  !s.inert && decide ((s.links.get p).replies < replyRoom) && (s.links.get p).offers f

/-- The state after a request is taken whole (R173). -/
def afterRequest (p : Port) (i : Instr) (block : State → State × Answer) (s : State) : State :=
  finishRequest p (requestFrame i).kind (s.links.get p).tx.length
    (answerRequest p (requestFrame i).kind (shapeOk i) block s)

/-- A request of the opcode table: `block` is what the owning block does. A request that cannot be taken has no
effect. -/
def takeRequest (p : Port) (i : Instr) (block : State → State × Answer) (s : State) : Answered :=
  if takeable p (requestFrame i) s then .next (afterRequest p i block s) else .next s

/-- The request that the part takes of its own accord (R172): the head of the first receive queue, of the ports in
the order of Table 10-1, whose head can be taken (log 2). -/
def waitingRequest (s : State) : Option Instr :=
  [Port.prompt, .house, .panel, .console].findSome? fun p =>
    match (s.links.get p).rx with
    | f :: _ => if takeable p f s then some (decodeRequest p f) else none
    | [] => none

/-- What the block of an undecodable CONFIGURE answers: a record kind code of 10 or more names nothing (R181). -/
def unknownRecord (s : State) : State × Answer :=
  if s.house.phase = .unconfigured ∨ s.house.phase = .dark then (s, refuse .badNumber) else (s, refuse .frozen)

/-- The payload is that of a CONFIGURE with an unknown record kind code (R180, section 10.8). -/
def namesNoRecord (kind : Byte) (payload : List Byte) : Bool :=
  kind == 1 && (match payload with
    | code :: _ => 10 ≤ code.toNat
    | [] => false)

/-- UNKNOWN_REQUEST (R173): a request that no other row spells. A frame that another row spells, and a PRESENCE
frame, is not this command (log 22). -/
def execUnknownRequest (port : Port) (kind : Byte) (payload : List Byte) (s : State) : Answered :=
  if kind = 0 ∨ (decodeRow port kind.toNat payload).isSome = true then .next s
  else takeRequest port (.unknownRequest port kind payload)
    (fun s => if namesNoRecord kind payload then unknownRecord s else (s, refuse .malformed)) s

/-! ## The event rows of the links; the links are ignored while the part is inert (R184) -/

/-- RECEIVE_FRAME (R168): the bytes arrive one after another with no gap above 20 ms. -/
def execReceiveFrame (port : Port) (bytes : List Byte) (s : State) : Answered :=
  if s.inert then .next s else .next (bytes.foldl (receiveOne port) s)

/-- The receiver returns to hunting (R168). -/
def dropReception (p : Port) (s : State) : State := s.setPort p { s.links.get p with receiver := [] }

/-- FRAME_ABANDONED (R168). -/
def execFrameAbandoned (port : Port) (s : State) : Answered :=
  if s.inert then .next s else .next (dropReception port s)

/-- LENGTH_ABOVE_120 (R168): the length byte of the frame in reception arrives. -/
def execLengthAbove120 (port : Port) (length : Byte) (s : State) : Answered :=
  if s.inert ∨ length.toNat ≤ payloadMax ∨ (s.links.get port).receiver.length ≠ 3 then .next s
  else .next (dropReception port s)

/-- SUPERVISION_EXPIRY (R170). -/
def execSupervisionExpiry (port : Port) (s : State) : Answered :=
  if s.inert then .next s else .next (linkLoss port s)

/-- The head of a transmit queue has left the link (R176); when it was a notice and the overrun mark is set, NOTICES
LOST joins the tail and the mark is cleared (R177). -/
def PortRecord.sent (r : PortRecord) : PortRecord :=
  match r.tx with
  | [] => r
  | f :: rest =>
    let r' := { r with tx := rest }
    match f, r.overrun with
    | .notice _, some since =>
      if r'.notices < noticeRoom then { r' with tx := rest ++ [.notice (.noticesLost since)], overrun := none } else r'
    | _, _ => r'

/-- FRAME_SENT (R176). -/
def execFrameSent (port : Port) (s : State) : Answered :=
  if s.inert then .next s else .next (s.setPort port (s.links.get port).sent)

end Sys2Proof.Machine
end

