-- ==== Sys2Proof/Machine/CallRequests.lean ====
section
/-! DEFINITION. The requests and events of the Call Scheduler and the Call Arbiter (08_calls_and_the_timetable.md,
09_announcement_channels_and_the_call_arbiter.md). -/
namespace Sys2Proof.Machine

/-! ## CREATE CALL (R133, R134) -/

/-- The operands of CREATE CALL (Table 10-9). -/
structure CallOrder where
  kind : Byte
  message : Byte
  length : Nat
  zones : Half
  repeatCount : Nat
  gap : Nat
  lifetime : Nat
  notify : Bool
  timing : Option (Byte × BitVec 32)

/-- The anchor and offset of a SCHEDULED call. -/
def CallOrder.anchorGiven (o : CallOrder) : Option (Anchor × Int) :=
  o.timing.bind fun t => (anchorOf t.1).map (·, t.2.toInt)

/-- The identifiers of the request are good (R133, check 2). -/
def CallOrder.named (o : CallOrder) : Bool :=
  (callKindOf o.kind).isSome && o.message != 0 && o.zones.extractLsb' 12 4 == 0 &&
    (o.timing.isNone || o.anchorGiven.isSome)

/-- The largest offset from an anchor (R134). -/
def offsetMax : Int := 36000

/-- Some quantity is out of its range (R134). -/
def CallOrder.outOfRange (o : CallOrder) : Bool :=
  decide (clampNat 1 600 o.length ≠ o.length) || decide (clampNat 1 255 o.repeatCount ≠ o.repeatCount) ||
    decide (min 3000 o.gap ≠ o.gap) || decide (min 6000 o.lifetime ≠ o.lifetime) ||
    (match o.anchorGiven with
      | some x => decide (clampInt (-offsetMax) offsetMax x.2 ≠ x.2)
      | none => false)

/-- The descriptor as written from the request, its quantities brought into range (R129, R134). -/
def CallOrder.descriptor (o : CallOrder) (creator : Desk) (now : Nat) : Descriptor :=
  { Descriptor.free with
    life := .waiting
    kind := (callKindOf o.kind).getD .immediate
    creator := creator
    message := o.message.toNat
    length := clampNat 1 600 o.length
    zones := o.zones.extractLsb' 0 12
    repeatCount := clampNat 1 255 o.repeatCount
    gap := min 3000 o.gap
    lifetime := min 6000 o.lifetime
    anchor := o.anchorGiven.map (·.1)
    offset := (o.anchorGiven.map fun x => clampInt (-offsetMax) offsetMax x.2).getD 0
    notify := o.notify
    createdAt := now }

/-- Allocation of the lowest number of the free pool (R134). -/
def allocate (i : CallId) (d : Descriptor) (c : Calls) : Calls :=
  { (c.setDesc i d) with
    pool := c.pool.erase i
    creation := c.creation.set i c.nextCreation
    nextCreation := c.nextCreation + 1 }

/-- The life state after placing and before any drain, with the due time where the call is TIMED (R134). -/
def placedLife (e : CallEnv) (fire : Condition) (d : Descriptor) : Life × Option Nat :=
  match d.kind, e.anchorDue d with
  | .immediate, _ => (.ready, none)
  | _, none => (.waiting, none)
  | _, some due =>
    match placingOf e.now due d.lifetime fire with
    | .timed => (.timed, some due)
    | .expired => (.finished, none)
    | .ready => (.ready, none)

/-- The placing of a new call, then the walk when the ready queue has changed (R134, R132). -/
def placeCall (i : CallId) (d : Descriptor) (e : CallEnv) (w : Act Calls) : Act Calls :=
  let before := w.val
  let w := w.map (allocate i d)
  walkOnChange e.now before (if d.kind = .immediate then w.map (enterReady e.now i) else armFromAnchor e i w)

/-- The checks of R133 in order, and the creation (R134). -/
def createCallBlock (creator : Desk) (o : CallOrder) (s : State) : State × Answer :=
  if s.calls.phaseSeen = .unconfigured ∨ s.calls.phaseSeen = .dark then (s, refuse .wrongPhase)
  else if !o.named then (s, refuse .badNumber)
  else if o.zones.extractLsb' 0 12 = 0 then (s, refuse .emptyZoneSet)
  else
    match s.calls.pool with
    | [] => (s, refuse .noDescriptor)
    | i :: _ =>
      let d := o.descriptor creator s.clock
      let placed := placedLife s.callEnv s.calls.fireSeen d
      (s.onCalls (placeCall i d), doneOrClamped o.outOfRange (.callCreated (callNumber i) placed.1 placed.2))

def execCreateCall (port : Port) (kind message : Byte) (length zones : Half) (repeatCount : Byte)
    (gap lifetime : Half) (notify : Byte) (timing : Option (Byte × BitVec 32)) (s : State) : Answered :=
  takeRequest port (.createCall port kind message length zones repeatCount gap lifetime notify timing)
    (createCallBlock (deskOf port)
      ⟨kind, message, length.toNat, zones, repeatCount.toNat, gap.toNat, lifetime.toNat, flagOf notify, timing⟩) s

/-! ## The other requests -/

/-- CANCEL CALL (R144). -/
def cancelCallBlock (descriptor : Byte) (s : State) : State × Answer :=
  match identifierFrom1 48 descriptor with
  | none => (s, refuse .badNumber)
  | some i =>
    if !isGeneral i then (s, refuse .notPermitted)
    else if s.calls.table[i].life.live then
      (s.onCalls (cancelAct i), done (.lifeBefore s.calls.table[i].life))
    else (s, refuse .notActive)

def execCancelCall (port : Port) (descriptor : Byte) (s : State) : Answered :=
  takeRequest port (.cancelCall port descriptor) (cancelCallBlock descriptor) s

/-- The most entries one COLLECT COMPLETIONS returns (R166). -/
def collectRoom : Nat := 8

/-- The oldest entries leave the queue and its desk's drain is taken, without a notice (R166). -/
def collectAct (k : Desk) (_ : CallEnv) (w : Act Calls) : Act Calls :=
  drain true k (w.map fun c => c.setQueue k ((c.queue k).drop collectRoom))

/-- COLLECT COMPLETIONS (R166). -/
def collectBlock (k : Desk) (s : State) : State × Answer :=
  let s' := s.onCalls (collectAct k)
  (s', done (.completions ((s.calls.queue k).take collectRoom) (s'.calls.queue k).length))

def execCollectCompletions (port : Port) (s : State) : Answered :=
  takeRequest port (.collectCompletions port) (collectBlock (deskOf port)) s

/-- A gate is written, and the change is a walk event (R149, R156). -/
def gateAct (z : Fin 12) (muted held : Bool) (e : CallEnv) (w : Act Calls) : Act Calls :=
  let r := w.val.paging[z]
  if r.muted = muted ∧ r.held = held then w
  else walk e.now (w.map fun c => { c with paging := c.paging.set z { r with muted := muted, held := held } })

/-- ZONE GATE (R149). -/
def zoneGateBlock (zone : Byte) (muted held : Bool) (s : State) : State × Answer :=
  match identifier 12 zone with
  | some z => (s.onCalls (gateAct z muted held), done (.gate muted held))
  | none => (s, refuse .badNumber)

def execZoneGate (port : Port) (zone muted held : Byte) (s : State) : Answered :=
  takeRequest port (.zoneGate port zone muted held) (zoneGateBlock zone (flagOf muted) (flagOf held)) s

/-- RESET CHANNEL (R155). -/
def resetChannelBlock (channel : Byte) (s : State) : State × Answer :=
  match channelOf channel with
  | none => (s, refuse .badNumber)
  | some ch =>
    if (s.calls.chan ch).state = .faulted then
      if s.pins.playing ch then (s, refuse .busy) else (s.onCalls (resetChannelAct ch), done .empty)
    else (s, done .empty)

def execResetChannel (port : Port) (channel : Byte) (s : State) : Answered :=
  takeRequest port (.resetChannel port channel) (resetChannelBlock channel) s

/-! ## Events -/

/-- An event of the calls, ignored while the part is inert (R184). -/
def callEvent (f : CallEnv → Act Calls → Act Calls) (s : State) : Answered :=
  if s.inert then .next s else .next (s.onCalls f)

/-- DUE_TIMER_EXPIRY (R139). -/
def execDueTimerExpiry (s : State) : Answered := callEvent dueTimerAct s

/-- CALL_DEADLINE (R141). -/
def execCallDeadline (call : CallId) (s : State) : Answered := callEvent (deadlineAct call) s

/-- The level of a PLAYING line (R150). -/
def State.setPlaying (ch : Channel) (level : Bool) (s : State) : State :=
  { s with pins := s.pins.setPlaying ch level }

/-- PLAYING_RISES (R150, R152). -/
def execPlayingRises (channel : Channel) (s : State) : Answered :=
  callEvent (playingRisesAct channel) (s.setPlaying channel true)

/-- PLAYING_FALLS (R153, R154). -/
def execPlayingFalls (channel : Channel) (s : State) : Answered :=
  callEvent (playingFallsAct channel) (s.setPlaying channel false)

/-- START_TIMER_EXPIRY (R152). -/
def execStartTimerExpiry (channel : Channel) (s : State) : Answered := callEvent (startTimerExpiryAct channel) s

/-- GUARD_TIMER_EXPIRY (R153). -/
def execGuardTimerExpiry (channel : Channel) (s : State) : Answered := callEvent (guardTimerExpiryAct channel) s

/-- STOP_TIMER_EXPIRY (R154). -/
def execStopTimerExpiry (channel : Channel) (s : State) : Answered := callEvent (stopTimerExpiryAct channel) s

/-- BUILT_IN_GAP_EXPIRY (R159). -/
def execBuiltInGapExpiry (call : BuiltIn) (s : State) : Answered := callEvent (gapExpiryAct call) s

end Sys2Proof.Machine
end

