-- ==== Sys2Proof/Machine/Lines.lean ====
section
/-! DEFINITION. The Line Interface (R25 to R27, R182, Table 11-3): raw readings, settling, the start-up settle (R185)
and the hand-off of each settled change to its block. -/
namespace Sys2Proof.Machine

/-- The supervised lines: L0 to L7 and the fire release line (Table 11-3). -/
def supervised (l : Line) : Bool := l.val ≤ 8

/-- The raw reading of a line from its levels and its polarity (R25, R182). -/
def rawReading (l : Line) (normallyClosed : Bool) (p : LinePins) : Reading :=
  if supervised l && !p.sound then .faulty
  else if p.closed != normallyClosed then .active else .quiet

/-- The raw reading of a line at this moment. -/
def State.raw (s : State) (l : Line) : Reading := rawReading l s.lines[l].normallyClosed s.pins.lines[l]

/-- What a raw reading does to a line that settles (R26). Before its baseline a line holds no candidate (R185). -/
def LineRecord.update (raw : Reading) (r : LineRecord) : LineRecord :=
  match r.settled with
  | none => r
  | some st =>
    if raw = st then { r with candidate := none }
    else
      match r.candidate with
      | some (c, _) => if c = raw then r else { r with candidate := some (raw, r.settleTime) }
      | none => { r with candidate := some (raw, r.settleTime) }

/-- The Line Interface reads a line afresh (R25, R26). -/
def State.reread (l : Line) (s : State) : State := { s with lines := s.lines.set l (s.lines[l].update (s.raw l)) }

/-- A settled change of a line is handed to its block (Table 11-3); `old` is the settled state before it. -/
def handLine (l : Line) (old : Option Reading) (new : Reading) (s : State) : State :=
  if h : l.val < 8 then zoneEvent (zoneArrival ⟨l.val, by omega⟩ new) s
  else if l = fireLine then s.onCurtain fun e => hardLineChange e old new
  else if l = manualLine then s.onCurtain fun e => manualChange e old new
  else if l = blackoutLine then { s with lights := { s.lights with blackout := new } }
  else if l = bottomLine then s.onCurtain fun e => bottomLimitChange e new
  else s.onCurtain fun e => topLimitChange e new

/-- The settle timer of a line has run out (R26, log 1). -/
def settleLine (l : Line) (s : State) : State :=
  let r := s.lines[l]
  match r.candidate with
  | some (c, 0) =>
    handLine l r.settled c { s with lines := s.lines.set l { r with settled := some c, candidate := none } }
  | _ => s

/-- LINE_RAW_CHANGE (R25, R26): the levels follow the pins always, and are read while the part is not inert. -/
def execLineRawChange (line : Line) (sound closed : Bool) (s : State) : Answered :=
  let s' : State := { s with pins := { s.pins with lines := s.pins.lines.set line ⟨sound, closed⟩ } }
  if s.inert then .next s' else .next (s'.reread line)

/-- SETTLE_EXPIRY (R26). -/
def execSettleExpiry (line : Line) (s : State) : Answered :=
  if s.inert then .next s else .next (settleLine line s)

/-- The baseline of a zone line (R27). -/
def zoneLineBaseline (s : State) (z : Fin 8) : State :=
  zoneEvent (zoneBaseline ⟨z.val, by omega⟩ ((s.settled ⟨z.val, by omega⟩).getD .quiet)) s

/-- The baselines at the end of the start-up settle (R185): the zone lines in ascending number (R27), the blackout button
(R124), then of the curtain lines the fire release before the bottom limit (R86). The order is the model's (log 36). -/
def takeBaselines (s : State) : State :=
  let s : State := { s with
    startUp := none
    lines := vmapIdx (fun i r => { r with
      settled := some (if h : i < 13 then s.raw ⟨i, h⟩ else .quiet), candidate := none }) s.lines }
  let s := (List.finRange 8).foldl zoneLineBaseline s
  let s : State := { s with lights := { s.lights with blackout := (s.settled blackoutLine).getD .quiet } }
  let s := s.onCurtain fun e => hardLineChange e none ((s.settled fireLine).getD .quiet)
  s.onCurtain fun e => bottomBaseline e ((s.settled bottomLine).getD .quiet)

/-- START_UP_SETTLE_END (R185), when the interval has run out (log 1). -/
def execStartUpSettleEnd (s : State) : Answered :=
  if !s.inert && timerDone s.startUp then .next (takeBaselines s) else .next s

end Sys2Proof.Machine
end

