-- ==== Sys2Proof/Machine/Configure.lean ====
section
/-! DEFINITION. The Configuration Store (11_configuration_and_start_up.md): the ten CONFIGURE records (R181 to R183, and
the rules of Table 11-1). Each block checks phase, identifiers and quantities in that order. -/
namespace Sys2Proof.Machine

/-- Configuration is open in UNCONFIGURED and DARK (R181). -/
def State.configOpen (s : State) : Bool := s.house.phase == .unconfigured || s.house.phase == .dark

/-- The checks of R181: phase, then identifiers; `write` is what a record with good identifiers does. -/
def configure (write : Option (State → State × Answer)) (s : State) : State × Answer :=
  if s.configOpen then
    match write with
    | some f => f s
    | none => (s, refuse .badNumber)
  else (s, refuse .frozen)

/-- The reply of a write: record kind, identifier and every field as stored (R181). -/
def stored (clamped : Bool) (record : Nat) (ident : Option Nat) (fields : List Nat) : Answer :=
  doneOrClamped clamped (.config record ident fields)

/-! ## ZONE (R24, R48, R56) -/

def Zone.configured (c : ZoneClass) (a : Area) (release eligible : Bool) (r : Zone) : Zone :=
  { r with cls := c, area := a, curtainRelease := release, delayEligible := eligible }

/-- The cause of a class rewrite that evacuates (R48). -/
def rewriteCause : ZoneClass → Option FireCause
  | .callPoint => some .callPoint
  | .suppression => some .suppression
  | .detector => none

/-- What a rewrite of a zone hands to the ladder: the class of a listed zone during ALERT (R48), else the FIRE demand
where the zone is listed (R56). -/
def afterZoneWrite (z : ZoneId) (old : Zone) (s : State) : State :=
  if s.fire.alarmList.contains z then
    match rewriteCause s.fire.zones[z].cls with
    | some cause =>
      if s.fire.condition = .alert ∧ s.fire.zones[z].cls ≠ old.cls then changeCondition .evacuate cause s
      else evaluateDemand s
    | none => evaluateDemand s
  else s

def writeZone (z : ZoneId) (c : ZoneClass) (a : Area) (release eligible : Bool) (s : State) : State × Answer :=
  let old := s.fire.zones[z]
  (afterZoneWrite z old { s with fire := s.fire.setZone z (old.configured c a release eligible) },
    stored false 0 (some z.val) [c.code, a.code, release.toNat, eligible.toNat])

def execConfigureZone (port : Port) (zone cls area curtainRelease delayEligible : Byte) (s : State) : Answered :=
  takeRequest port (.configureZone port zone cls area curtainRelease delayEligible)
    (configure (match identifier 32 zone, zoneClassOf cls, areaOf area with
      | some z, some c, some a => some (writeZone z c a (flagOf curtainRelease) (flagOf delayEligible))
      | _, _, _ => none)) s

/-! ## CURTAIN (R87, Table 5-1) -/

/-- The eleven parameters as given. -/
def curtainGiven (T C S Tf Ts B D Vs W stall creep : Half) : CurtainParams :=
  ⟨T.toNat, C.toNat, S.toNat, Tf.toNat, Ts.toNat, B.toNat, D.toNat, Vs.toNat, W.toNat, stall.toNat, creep.toNat⟩

/-- The clamps of Table 5-1, S against its range and then against T − 1 (R87). -/
def CurtainParams.clamped (g : CurtainParams) : CurtainParams :=
  let T := clampNat 2000 20000 g.travel
  { travel := T
    countsPerMetre := clampNat 100 4000 g.countsPerMetre
    slowHeight := min (min 4000 g.slowHeight) (T - 1)
    fastAllowance := clampNat 10 250 g.fastAllowance
    slowAllowance := min 200 g.slowAllowance
    lagTolerance := min 500 g.lagTolerance
    lagPersistence := clampNat 1 15 g.lagPersistence
    slowSpeed := clampNat 50 1000 g.slowSpeed
    landingWindow := min 100 g.landingWindow
    stallDistance := clampNat 5 200 g.stallDistance
    creepLimit := clampNat 50 500 g.creepLimit }

def CurtainParams.fields (p : CurtainParams) : List Nat :=
  [p.travel, p.countsPerMetre, p.slowHeight, p.fastAllowance, p.slowAllowance, p.lagTolerance, p.lagPersistence,
    p.slowSpeed, p.landingWindow, p.stallDistance, p.creepLimit]

def writeCurtain (given : CurtainParams) (s : State) : State × Answer :=
  let p := given.clamped
  ({ s with params := { s.params with curtain := p } }, stored (decide (p ≠ given)) 1 none p.fields)

def execConfigureCurtain (port : Port) (T C S Tf Ts B D Vs W stall creep : Half) (s : State) : Answered :=
  takeRequest port (.configureCurtain port T C S Tf Ts B D Vs W stall creep)
    (configure (some (writeCurtain (curtainGiven T C S Tf Ts B D Vs W stall creep)))) s

/-! ## CIRCUIT, SLOT and PRESET (R102, R103, R107) -/

def writeCircuit (i : Fin 48) (slot : Fin 4) (lit masked : Bool) (park : Nat) (s : State) : State × Answer :=
  let c : Circuit := { s.lights.circuits[i] with slot := slot, escapeLit := lit, masked := masked, park := park }
  ({ s with lights := { s.lights with circuits := s.lights.circuits.set i c } },
    stored false 2 (some i.val) [slot.val, lit.toNat, masked.toNat, park])

def execConfigureCircuit (port : Port) (circuit slot escapeLit masked park : Byte) (s : State) : Answered :=
  takeRequest port (.configureCircuit port circuit slot escapeLit masked park)
    (configure (match identifier 48 circuit, identifier 4 slot with
      | some i, some n => some (writeCircuit i n (flagOf escapeLit) (flagOf masked) park.toNat)
      | _, _ => none)) s

def writeSlot (i : Fin 4) (code : Fin 16) (s : State) : State × Answer :=
  ({ s with lights := { s.lights with slots := s.lights.slots.set i code } },
    stored false 3 (some i.val) [code.val])

def execConfigureSlot (port : Port) (slot code : Byte) (s : State) : Answered :=
  takeRequest port (.configureSlot port slot code)
    (configure (match identifier 4 slot, identifier 16 code with
      | some i, some c => some (writeSlot i c)
      | _, _ => none)) s

def writePreset (i : Fin 8) (levels : Vector Byte 48) (slot : Fin 4) (used : Bool) (s : State) : State × Answer :=
  let p : Preset := ⟨vmap (·.toNat) levels, slot, used⟩
  ({ s with lights := { s.lights with presets := s.lights.presets.set i p } },
    stored false 4 (some (i.val + 1)) (p.levels.toList ++ [slot.val, used.toNat]))

def execConfigurePreset (port : Port) (preset : Byte) (levels : Vector Byte 48) (slot inUse : Byte) (s : State) :
    Answered :=
  takeRequest port (.configurePreset port preset levels slot inUse)
    (configure (match identifierFrom1 8 preset, identifier 4 slot with
      | some i, some n => some (writePreset i levels n (flagOf inUse))
      | _, _ => none)) s

/-! ## PAGING ZONE and BUILT-IN CALL (R148, R183) -/

def writePagingZone (z : Fin 12) (staff evac : Bool) (s : State) : State × Answer :=
  let r : PagingZone := { s.calls.paging[z] with staff := staff, evac := evac }
  let s' : State := { s with calls := { s.calls with paging := s.calls.paging.set z r } }
  (s'.onCalls afterPagingWrite, stored false 5 (some z.val) [staff.toNat, evac.toNat])

def execConfigurePagingZone (port : Port) (zone staff evac : Byte) (s : State) : Answered :=
  takeRequest port (.configurePagingZone port zone staff evac)
    (configure (match identifier 12 zone with
      | some z => some (writePagingZone z (flagOf staff) (flagOf evac))
      | none => none)) s

/-- The clamps of R183. -/
def builtInClamped (message length gap : Nat) : BuiltInConfig := ⟨message, clampNat 1 600 length, min 3000 gap⟩

def writeBuiltIn (b : BuiltIn) (message length gap : Nat) (s : State) : State × Answer :=
  let c := builtInClamped message length gap
  let params := match b with
    | .evacuation => { s.params with evacuationCall := c }
    | .staffAlert => { s.params with staffAlertCall := c }
  ({ s with params := params },
    stored (decide (c ≠ ⟨message, length, gap⟩)) 6 (some (callNumber (builtInCall b))) [c.message, c.length, c.gap])

/-- The descriptor of a BUILT-IN CALL record (R183). -/
def builtInNamed (b : Byte) : Option BuiltIn :=
  match b.toNat with
  | 1 => some .evacuation
  | 2 => some .staffAlert
  | _ => none

def execConfigureBuiltInCall (port : Port) (descriptor message : Byte) (length gap : Half) (s : State) : Answered :=
  takeRequest port (.configureBuiltInCall port descriptor message length gap)
    (configure (match builtInNamed descriptor with
      | some b => if message = 0 then none else some (writeBuiltIn b message.toNat length.toNat gap.toNat)
      | none => none)) s

/-! ## TIMING, LINE and OPTION (R182) -/

/-- The parameters of a TIMING record. -/
structure TimingRecord where
  investigation : Nat
  showDelay : Nat
  interval : Nat
  escapeMin : Nat
  parkSlot : Nat
  restoreSlot : Nat
  supervisionP : Nat
  supervisionH : Nat
  supervisionF : Nat
  supervisionC : Nat
deriving DecidableEq, Repr

/-- The clamps of Table 11-2. -/
def TimingRecord.clamped (t : TimingRecord) : TimingRecord :=
  { t with
    investigation := clampNat 100 6000 t.investigation
    showDelay := min 600 t.showDelay
    interval := clampNat 1 60 t.interval
    supervisionP := clampNat 5 100 t.supervisionP
    supervisionH := clampNat 5 100 t.supervisionH
    supervisionF := clampNat 5 100 t.supervisionF
    supervisionC := clampNat 5 100 t.supervisionC }

def TimingRecord.fields (t : TimingRecord) : List Nat :=
  [t.investigation, t.showDelay, t.interval, t.escapeMin, t.parkSlot, t.restoreSlot, t.supervisionP, t.supervisionH,
    t.supervisionF, t.supervisionC]

def Params.withTiming (t : TimingRecord) (p : Params) : Params :=
  { p with
    investigation := t.investigation, showDelay := t.showDelay, interval := t.interval, escapeMin := t.escapeMin,
    parkSlot := t.parkSlot, restoreSlot := t.restoreSlot, supervisionP := t.supervisionP,
    supervisionH := t.supervisionH, supervisionF := t.supervisionF, supervisionC := t.supervisionC }

def writeTiming (given : TimingRecord) (s : State) : State × Answer :=
  let t := given.clamped
  ({ s with params := s.params.withTiming t }, stored (decide (t ≠ given)) 7 none t.fields)

def execConfigureTiming (port : Port) (investigation showDelay : Half)
    (interval escapeMin parkSlot restoreSlot supP supH supF supC : Byte) (s : State) : Answered :=
  takeRequest port
    (.configureTiming port investigation showDelay interval escapeMin parkSlot restoreSlot supP supH supF supC)
    (configure (match identifier 4 parkSlot, identifier 4 restoreSlot with
      | some pk, some rs => some (writeTiming
          ⟨investigation.toNat, showDelay.toNat, interval.toNat, escapeMin.toNat, pk, rs, supP.toNat, supH.toNat,
            supF.toNat, supC.toNat⟩)
      | _, _ => none)) s

/-- A polarity rewrite re-forms the raw reading at once (R25, R182). -/
def writeLine (l : Line) (normallyClosed : Bool) (settle : Nat) (s : State) : State × Answer :=
  let t := clampNat 1 50 settle
  let s' : State := { s with lines := s.lines.set l { s.lines[l] with normallyClosed := normallyClosed, settleTime := t } }
  (s'.reread l, stored (decide (t ≠ settle)) 8 (some l.val) [normallyClosed.toNat, t])

def execConfigureLine (port : Port) (line polarity settle : Byte) (s : State) : Answered :=
  takeRequest port (.configureLine port line polarity settle)
    (configure (match identifier 13 line with
      | some l => some (writeLine l (flagOf polarity) settle.toNat)
      | none => none)) s

def writeOption (required : Bool) (s : State) : State × Answer :=
  ({ s with params := { s.params with demoRequired := required } }, stored false 9 none [required.toNat])

def execConfigureOption (port : Port) (demoRequired : Byte) (s : State) : Answered :=
  takeRequest port (.configureOption port demoRequired)
    (configure (some (writeOption (flagOf demoRequired)))) s

end Sys2Proof.Machine
end

