-- ==== Sys2Proof/Machine/Performance.lean ====
section
/-! DEFINITION. The requests of the Performance Unit (01_performance_phases_and_the_house_condition.md). -/
namespace Sys2Proof.Machine

/-- A request that its phase does not accept (R4). -/
def inPhase (accepted : Bool) (block : State → State × Answer) (s : State) : State × Answer :=
  if accepted then block s else (s, refuse .wrongPhase)

/-- A change of the record with its reply. -/
def changed (cause : ClearanceCause) (new : House) (b : Body) (s : State) : State × Answer :=
  (changeHouse cause new s, done b)

/-- A refusal with INTERLOCK and the failing set, or else the block (R7, R174). -/
def interlocked (failed : List Interlock) (block : State → State × Answer) (s : State) : State × Answer :=
  if failed.isEmpty then block s else (s, ⟨.refused, .interlock failed⟩)

/-- The interlock of OPEN HOUSE and of RESUME into HOUSE_OPEN or INTERVAL (R10, R15). -/
def State.quietInterlock (s : State) : List Interlock :=
  failing [(.fireNotQuiet, s.fire.condition != .quiet)]

/-! ## Requests that move the phase -/

def configurationCompleteBlock (s : State) : State × Answer :=
  inPhase (s.house.phase == .unconfigured) (changed .cleared { s.house with phase := .dark } .empty) s

def execConfigurationComplete (port : Port) (s : State) : Answered :=
  takeRequest port (.configurationComplete port) configurationCompleteBlock s

/-- Every suppressed count becomes 0 (R9). -/
def Fire.clearSuppressed (f : Fire) : Fire := { f with zones := vmap (fun z => { z with suppressed := 0 }) f.zones }

def openPerformanceBlock (s : State) : State × Answer :=
  inPhase (s.house.phase == .dark)
    (fun s => changed .cleared s.house.opened .empty { s with fire := s.fire.clearSuppressed }) s

def execOpenPerformance (port : Port) (s : State) : Answered :=
  takeRequest port (.openPerformance port) openPerformanceBlock s

/-- Entering DARK (R17): the cancellation (R145) comes before the anchor events and the phase. -/
def enterDark (s : State) : State :=
  completeChange s.house .cleared showModeOff (({ s with house := s.house.darkened } : State).onCalls darkCancelAct)

def closePerformanceBlock (s : State) : State × Answer :=
  inPhase (s.house.phase == .preset) (fun s => (enterDark s, done .empty)) s

def execClosePerformance (port : Port) (s : State) : Answered :=
  takeRequest port (.closePerformance port) closePerformanceBlock s

def houseClosedBlock (s : State) : State × Answer :=
  inPhase (s.house.phase == .emptying) (fun s => (enterDark s, done .empty)) s

def execHouseClosed (port : Port) (s : State) : Answered :=
  takeRequest port (.houseClosed port) houseClosedBlock s

def openHouseBlock (s : State) : State × Answer :=
  inPhase (s.house.phase == .preset)
    (interlocked s.quietInterlock (changed .cleared (s.house.openedHouse s.clock) .empty)) s

def execOpenHouse (port : Port) (s : State) : Answered := takeRequest port (.openHouse port) openHouseBlock s

def goActBlock (s : State) : State × Answer :=
  inPhase (s.house.phase == .houseOpen || s.house.phase == .interval)
    (interlocked (s.goActInterlock (some (s.house.actNumber + 1)))
      (changed .consumed (s.house.actBegun s.clock) (.number (s.house.actNumber + 1)))) s

def execGoAct (port : Port) (s : State) : Answered := takeRequest port (.goAct port) goActBlock s

/-- The last act (R12). -/
def lastAct : Nat := 9

def endActBlock (final : Bool) (s : State) : State × Answer :=
  inPhase (s.house.phase == .act) (fun s =>
    if final then changed .cleared (s.house.closedByAct s.clock) .empty s
    else if s.house.actNumber = lastAct then (s, refuse .badNumber)
    else changed .cleared (s.house.intervalBegun s.clock s.params.interval) .empty s) s

def execEndAct (port : Port) (final : Byte) (s : State) : Answered :=
  takeRequest port (.endAct port final) (endActBlock (flagOf final)) s

def showStopBlock (s : State) : State × Answer :=
  inPhase s.house.phase.stoppable (changed .cleared (s.house.stopped .desk) .empty) s

def execShowStop (port : Port) (s : State) : Answered := takeRequest port (.showStop port) showStopBlock s

/-- RESUME (R15): STOPPED always holds a stop record (R1); without one there is no origin to return to (log 20). -/
def resumeBlock (s : State) : State × Answer :=
  match s.house.phase, s.house.stop with
  | .stopped, some r =>
    if r.origin = .act then
      interlocked (s.goActInterlock none) (changed .consumed s.house.resumedAct .empty) s
    else
      interlocked s.quietInterlock (changed .cleared (s.house.resumed r.origin) .empty) s
  | _, _ => (s, refuse .wrongPhase)

def execResume (port : Port) (s : State) : Answered := takeRequest port (.resume port) resumeBlock s

def endPerformanceBlock (s : State) : State × Answer :=
  inPhase (s.house.phase == .stopped) (changed .cleared (s.house.ended s.clock) .empty) s

def execEndPerformance (port : Port) (s : State) : Answered :=
  takeRequest port (.endPerformance port) endPerformanceBlock s

/-! ## Clearance (R5) -/

def giveClearanceBlock (s : State) : State × Answer :=
  inPhase (s.house.phase == .houseOpen || s.house.phase == .interval || s.house.phase == .stopped)
    (changed .given { s.house with clearance := .given } .empty) s

def execGiveClearance (port : Port) (s : State) : Answered :=
  takeRequest port (.giveClearance port) giveClearanceBlock s

def withdrawClearanceBlock (s : State) : State × Answer :=
  changed .withdrawn { s.house with clearance := .withheld } .empty s

def execWithdrawClearance (port : Port) (s : State) : Answered :=
  takeRequest port (.withdrawClearance port) withdrawClearanceBlock s

/-! ## The planned curtain up (R18, R19) -/

/-- The largest offset of SET PLANNED UP and of DELAY UP in seconds (R18, R19). -/
def plannedMax : Nat := 14400
def delayMax : Nat := 3600

def setPlannedUpBlock (n : Nat) (s : State) : State × Answer :=
  inPhase s.house.phase.plannable (fun s =>
    let m := min plannedMax n
    let value := satClock (s.clock + m * 10)
    (changeHouse .cleared (s.house.planned value) s, doneOrClamped (decide (m ≠ n)) (.clockValue value))) s

def execSetPlannedUp (port : Port) (seconds : Half) (s : State) : Answered :=
  takeRequest port (.setPlannedUp port seconds) (setPlannedUpBlock seconds.toNat) s

def delayUpBlock (n : Nat) (s : State) : State × Answer :=
  inPhase s.house.phase.plannable (fun s =>
    match s.house.anchors.plannedUp with
    | none => (s, refuse .notActive)
    | some old =>
      let m := clampNat 1 delayMax n
      let value := satClock (old + m * 10)
      (changeHouse .cleared (s.house.planned value) s, doneOrClamped (decide (m ≠ n)) (.clockValue value))) s

def execDelayUp (port : Port) (seconds : Half) (s : State) : Answered :=
  takeRequest port (.delayUp port seconds) (delayUpBlock seconds.toNat) s

/-! ## The interval (R21) and show mode (R22) -/

def extendIntervalBlock (n : Nat) (s : State) : State × Answer :=
  inPhase (s.house.phase == .interval) (fun s =>
    let m := clampNat 1 30 n
    let amount := s.house.extension m
    let new := s.house.extended amount
    (changeHouse .cleared new s,
      doneOrClamped (decide (m ≠ n) || decide (amount < intervalDs m)) (.countdown new.countdown new.anchors.intervalEnd))) s

def execExtendInterval (port : Port) (minutes : Byte) (s : State) : Answered :=
  takeRequest port (.extendInterval port minutes) (extendIntervalBlock minutes.toNat) s

def showModeBlock (on : Bool) (s : State) : State × Answer :=
  inPhase (s.house.phase == .act || s.house.phase == .interval)
    (changed .cleared { s.house with showMode := on } .empty) s

def execShowModeOn (port : Port) (s : State) : Answered := takeRequest port (.showModeOn port) (showModeBlock true) s

def execShowModeOff (port : Port) (s : State) : Answered := takeRequest port (.showModeOff port) (showModeBlock false) s

end Sys2Proof.Machine
end

