-- ==== Sys2Proof/Machine/Descent.lean ====
section
/-! DEFINITION. The Descent Supervisor (05_descent_supervision.md): the envelope and the five steps of a sample. -/
namespace Sys2Proof.Machine

/-- The allowed position at sample `k` (R91). -/
def Descent.allowedAt (d : Descent) (k : Nat) : Nat :=
  if k ≤ d.fastLeg then d.p0 - (d.p0 - d.slowHeight) * k / d.fastLeg
  else if k ≤ d.fastLeg + d.slowLeg then d.s0 - d.s0 * (k - d.fastLeg) / d.slowLeg
  else 0

/-- How many positions a window keeps: those of samples k − 20 to k (Table 5-2). -/
def windowLength : Nat := 21

/-- Step 1 of a sample: the sample number, the window and the allowed position (R92). -/
def Descent.advance (d : Descent) (position : Nat) : Descent :=
  let k := satClock (d.sample + 1)
  { d with
    sample := k
    allowed := some (d.allowedAt k)
    window := (position :: d.window).take windowLength }

/-- The states in which the supervisor samples (R90). -/
def CurtainState.falling : CurtainState → Bool
  | .descending | .secondary | .jammed => true
  | .stowed | .raising | .halted | .landed => false

/-- The low samples in a row that land the curtain by position (R79). -/
def lowLanding : Nat := 10

/-- Step 2: the landing test of R79. -/
def landingTest (e : CurtainEnv) (p : Nat) (w : Act Curtain) : Act Curtain :=
  let low := if p ≤ e.params.landingWindow ∧ e.bottom ≠ some .active then w.val.lowCount.getD 0 + 1 else 0
  let w := w.map fun c => { c with lowCount := some low }
  if lowLanding ≤ low then enterLanded e .position (latchFault e .limitSwitch none w) else w

/-- The move to SECONDARY (R94). -/
def toSecondary (e : CurtainEnv) (w : Act Curtain) : Act Curtain :=
  changeState e .secondary .lag
    ((latchFault e .lag none w).map fun c =>
      { c with descent := c.descent.map fun d =>
          { d with retard := false, overspeedCount := 0, secondaryStart := some d.sample } })

/-- Step 3: the lag test of R93 and the move of R94. -/
def lagTest (e : CurtainEnv) (p : Nat) (w : Act Curtain) : Act Curtain :=
  match w.val.state, w.val.descent with
  | .descending, some d =>
    let count := if d.allowed.getD 0 + e.params.lagTolerance < p then d.lagCount + 1 else 0
    let w := w.map fun c => { c with descent := some { d with lagCount := count } }
    if e.params.lagPersistence ≤ count then toSecondary e w else w
  | _, _ => w

/-- The speed at a sample of 5 or more, from the position of five samples before (R95). -/
def Descent.speedNow (d : Descent) (p : Nat) : Option Int :=
  if 5 ≤ d.sample then (d.window[5]?).map fun (before : Nat) => ((before : Int) - (p : Int)) * 2 else none

/-- A sample is over speed (R95). -/
def overSpeed (e : CurtainEnv) (state : CurtainState) (d : Descent) (p : Nat) : Bool :=
  match d.speedNow p with
  | some v => state == .descending && p ≤ d.slowHeight && (e.params.slowSpeed : Int) < v
  | none => false

/-- The retard state is released at this sample (R96). -/
def retardReleased (e : CurtainEnv) (state : CurtainState) (d : Descent) (p : Nat) : Bool :=
  match d.speedNow p with
  | some v => state == .descending && d.retard && v ≤ ((e.params.slowSpeed * 3 / 4 : Nat) : Int)
  | none => false

/-- Step 4: the speed test of R95 and the release test of R96. -/
def speedTest (e : CurtainEnv) (p : Nat) (w : Act Curtain) : Act Curtain :=
  match w.val.descent with
  | some d =>
    let count := if overSpeed e w.val.state d p then min 255 (d.overspeedCount + 1) else 0
    let turnsOn : Bool := decide (2 ≤ count) && !d.retard
    let retard := if turnsOn then true else d.retard && !retardReleased e w.val.state d p
    let speed := if 5 ≤ d.sample then d.speedNow p else d.speed
    let w := w.map fun c =>
      { c with descent := some { d with speed := speed, overspeedCount := count, retard := retard } }
    if turnsOn then latchFault e .overspeed none w else w
  | none => w

/-- The samples over which the jam test looks back (R97). -/
def jamSamples : Nat := 20

/-- Step 5: the jam test of R97. -/
def jamTest (e : CurtainEnv) (p : Nat) (w : Act Curtain) : Act Curtain :=
  match w.val.state, w.val.descent with
  | .secondary, some d =>
    match d.secondaryStart, d.window[20]? with
    | some start, some before =>
      if start + jamSamples ≤ d.sample ∧ before < p + e.params.stallDistance then
        changeState e .jammed .jam (latchFault e .jammed none w)
      else w
    | _, _ => w
  | _, _ => w

/-- One sample of a descent, taken whole, in the order of R92. -/
def descentSampleAct (e : CurtainEnv) (w : Act Curtain) : Act Curtain :=
  match w.val.descent with
  | none => w
  | some d =>
    if w.val.state.falling then
      let p := w.val.position e
      let w := w.map fun c => { c with descent := some (d.advance p), samplesDue := c.samplesDue - 1 }
      let w := landingTest e p w
      if w.val.state = .landed then w else jamTest e p (speedTest e p (lagTest e p w))
    else w

end Sys2Proof.Machine
end

