-- ==== Sys2Proof/Machine/System.lean ====
section
/-! DEFINITION. The supply and the reset pin (R184), the decisecond (R2 and every timer), and the countdown expiry of
the Performance Unit (R20). -/
namespace Sys2Proof.Machine

/-- A channel whose PLAYING line reads high at power-on becomes FAULTED (R150). -/
def checkPlayer (s : State) (ch : Channel) : State :=
  if s.pins.playing ch then s.onCalls (playingRisesAct ch) else s

/-- The state at power-on (R184, Table 11-4) with the levels on the pins; the commands still waiting stay. -/
def poweredOn (s : State) : State :=
  [Channel.a, Channel.b].foldl checkPlayer { State.atPowerOn s.pins with pending := s.pending }

/-- POWER_ON (R184). -/
def execPowerOn (s : State) : Answered := .next (poweredOn s)

/-- RESET_ASSERTED (R184): the part is held inert, and every field takes its power-on value (R1, R61, R101, R129; log
19). -/
def execResetAsserted (s : State) : Answered :=
  .next { State.atPowerOn s.pins with inert := true, pending := s.pending }

/-! ## One decisecond -/

/-- One decisecond of a channel's timers; a strobe of the decisecond before is over (log 8). -/
def ChannelRecord.tick (r : ChannelRecord) : ChannelRecord :=
  { r with
    startTimer := runDown r.startTimer, guardTimer := runDown r.guardTimer, stopTimer := runDown r.stopTimer
    startStrobe := false, stopStrobe := false }

def RunPosition.tick : RunPosition → RunPosition
  | .inGap ch remaining => .inGap ch (remaining - 1)
  | .notRunning => .notRunning
  | .waiting => .waiting
  | .onChannel ch => .onChannel ch

def Calls.tick (c : Calls) : Calls :=
  { c with
    chanA := c.chanA.tick, chanB := c.chanB.tick, evacuation := c.evacuation.tick, staffAlert := c.staffAlert.tick }

/-- The show delays and the investigation period run down (R31, R49). -/
def Fire.tick (f : Fire) : Fire :=
  { f with
    zones := vmap (fun z => { z with delayRemaining := runDown z.delayRemaining }) f.zones
    investigation := runDown f.investigation }

/-- The curtain is sampled once per decisecond in RAISING and STOWED, and during a supervised descent (R75, R77,
R90). -/
def Curtain.samples (c : Curtain) : Bool :=
  c.state == .raising || c.state == .stowed || (c.state.falling && c.descent.isSome)

/-- The time base owes one more sample (log 5). -/
def Curtain.tick (c : Curtain) : Curtain :=
  if c.samples then { c with samplesDue := c.samplesDue + 1 } else c

def LineRecord.tick (r : LineRecord) : LineRecord :=
  { r with candidate := r.candidate.map fun x => (x.1, x.2 - 1) }

def PortRecord.tick (r : PortRecord) : PortRecord := { r with timer := runDown r.timer }

def Links.tick (l : Links) : Links := ⟨l.prompt.tick, l.house.tick, l.panel.tick, l.console.tick⟩

/-- The encoder as last read (log 4). -/
def State.readEncoder (raw : BitVec 17) (s : State) : State := { s with pins := { s.pins with encoder := raw } }

/-- One decisecond of every clock and timer (R2). -/
def State.tick (s : State) : State :=
  { s with
    clock := satClock (s.clock + 1)
    startUp := runDown s.startUp
    lines := vmap LineRecord.tick s.lines
    house := s.house.tick
    intervalUpDue := s.intervalUpDue || s.house.countdownEnds
    fire := s.fire.tick
    curtain := s.curtain.tick
    lights := s.lights.tick
    calls := s.calls.tick
    links := s.links.tick }

/-- PERFORMANCE_CLOCK_TICK (R2). -/
def execPerformanceClockTick (raw : BitVec 17) (s : State) : Answered :=
  if s.inert then .next (s.readEncoder raw) else .next (s.readEncoder raw).tick

/-- INTERVAL UP (R20). -/
def intervalUpMail (h : House) : Mail := ⟨[.prompt, .house], .intervalUp h.actNumber h.anchors.intervalEnd⟩

/-- The countdown has reached 0 in INTERVAL and INTERVAL UP is still to be raised (R20, log 15). -/
def State.intervalIsUp (s : State) : Bool :=
  s.intervalUpDue && s.house.phase == .interval && s.house.countdown == 0

/-- INTERVAL_COUNTDOWN_EXPIRY (R20). -/
def execIntervalCountdownExpiry (s : State) : Answered :=
  if !s.inert && s.intervalIsUp then
    .next (({ s with intervalUpDue := false } : State).post [intervalUpMail s.house])
  else .next s

end Sys2Proof.Machine
end

