-- ==== Sys2Proof/Machine/CurtainRequests.lean ====
section
/-! DEFINITION. The requests, expiries and samples of the Curtain Controller and the Descent Supervisor
(04_safety_curtain_control.md, 05_descent_supervision.md). -/
namespace Sys2Proof.Machine

/-- DROP CURTAIN (R68): the reply carries the curtain state after the request. -/
def dropCurtainBlock (s : State) : State × Answer :=
  let s' := s.onCurtain dropAct
  (s', done (.curtainState s'.curtain.state))

def execDropCurtain (port : Port) (s : State) : Answered := takeRequest port (.dropCurtain port) dropCurtainBlock s

/-- DEMONSTRATE CURTAIN (R69). -/
def demonstrateBlock (s : State) : State × Answer :=
  inPhase (s.house.phase == .houseOpen || s.house.phase == .interval)
    (interlocked s.demonstrateInterlock (fun s => (s.onCurtain demonstrateAct, done .empty))) s

def execDemonstrateCurtain (port : Port) (s : State) : Answered :=
  takeRequest port (.demonstrateCurtain port) demonstrateBlock s

/-- RAISE HOLD (R72, R73). -/
def raiseHoldBlock (s : State) : State × Answer :=
  match s.curtain.state with
  | .landed | .halted | .jammed =>
    interlocked s.raiseInterlock (fun s => (s.onCurtain startRaise, done .empty)) s
  | .raising => (s.onCurtain renewLease, done .empty)
  | .stowed => (s, done .empty)
  | .descending | .secondary => (s, refuse .inMotion)

def execRaiseHold (port : Port) (s : State) : Answered := takeRequest port (.raiseHold port) raiseHoldBlock s

/-- STOP RAISE (R74). -/
def stopRaiseBlock (s : State) : State × Answer := (s.onCurtain fun e => haltRaise e .stopRaise, done .empty)

def execStopRaise (port : Port) (s : State) : Answered := takeRequest port (.stopRaise port) stopRaiseBlock s

/-- RESET MANUAL RELEASE (R66). -/
def resetManualBlock (s : State) : State × Answer :=
  if s.curtain.manual then
    if s.settled manualLine = some .active then (s, refuse .stillActive)
    else (s.onCurtain fun _ => clearManual, done .empty)
  else (s, done .empty)

def execResetManualRelease (port : Port) (s : State) : Answered :=
  takeRequest port (.resetManualRelease port) resetManualBlock s

/-- CLEAR CURTAIN FAULTS (R83). -/
def clearFaultsBlock (s : State) : State × Answer :=
  (s.onCurtain clearFaults, done (.number s.curtain.clearable))

def execClearCurtainFaults (port : Port) (s : State) : Answered :=
  takeRequest port (.clearCurtainFaults port) clearFaultsBlock s

/-- The lease of the raise record has run out (R73). -/
def Curtain.leaseOver (now : Nat) (c : Curtain) : Bool := timeReached now (c.raise.map (·.leaseExpiry))

/-- LEASE_EXPIRY (R73). -/
def execLeaseExpiry (s : State) : Answered :=
  if !s.inert && s.curtain.leaseOver s.clock then .next (s.onCurtain fun e => haltRaise e .leaseExpired) else .next s

/-- A sample of the curtain, with the raw count of its moment: it is taken when the time base owes one (log 5) and the
state is one that it samples. -/
def sampleCurtain (raw : BitVec 17) (due : Curtain → Bool) (f : CurtainEnv → Act Curtain → Act Curtain) (s : State) :
    State :=
  let s := s.readEncoder raw
  if !s.inert && decide (0 < s.curtain.samplesDue) && due s.curtain then s.onCurtain f else s

/-- RAISE_SAMPLE (R75, R76). -/
def execRaiseSample (raw : BitVec 17) (s : State) : Answered :=
  .next (sampleCurtain raw (fun c => c.state == .raising) raiseSampleAct s)

/-- CREEP_SAMPLE (R77). -/
def execCreepSample (raw : BitVec 17) (s : State) : Answered :=
  .next (sampleCurtain raw (fun c => c.state == .stowed) creepSampleAct s)

/-- DESCENT_SAMPLE (R79, R92). -/
def execDescentSample (raw : BitVec 17) (s : State) : Answered :=
  .next (sampleCurtain raw (fun c => c.state.falling) descentSampleAct s)

end Sys2Proof.Machine
end

