-- ==== Sys2Proof/Machine/FireRequests.lean ====
section
/-! DEFINITION. The requests and expiries of the Fire Monitor (02_fire_zones_and_the_alarm_list.md and
03_fire_condition_and_evacuation_response.md). -/
namespace Sys2Proof.Machine

/-- The block of a request that names one zone: a number of 32 or more is refused with BAD_NUMBER. -/
def onZone (zone : Byte) (allowed : ZoneId → Bool) (block : ZoneId → State → State × Answer) (s : State) :
    State × Answer :=
  match identifier 32 zone with
  | some z => if allowed z then block z s else (s, refuse .badNumber)
  | none => (s, refuse .badNumber)

/-- ZONE REPORT (R28). -/
def execZoneReport (port : Port) (pairs : List (Byte × Byte)) (s : State) : Answered :=
  takeRequest port (.zoneReport port pairs) (zoneReportBlock pairs) s

/-- PANEL RESET ZONE names a panel zone (R34). -/
def execPanelResetZone (port : Port) (zone : Byte) (s : State) : Answered :=
  takeRequest port (.panelResetZone port zone) (onZone zone (fun z => !isLocal z) resetZoneBlock) s

/-- RESET ZONE names a local zone (R34). -/
def execResetZone (port : Port) (zone : Byte) (s : State) : Answered :=
  takeRequest port (.resetZone port zone) (onZone zone isLocal resetZoneBlock) s

/-- ISOLATE ZONE (R37). -/
def execIsolateZone (port : Port) (zone : Byte) (s : State) : Answered :=
  takeRequest port (.isolateZone port zone) (onZone zone (fun _ => true) isolateBlock) s

/-- RESTORE ZONE (R39). -/
def execRestoreZone (port : Port) (zone : Byte) (s : State) : Answered :=
  takeRequest port (.restoreZone port zone) (onZone zone (fun _ => true) restoreZoneBlock) s

/-- The zone that ACKNOWLEDGE ZONES names, 0xFF for all (R41, Table 10-12). -/
def acknowledgeNamed (k : Desk) (zone : Byte) (s : State) : State × Answer :=
  if zone = noneByte then acknowledgeBlock k none s
  else onZone zone (fun _ => true) (fun z => acknowledgeBlock k (some z)) s

/-- ACKNOWLEDGE ZONES (R41). -/
def execAcknowledgeZones (port : Port) (zone : Byte) (s : State) : Answered :=
  takeRequest port (.acknowledgeZones port zone) (acknowledgeNamed (deskOf port) zone) s

/-- SHOW_DELAY_EXPIRY (R32). -/
def execShowDelayExpiry (zone : Fin 32) (s : State) : Answered :=
  if s.inert then .next s else .next (zoneEvent (delayExpiry zone) s)

/-- INVESTIGATION_EXPIRY (R50). -/
def execInvestigationExpiry (s : State) : Answered :=
  if !s.inert && s.fire.condition == .alert && timerDone s.fire.investigation then
    .next (changeCondition .evacuate .investigationExpired s)
  else .next s

/-- EVACUATE NOW (R51). -/
def execEvacuateNow (port : Port) (s : State) : Answered :=
  takeRequest port (.evacuateNow port) (evacuateBlock .houseDesk) s

/-- PANEL EVACUATE (R52). -/
def execPanelEvacuate (port : Port) (s : State) : Answered :=
  takeRequest port (.panelEvacuate port) (evacuateBlock .firePanel) s

/-- STAND DOWN (R53). -/
def execStandDown (port : Port) (s : State) : Answered :=
  takeRequest port (.standDown port) (returnToQuiet .alert .evacuate .standDown) s

/-- RESTORE (R54). -/
def execRestore (port : Port) (s : State) : Answered :=
  takeRequest port (.restore port) (returnToQuiet .evacuate .alert .restore) s

end Sys2Proof.Machine
end

