-- ==== Sys2Proof/Machine/LightRequests.lean ====
section
/-! DEFINITION. The requests, fade steps and dimmer frames of the Lighting Controller
(06_house_light_circuits_and_fades.md, 07_lighting_authority_and_overrides.md). -/
namespace Sys2Proof.Machine

/-- A change of the Lighting Controller that raises no notice. -/
def State.withLights (l : Lights) (s : State) : State := { s with lights := l }

/-- The authority check that comes first (R108). -/
def withAuthority (p : Port) (block : State → State × Answer) (s : State) : State × Answer :=
  if s.lights.authority.accepts p then block s else (s, refuse .notAuthority)

/-- LIGHTS (R109): the slot and every circuit are identifiers (R108). -/
def lightsBlock (slot : Byte) (pairs : List (Byte × Byte)) (s : State) : State × Answer :=
  match optionalSlot slot, lightPairs pairs with
  | some n, some ps => (s.withLights (s.lights.startPairs s.clock n ps), done (.number ps.length))
  | _, _ => (s, refuse .badNumber)

def execLights (port : Port) (slot : Byte) (pairs : List (Byte × Byte)) (s : State) : Answered :=
  takeRequest port (.lights port slot pairs) (withAuthority port (lightsBlock slot pairs)) s

/-- GO PRESET (R110). -/
def goPresetBlock (preset slot : Byte) (s : State) : State × Answer :=
  match identifierFrom1 8 preset, optionalSlot slot with
  | some n, some given =>
    if s.lights.presets[n].inUse then
      let used := match given with
        | some k => k.val
        | none => s.lights.presets[n].slot
      (s.withLights (s.lights.startPreset s.clock used n),
        done (.presetStarted (n.val + 1) (s.lights.slotDuration used)))
    else (s, refuse .notActive)
  | _, _ => (s, refuse .badNumber)

def execGoPreset (port : Port) (preset slot : Byte) (s : State) : Answered :=
  takeRequest port (.goPreset port preset slot) (withAuthority port (goPresetBlock preset slot)) s

/-- HOLD FADES (R111). -/
def holdFadesBlock (s : State) : State × Answer :=
  (s.withLights s.lights.holdFades, done (.number s.lights.running))

def execHoldFades (port : Port) (s : State) : Answered :=
  takeRequest port (.holdFades port) (withAuthority port holdFadesBlock) s

/-- FADE_STEP (R105). -/
def execFadeStep (circuit : Fin 48) (s : State) : Answered :=
  if s.inert then .next s else .next (s.withLights (s.lights.stepFade circuit))

/-- TAKE LIGHTS (R116): phase, interlock, already held. -/
def takeLightsBlock (s : State) : State × Answer :=
  inPhase s.lights.phaseSeen.consolePhase
    (interlocked s.lights.takeInterlock
      (fun s => (s.onLights fun e => changeAuthority e .console .take, done .empty))) s

def execTakeLights (port : Port) (s : State) : Answered := takeRequest port (.takeLights port) takeLightsBlock s

/-- GIVE BACK LIGHTS and RECLAIM LIGHTS (R117). -/
def returnLightsBlock (cause : AuthorityCause) (s : State) : State × Answer :=
  (s.onLights fun e => changeAuthority e .house cause, done .empty)

def execGiveBackLights (port : Port) (s : State) : Answered :=
  takeRequest port (.giveBackLights port) (returnLightsBlock .giveBack) s

def execReclaimLights (port : Port) (s : State) : Answered :=
  takeRequest port (.reclaimLights port) (returnLightsBlock .reclaim) s

/-- The reply of the PANIC LIGHTS requests (R121). -/
def panicReply (l : Lights) : Answer := done (.panic l.panic l.override)

/-- PANIC LIGHTS ON (R121). -/
def panicOnBlock (s : State) : State × Answer :=
  let l := { s.lights with panic := true }
  (s.withLights l, panicReply l)

def execPanicLightsOn (port : Port) (s : State) : Answered := takeRequest port (.panicLightsOn port) panicOnBlock s

/-- PANIC LIGHTS OFF (R121). -/
def panicOffBlock (s : State) : State × Answer :=
  let l := if s.lights.panic then panicOff s.lightEnv s.lights else s.lights
  (s.withLights l, panicReply l)

def execPanicLightsOff (port : Port) (s : State) : Answered := takeRequest port (.panicLightsOff port) panicOffBlock s

/-- The levels of a dimmer frame (R128): the first frame after power-on carries 255 on every circuit, whatever the
output composition reads (06_house_light_circuits_and_fades.md, Power-On Levels); each later one the output levels of
its moment. -/
def State.frameLevels (s : State) : Vector Nat 48 :=
  match s.lights.dimmer with
  | none => Vector.replicate 48 255
  | some _ => s.outputLevels

/-- DIMMER_FRAME (R128): a frame begins; none begins while the part is inert (R184). -/
def execDimmerFrame (s : State) : Answered :=
  if s.inert then .next s else .next (s.withLights { s.lights with dimmer := some s.frameLevels })

end Sys2Proof.Machine
end

