-- ==== Sys2Proof/Machine/Reads.lean ====
section
/-! DEFINITION. The nine READ requests (R178, R179, Table 10-7). A READ changes no state. -/
namespace Sys2Proof.Machine

/-- A READ with good operands answers DONE with its report; an operand out of range is refused (R178). -/
def report (b : Option Body) (s : State) : State × Answer :=
  match b with
  | some x => (s, done x)
  | none => (s, refuse .badNumber)

/-- READ HOUSE (R1). -/
def houseReport (s : State) : Body := .house s.house s.clock (s.house.actClock s.clock) s.params.demoRequired

def execReadHouse (port : Port) (s : State) : Answered :=
  takeRequest port (.readHouse port) (report (some (houseReport s))) s

/-- READ ZONES (R23, R42): up to 8 records from the first zone upward. -/
def zonesReport (first : Byte) (s : State) : Option Body :=
  (identifier 32 first).map fun z =>
    .zones z.val ((s.fire.zones.toList.drop z.val).take 8) s.promptAttention s.houseAttention

def execReadZones (port : Port) (first : Byte) (s : State) : Answered :=
  takeRequest port (.readZones port first) (report (zonesReport first s)) s

/-- An entry of the alarm list (R36). -/
def Fire.entry (f : Fire) (z : ZoneId) : AlarmEntry :=
  ⟨z, f.zones[z].cls, f.zones[z].area, f.zones[z].alarmTime, f.zones[z].input, f.alarmList.head? == some z⟩

/-- READ ALARM LIST (R36, R60): up to 10 entries from the first entry. -/
def alarmReport (first : Byte) (s : State) : Option Body :=
  let f := s.fire
  (identifier 32 first).map fun n => .alarmList
    { condition := f.condition, previous := f.previous, cause := f.cause, enteredAt := f.enteredAt
      investigation := f.investigation, demand := f.demand, length := f.alarmList.length, delayed := f.delayedCount
      entries := ((f.alarmList.drop n.val).take 10).map f.entry }

def execReadAlarmList (port : Port) (first : Byte) (s : State) : Answered :=
  takeRequest port (.readAlarmList port first) (report (alarmReport first s)) s

/-- READ CURTAIN, section 0 (R85). -/
def curtainReport (s : State) : CurtainReport :=
  let c := s.curtain
  { state := c.state, enteredAt := c.enteredAt, reason := c.reason, position := s.position
    raw := s.pins.encoder.toNat, count := countOf s.pins.encoder.toNat c.homeOffset, homeOffset := c.homeOffset
    topLimit := s.settled topLine, bottomLimit := s.settled bottomLine, fireLine := s.settled fireLine
    manualButton := s.settled manualLine, fireDemand := c.fireDemand, hardLine := c.hardLine, manual := c.manual
    causes := c.causes, leaseExpiry := c.raise.map (·.leaseExpiry), lowCount := c.lowCount, faults := c.faults
    outputs := s.curtainOutputs }

/-- READ CURTAIN (R85, R99), cut into the sections of Table 10-7: 0 is the curtain record with the outputs, 1 the
descent record without its window or the mark absent, 2 the window, oldest first. -/
def curtainSection (n : Byte) (s : State) : Option Body :=
  match n.toNat with
  | 0 => some (.curtain (curtainReport s))
  | 1 => some (.descent (s.curtain.descent.map fun d => { d with window := [] }))
  | 2 => some (.window (s.curtain.descent.map fun d => d.window.reverse))
  | _ => none

def execReadCurtain (port : Port) (part : Byte) (s : State) : Answered :=
  takeRequest port (.readCurtain port part) (report (curtainSection part s)) s

/-- What READ CIRCUITS reports beside the circuits of a range (R113, R115). -/
def lightsReport (s : State) : LightsReport :=
  let l := s.lights
  { slots := l.slots, presets := l.presets.toList.map fun p => (p.inUse, p.slot), authority := l.authority
    authorityAt := l.authorityAt, authorityCause := l.authorityCause, panic := l.panic, fireSeen := l.fireSeen
    phaseSeen := l.phaseSeen, stopSeen := l.stopSeen, consoleSeen := l.consoleSeen, blackoutLine := l.blackout
    override := l.override, blackout := l.blackoutEffective }

/-- A range of READ CIRCUITS: 1 to 8 circuits, none past circuit 47 (R113, Table 10-7). -/
def rangeReport (first count : Nat) (s : State) : Option Body :=
  if 1 ≤ count ∧ count ≤ 8 ∧ first + count ≤ 48 then
    some (.circuits first
      (((s.lights.circuits.toList.drop first).take count).map fun c => (c, s.lights.outputOf s.params.escapeMin c))
      (lightsReport s))
  else none

/-- A preset of READ CIRCUITS (R113). -/
def presetReport (preset : Byte) (s : State) : Option Body :=
  (identifierFrom1 8 preset).map fun n =>
    .preset s.lights.presets[n].levels s.lights.presets[n].slot s.lights.presets[n].inUse

/-- READ CIRCUITS (R113, Table 10-12). -/
def circuitsReport (selector first count : Byte) (s : State) : Option Body :=
  if selector = 0 then rangeReport first.toNat count.toNat s else presetReport first s

def execReadCircuits (port : Port) (selector first count : Byte) (s : State) : Answered :=
  takeRequest port (.readCircuits port selector first count) (report (circuitsReport selector first count s)) s

/-- The place of a call in the ready queue, counted from 1 (R147). -/
def Calls.placeOf (c : Calls) (i : CallId) : Option Nat :=
  if c.table[i].life = .ready ∧ c.ready.contains i = true then some (c.ready.idxOf i + 1) else none

/-- The value of the anchor that a TIMED call's due time was computed from (R147). -/
def anchorValueOf (a : Anchors) (d : Descriptor) : Option Nat :=
  if d.life = .timed ∧ d.basis = some .anchor then d.anchor.bind a.get else none

/-- A descriptor as READ CALL reports it: of a built-in call that waits for a channel, the zone set that a start of
this moment would read from the paging zone table (R130, R159, log 33). -/
def Calls.reported (c : Calls) (i : CallId) : Descriptor :=
  match builtInOf i with
  | none => c.table[i]
  | some b => if c.run b = .waiting then { c.table[i] with zones := c.builtInZones b } else c.table[i]

/-- READ CALL (R147). -/
def callReport (descriptor : Byte) (s : State) : Option Body :=
  (identifierFrom1 48 descriptor).map fun i =>
    .call (callNumber i) (s.calls.reported i) (anchorValueOf s.house.anchors s.calls.table[i]) (s.calls.placeOf i)

def execReadCall (port : Port) (descriptor : Byte) (s : State) : Answered :=
  takeRequest port (.readCall port descriptor) (report (callReport descriptor s)) s

/-- How many general descriptors of a desk wait in the finished list (R179). -/
def Calls.finishedOf (c : Calls) (k : Desk) : Nat :=
  (c.finished.filter fun x => match x with
    | .general i => c.table[i].creator == k
    | .builtIn _ _ => false).length

/-- How many built-in entries wait in the finished list (R179). -/
def Calls.finishedBuiltIns (c : Calls) : Nat :=
  (c.finished.filter fun x => match x with
    | .general _ => false
    | .builtIn _ _ => true).length

/-- READ QUEUES (R179). -/
def queuesReport (s : State) : Body :=
  let c := s.calls
  .queues
    { pool := c.pool.length, waiting := c.waiting.length, timetable := c.timetable.length, ready := c.ready.length
      finishedPrompt := c.finishedOf .prompt, finishedHouse := c.finishedOf .house
      finishedBuiltIn := c.finishedBuiltIns, promptQueue := c.promptQueue.length, houseQueue := c.houseQueue.length
      callA := c.chanA.call.map callNumber, callB := c.chanB.call.map callNumber
      evacuationLife := c.table[builtInCall .evacuation].life, staffAlertLife := c.table[builtInCall .staffAlert].life }

def execReadQueues (port : Port) (s : State) : Answered :=
  takeRequest port (.readQueues port) (report (some (queuesReport s))) s

/-- READ CHANNELS (R155). -/
def channelsReport (s : State) : Body :=
  .channels s.calls.chanA s.calls.chanB s.pins.playingA s.pins.playingB s.calls.paging

def execReadChannels (port : Port) (s : State) : Answered :=
  takeRequest port (.readChannels port) (report (some (channelsReport s))) s

/-- READ LINKS for one port (R179). The request under way counts in its own port's receive queue where it stands there
(log 3). -/
def linkReport (s : State) (p : Port) : Port × LinkReport :=
  let r := s.links.get p
  (p, ⟨r.present, r.changedAt, r.lastValid, s.params.supervision p, r.rx.length, r.tx.length, r.overrun.isSome⟩)

def linksReport (s : State) : Body := .links ([Port.prompt, .house, .panel, .console].map (linkReport s))

def execReadLinks (port : Port) (s : State) : Answered :=
  takeRequest port (.readLinks port) (report (some (linksReport s))) s

end Sys2Proof.Machine
end

