-- ==== Sys2Proof/Machine/Dispatch.lean ====
section
/-! DEFINITION. The dispatch: one arm per command, one direct call of its meaning. -/
namespace Sys2Proof.Machine

def exec (i : Instr) (s : State) : Host.Outcome State Fault Refusal :=
  match i with
  | .powerOn => Sys2Proof.Machine.execPowerOn s
  | .resetAsserted => Sys2Proof.Machine.execResetAsserted s
  | .startUpSettleEnd => Sys2Proof.Machine.execStartUpSettleEnd s
  | .lineRawChange line sound closed => Sys2Proof.Machine.execLineRawChange line sound closed s
  | .settleExpiry line => Sys2Proof.Machine.execSettleExpiry line s
  | .receiveFrame port bytes => Sys2Proof.Machine.execReceiveFrame port bytes s
  | .frameAbandoned port => Sys2Proof.Machine.execFrameAbandoned port s
  | .supervisionExpiry port => Sys2Proof.Machine.execSupervisionExpiry port s
  | .frameSent port => Sys2Proof.Machine.execFrameSent port s
  | .unknownRequest port kind payload => Sys2Proof.Machine.execUnknownRequest port kind payload s
  | .configureZone port zone cls area curtainRelease delayEligible => Sys2Proof.Machine.execConfigureZone port zone cls area curtainRelease delayEligible s
  | .configureCurtain port T C S Tf Ts B D Vs W stall creep => Sys2Proof.Machine.execConfigureCurtain port T C S Tf Ts B D Vs W stall creep s
  | .configureCircuit port circuit slot escapeLit masked park => Sys2Proof.Machine.execConfigureCircuit port circuit slot escapeLit masked park s
  | .configureSlot port slot code => Sys2Proof.Machine.execConfigureSlot port slot code s
  | .configurePreset port preset levels slot inUse => Sys2Proof.Machine.execConfigurePreset port preset levels slot inUse s
  | .configurePagingZone port zone staff evac => Sys2Proof.Machine.execConfigurePagingZone port zone staff evac s
  | .configureBuiltInCall port descriptor message length gap => Sys2Proof.Machine.execConfigureBuiltInCall port descriptor message length gap s
  | .configureTiming port investigation showDelay interval escapeMin parkSlot restoreSlot supP supH supF supC => Sys2Proof.Machine.execConfigureTiming port investigation showDelay interval escapeMin parkSlot restoreSlot supP supH supF supC s
  | .configureLine port line polarity settle => Sys2Proof.Machine.execConfigureLine port line polarity settle s
  | .configureOption port demoRequired => Sys2Proof.Machine.execConfigureOption port demoRequired s
  | .configurationComplete port => Sys2Proof.Machine.execConfigurationComplete port s
  | .openPerformance port => Sys2Proof.Machine.execOpenPerformance port s
  | .closePerformance port => Sys2Proof.Machine.execClosePerformance port s
  | .openHouse port => Sys2Proof.Machine.execOpenHouse port s
  | .houseClosed port => Sys2Proof.Machine.execHouseClosed port s
  | .goAct port => Sys2Proof.Machine.execGoAct port s
  | .endAct port final => Sys2Proof.Machine.execEndAct port final s
  | .showStop port => Sys2Proof.Machine.execShowStop port s
  | .resume port => Sys2Proof.Machine.execResume port s
  | .endPerformance port => Sys2Proof.Machine.execEndPerformance port s
  | .giveClearance port => Sys2Proof.Machine.execGiveClearance port s
  | .withdrawClearance port => Sys2Proof.Machine.execWithdrawClearance port s
  | .setPlannedUp port seconds => Sys2Proof.Machine.execSetPlannedUp port seconds s
  | .delayUp port seconds => Sys2Proof.Machine.execDelayUp port seconds s
  | .extendInterval port minutes => Sys2Proof.Machine.execExtendInterval port minutes s
  | .showModeOn port => Sys2Proof.Machine.execShowModeOn port s
  | .showModeOff port => Sys2Proof.Machine.execShowModeOff port s
  | .intervalCountdownExpiry => Sys2Proof.Machine.execIntervalCountdownExpiry s
  | .zoneReport port pairs => Sys2Proof.Machine.execZoneReport port pairs s
  | .panelResetZone port zone => Sys2Proof.Machine.execPanelResetZone port zone s
  | .resetZone port zone => Sys2Proof.Machine.execResetZone port zone s
  | .isolateZone port zone => Sys2Proof.Machine.execIsolateZone port zone s
  | .restoreZone port zone => Sys2Proof.Machine.execRestoreZone port zone s
  | .acknowledgeZones port zone => Sys2Proof.Machine.execAcknowledgeZones port zone s
  | .showDelayExpiry zone => Sys2Proof.Machine.execShowDelayExpiry zone s
  | .investigationExpiry => Sys2Proof.Machine.execInvestigationExpiry s
  | .evacuateNow port => Sys2Proof.Machine.execEvacuateNow port s
  | .panelEvacuate port => Sys2Proof.Machine.execPanelEvacuate port s
  | .standDown port => Sys2Proof.Machine.execStandDown port s
  | .restore port => Sys2Proof.Machine.execRestore port s
  | .dropCurtain port => Sys2Proof.Machine.execDropCurtain port s
  | .demonstrateCurtain port => Sys2Proof.Machine.execDemonstrateCurtain port s
  | .raiseHold port => Sys2Proof.Machine.execRaiseHold port s
  | .stopRaise port => Sys2Proof.Machine.execStopRaise port s
  | .resetManualRelease port => Sys2Proof.Machine.execResetManualRelease port s
  | .clearCurtainFaults port => Sys2Proof.Machine.execClearCurtainFaults port s
  | .leaseExpiry => Sys2Proof.Machine.execLeaseExpiry s
  | .raiseSample raw => Sys2Proof.Machine.execRaiseSample raw s
  | .creepSample raw => Sys2Proof.Machine.execCreepSample raw s
  | .descentSample raw => Sys2Proof.Machine.execDescentSample raw s
  | .lights port slot pairs => Sys2Proof.Machine.execLights port slot pairs s
  | .goPreset port preset slot => Sys2Proof.Machine.execGoPreset port preset slot s
  | .holdFades port => Sys2Proof.Machine.execHoldFades port s
  | .fadeStep circuit => Sys2Proof.Machine.execFadeStep circuit s
  | .takeLights port => Sys2Proof.Machine.execTakeLights port s
  | .giveBackLights port => Sys2Proof.Machine.execGiveBackLights port s
  | .reclaimLights port => Sys2Proof.Machine.execReclaimLights port s
  | .panicLightsOn port => Sys2Proof.Machine.execPanicLightsOn port s
  | .panicLightsOff port => Sys2Proof.Machine.execPanicLightsOff port s
  | .dimmerFrame => Sys2Proof.Machine.execDimmerFrame s
  | .createCall port kind message length zones repeatCount gap lifetime notify timing => Sys2Proof.Machine.execCreateCall port kind message length zones repeatCount gap lifetime notify timing s
  | .cancelCall port descriptor => Sys2Proof.Machine.execCancelCall port descriptor s
  | .dueTimerExpiry => Sys2Proof.Machine.execDueTimerExpiry s
  | .callDeadline call => Sys2Proof.Machine.execCallDeadline call s
  | .collectCompletions port => Sys2Proof.Machine.execCollectCompletions port s
  | .zoneGate port zone muted held => Sys2Proof.Machine.execZoneGate port zone muted held s
  | .resetChannel port channel => Sys2Proof.Machine.execResetChannel port channel s
  | .playingRises channel => Sys2Proof.Machine.execPlayingRises channel s
  | .playingFalls channel => Sys2Proof.Machine.execPlayingFalls channel s
  | .startTimerExpiry channel => Sys2Proof.Machine.execStartTimerExpiry channel s
  | .guardTimerExpiry channel => Sys2Proof.Machine.execGuardTimerExpiry channel s
  | .stopTimerExpiry channel => Sys2Proof.Machine.execStopTimerExpiry channel s
  | .builtInGapExpiry call => Sys2Proof.Machine.execBuiltInGapExpiry call s
  | .readHouse port => Sys2Proof.Machine.execReadHouse port s
  | .readZones port first => Sys2Proof.Machine.execReadZones port first s
  | .readAlarmList port first => Sys2Proof.Machine.execReadAlarmList port first s
  | .readCurtain port part => Sys2Proof.Machine.execReadCurtain port part s
  | .readCircuits port selector first count => Sys2Proof.Machine.execReadCircuits port selector first count s
  | .readCall port descriptor => Sys2Proof.Machine.execReadCall port descriptor s
  | .readQueues port => Sys2Proof.Machine.execReadQueues port s
  | .readChannels port => Sys2Proof.Machine.execReadChannels port s
  | .readLinks port => Sys2Proof.Machine.execReadLinks port s
  | .performanceClockTick raw => Sys2Proof.Machine.execPerformanceClockTick raw s
  | .lengthAbove120 port length => Sys2Proof.Machine.execLengthAbove120 port length s

end Sys2Proof.Machine
end

