-- ==== Sys2Proof/Machine/Step.lean ====
section
/-! DEFINITION. The step: the command at the front of the queue, or, on an empty queue, the request at the head of a
receive queue (R172, log 2). -/
namespace Sys2Proof.Machine

/-- The step of the part. -/
def step (s : State) : Host.Outcome State Fault Refusal :=
  match s.pending with
  | c :: rest => exec c { s with pending := rest }
  | [] =>
    match waitingRequest s with
    | some i => exec i s
    | none => .next s

/-- The command that a word spells, put at the front of the queue; the table gives no bits, so no word spells one
(log 17). -/
def State.withFetchWord (s : State) (nbits w : Nat) : State :=
  match decodeTableWord nbits w with
  | some i => { s with pending := i :: s.pending }
  | none => s

end Sys2Proof.Machine
end

