-- ==== Sys2Proof/Safety.lean ====
section
/-! DEFINITION. The laws of the part that its rules state in prose, as properties of one state, and what it means for
every step to keep one. -/
namespace Sys2Proof.Machine

/-- A property that every step keeps: from every state that has it, a step that answers a next state answers one that
has it. -/
def KeptByStep (Inv : State → Prop) : Prop := ∀ s s' : State, Inv s → step s = .next s' → Inv s'

/-! ## Links (R172, R176, R177) -/

/-- At most four requests wait, at most four replies and twenty notices; a LOST port holds no notice, no overrun mark
and no running timer, and a PRESENT one has its timer running. -/
def PortRecord.lawful (r : PortRecord) : Prop :=
  r.rx.length ≤ receiveRoom ∧ r.replies ≤ replyRoom ∧ r.notices ≤ noticeRoom ∧
    (r.present = false → r.notices = 0 ∧ r.overrun = none ∧ r.timer = none) ∧
    (r.present = true → r.timer.isSome = true)

def State.linksLawful (s : State) : Prop := ∀ p : Port, (s.links.get p).lawful

/-! ## The curtain (R62, R64) -/

/-- The states in which HOLD-OFF is on (Table 4-2). -/
def CurtainState.heldOut : CurtainState → Bool
  | .stowed | .raising | .halted => true
  | .descending | .secondary | .jammed | .landed => false

/-- The held demands are in the cause set exactly while present (R64), the cause set is empty while the curtain is held
out, and the curtain is RAISING only while the fire condition is QUIET (R62). -/
def State.curtainLawful (s : State) : Prop :=
  s.curtain.causes.fire = s.curtain.fireDemand ∧ s.curtain.causes.hardLine = s.curtain.hardLine ∧
    s.curtain.causes.manual = s.curtain.manual ∧
    (s.curtain.state.heldOut = true → s.curtain.causes = CauseSet.empty) ∧
    (s.curtain.state = .raising → s.fire.condition = .quiet) ∧
    (s.curtain.raise.isSome = true ↔ s.curtain.state = .raising)

/-! ## The zones and the ladder (R36, R47, R31) -/

/-- A zone is in the alarm list exactly when its state is ALARM, and at most once (R36). -/
def Fire.listLawful (f : Fire) : Prop :=
  f.alarmList.Nodup ∧ ∀ z : ZoneId, z ∈ f.alarmList ↔ f.zones[z].state = .alarm

/-- A DELAYED zone has its delay running and its input ACTIVE or FAULTY; it stands only while show mode is on and the
alarm list is empty (R31, R36). -/
def State.delayLawful (s : State) : Prop :=
  ∀ z : ZoneId, s.fire.zones[z].state = .delayed →
    s.fire.zones[z].delayRemaining.isSome = true ∧ s.fire.zones[z].input ≠ .quiet ∧
      s.house.showMode = true ∧ s.fire.alarmList = []

/-- The law of the ladder (R47): two listed zones, or one that is no DETECTOR, are EVACUATE; one listed zone is ALERT
or EVACUATE. -/
def Fire.ladderLawful (f : Fire) : Prop :=
  (f.condition ≠ .evacuate → f.alarmList.length ≤ 1 ∧ ∀ z ∈ f.alarmList, f.zones[z].cls = .detector) ∧
    (f.condition = .quiet → f.alarmList = [])

def State.fireLawful (s : State) : Prop :=
  s.fire.listLawful ∧ s.delayLawful ∧ s.fire.ladderLawful

/-! ## The lights (R118, R105) -/

/-- The law of the authority (R118). -/
def Lights.authorityLawful (l : Lights) : Prop :=
  l.authority = .console →
    l.phaseSeen.consolePhase = true ∧ l.consoleSeen = true ∧ l.fireSeen ≠ .evacuate

/-- A fade record within the ranges of Table 6-3. -/
def Fade.lawful (f : Fade) : Prop := f.start ≤ 255 ∧ f.target ≤ 255 ∧ f.elapsed < f.duration

/-- Every level lies in 0 to 255 (Table 6-1, R105, R107). -/
def Circuit.lawful (c : Circuit) : Prop := c.base ≤ 255 ∧ c.park ≤ 255 ∧ ∀ f ∈ c.fade, f.lawful

def State.levelsLawful (s : State) : Prop :=
  (∀ c ∈ s.lights.circuits.toList, c.lawful) ∧
    (∀ p ∈ s.lights.presets.toList, ∀ x ∈ p.levels.toList, x ≤ 255) ∧ s.params.escapeMin ≤ 255

/-! ## What one block has seen of another (R4, R57, R119, R140, R146, R156) -/

/-- Every record of a hand-off agrees with what it records. -/
def State.handedOn (s : State) : Prop :=
  s.lights.phaseSeen = s.house.phase ∧ s.lights.stopSeen = s.house.stop ∧ s.calls.phaseSeen = s.house.phase ∧
    s.lights.fireSeen = s.fire.condition ∧ s.calls.fireSeen = s.fire.condition ∧
    s.calls.arbiterFire = s.fire.condition ∧ s.lights.consoleSeen = s.links.console.present ∧
    s.curtain.fireDemand = s.fire.demand ∧ s.fire.demand = s.fire.demandFor s.fire.condition

/-! ## The house condition record (R1) -/

/-- The stop record is present exactly in STOPPED, with an origin that can be stopped; show mode is on only in ACT and
INTERVAL (R1, R22). -/
def State.houseLawful (s : State) : Prop :=
  (s.house.stop.isSome = true ↔ s.house.phase = .stopped) ∧
    (∀ r ∈ s.house.stop, r.origin.stoppable = true) ∧
    (s.house.showMode = true → s.house.phase = .act ∨ s.house.phase = .interval)

/-! ## The start-up settle (R27, R185) -/

/-- Until the start-up settle ends no line has a settled state or a candidate, and every local zone reads QUIET and is
NORMAL or ISOLATED. -/
def State.startUpLawful (s : State) : Prop :=
  s.startUp.isSome = true →
    (∀ l : Line, s.lines[l].settled = none ∧ s.lines[l].candidate = none) ∧
      ∀ z : ZoneId, z.val < 8 →
        s.fire.zones[z].input = .quiet ∧ (s.fire.zones[z].state = .normal ∨ s.fire.zones[z].state = .isolated)

/-! ## The calls (R165) -/

/-- A completion queue holds at most 16 entries (R165). -/
def Calls.queuesBounded (c : Calls) : Prop :=
  c.promptQueue.length ≤ completionRoom ∧ c.houseQueue.length ≤ completionRoom

/-! ## The collections of calls (R131, R159 to R163) -/

/-- A general descriptor stands in the collection of a life state (R131, Table 8-2). -/
def Calls.standsIn (c : Calls) (i : CallId) : Life → Bool
  | .free => c.pool.contains i
  | .waiting => c.waiting.contains i
  | .timed => c.timetable.contains i
  | .ready => c.ready.contains i
  | .playing => c.generalOn .a == some i || c.generalOn .b == some i
  | .finished => c.finished.contains (.general i)

/-- Which descriptor an item of the finished list belongs to (R164). -/
def Finished.descriptor : Finished → CallId
  | .general i => i
  | .builtIn b _ => builtInCall b

/-- A channel carries a call exactly in STARTING and PLAYING; a general call there names its channel, and a built-in
call there has its run on that channel. -/
abbrev Calls.channelLawful (c : Calls) (ch : Channel) : Prop :=
  (c.chan ch).call.isSome = (c.chan ch).carrying ∧
    (∀ i ∈ (c.chan ch).call, 2 ≤ i.val → c.table[i].channel = some ch) ∧
    (c.evacuation = .onChannel ch ↔ (c.chan ch).call = some 0) ∧
    (c.staffAlert = .onChannel ch ↔ (c.chan ch).call = some 1)

/-- Every general descriptor stands in exactly one collection, the one that its life state names, and once there; the
built-in descriptors stand in none and have no deadline (R130, R131); the evacuation call runs exactly in EVACUATE and
the staff alert exactly in ALERT (R160 to R163). -/
abbrev Calls.lawful (c : Calls) : Prop :=
  (∀ i : CallId, 2 ≤ i.val →
      [Life.free, .waiting, .timed, .ready, .playing, .finished].filter (c.standsIn i) = [c.table[i].life]) ∧
    (∀ i : CallId, i.val < 2 → i ∉ c.pool ∧ i ∉ c.waiting ∧ i ∉ c.timetable ∧ i ∉ c.ready ∧
      .general i ∉ c.finished ∧ c.table[i].deadline = none) ∧
    c.pool.Nodup ∧ c.waiting.Nodup ∧ c.timetable.Nodup ∧ c.ready.Nodup ∧ (c.finished.map Finished.descriptor).Nodup ∧
    c.channelLawful .a ∧ c.channelLawful .b ∧
    (c.evacuation ≠ .notRunning ↔ c.arbiterFire = .evacuate) ∧ (c.staffAlert ≠ .notRunning ↔ c.arbiterFire = .alert)

/-- One READY call stands ahead of another (R132): by class, then by entry time, then by number. -/
abbrev Calls.ahead (c : Calls) (i j : CallId) : Prop :=
  (c.table[i].kind = .immediate ∧ c.table[j].kind ≠ .immediate) ∨
    ((c.table[i].kind = .immediate ↔ c.table[j].kind = .immediate) ∧
      (c.table[i].entry.getD 0 < c.table[j].entry.getD 0 ∨
        (c.table[i].entry.getD 0 = c.table[j].entry.getD 0 ∧ i.val < j.val)))

/-- The orders of the collections (Table 8-2): the free pool ascending, the anchor-waiting list in the order of
creation, the timetable by due time, the ready queue by R132. A TIMED call has its due time, a READY or PLAYING one its
entry time, and no two calls in use were created at once (log 16). -/
abbrev Calls.ordered (c : Calls) : Prop :=
  c.pool.Pairwise (fun i j => i.val < j.val) ∧
    c.waiting.Pairwise (fun i j => c.creation[i] < c.creation[j]) ∧
    c.timetable.Pairwise (fun i j => c.table[i].due.getD 0 ≤ c.table[j].due.getD 0) ∧
    c.ready.Pairwise c.ahead ∧
    ∀ i : CallId, 2 ≤ i.val →
      (c.table[i].life = .timed → c.table[i].due.isSome = true) ∧
      (c.table[i].life = .ready ∨ c.table[i].life = .playing → c.table[i].entry.isSome = true) ∧
      (c.table[i].life ≠ .free → c.creation[i] < c.nextCreation ∧
        ∀ j : CallId, 2 ≤ j.val → c.table[j].life ≠ .free → c.creation[i] = c.creation[j] → i = j)

/-- The collections and their orders, with the fire condition that the Call Arbiter has seen (R156). -/
def State.callsLawful (s : State) : Prop :=
  s.calls.lawful ∧ s.calls.ordered ∧ s.calls.arbiterFire = s.fire.condition

/-- A general call has finished (R143, R164, R165): it waits in the finished list, or its entry stands in its creator's
completion queue and its descriptor is FREE. -/
abbrev Calls.finishedAs (c : Calls) (i : CallId) (creator : Desk) (o : CallOutcome) (now : Nat) : Prop :=
  (c.table[i].life = .finished ∧ c.table[i].outcome = some o ∧ c.table[i].finishTime = some now) ∨
    (c.table[i].life = .free ∧ ∃ e ∈ c.queue creator, e.number = i.val + 1 ∧ e.outcome = o ∧ e.finishTime = now)

/-- A call could play in some zone now: not every zone of its set is MUTED (R157). -/
abbrev Calls.audible (c : Calls) (zones : ZoneSet) : Prop :=
  ∃ z : Fin 12, zones.getLsbD z = true ∧ c.paging[z].muted = false

/-- What arming with a due time makes of a call that stood timed or waiting (R135): TIMED, EXPIRED, or in READY, from
where it may start at once. -/
def Armed (s t : State) (x : CallId) (due : Nat) : Prop :=
  (s.clock < due ∨ s.calls.fireSeen = .evacuate → x ∈ t.calls.timetable ∧
      t.calls.table[x] = { s.calls.table[x] with
        life := .timed, due := some due, basis := some .anchor, entry := none, deadline := none }) ∧
    (due ≤ s.clock → s.calls.fireSeen ≠ .evacuate →
      (0 < s.calls.table[x].lifetime → due + s.calls.table[x].lifetime < s.clock →
        t.calls.finishedAs x s.calls.table[x].creator .expired s.clock) ∧
      (s.calls.table[x].lifetime = 0 ∨ s.clock ≤ due + s.calls.table[x].lifetime →
        x ∉ t.calls.timetable ∧ x ∉ t.calls.waiting ∧
        (s.calls.chanA.state ≠ .idle → s.calls.chanB.state ≠ .idle → s.calls.audible s.calls.table[x].zones →
          x ∈ t.calls.ready ∧ t.calls.table[x].entry = some s.clock)))

/-- PLANNED_UP has taken the value `v`: SET arms the calls that wait for it (R136), MOVED arms again those timed from it
(R137), a write of the value it held does nothing (R3), and the other calls that stand WAITING or TIMED stay. -/
def PlannedUpHanded (v : Nat) (s t : State) : Prop :=
  (s.house.anchors.plannedUp = some v → t.calls = s.calls) ∧
    (s.calls.lawful → s.house.anchors.plannedUp ≠ some v → ∀ x : CallId, 2 ≤ x.val →
      if s.calls.table[x].anchor = some .plannedUp ∧
          (s.house.anchors.plannedUp = none ∧ s.calls.table[x].life = .waiting ∨
            s.house.anchors.plannedUp ≠ none ∧ s.calls.table[x].life = .timed ∧
              s.calls.table[x].basis = some .anchor) then
        Armed s t x (min (Int.toNat ((v : Int) + s.calls.table[x].offset)) 4294967295)
      else s.calls.table[x].life = .waiting ∨ s.calls.table[x].life = .timed →
        t.calls.table[x] = s.calls.table[x])

/-- Entering DARK has cancelled every live general call (R145). -/
def CallsCancelled (s t : State) : Prop :=
  t.calls.waiting = [] ∧ t.calls.timetable = [] ∧ t.calls.ready = [] ∧
    ∀ x : CallId, 2 ≤ x.val → s.calls.table[x].life ≠ .free → s.calls.table[x].life ≠ .finished →
      t.calls.finishedAs x s.calls.table[x].creator .cancelled s.clock

/-! ## What a command leaves as it was -/

/-- The fields that no request and no event of one block writes. -/
def KeepsFixed (s t : State) : Prop :=
  t.clock = s.clock ∧ t.inert = s.inert ∧ t.startUp = s.startUp ∧ t.pins = s.pins ∧ t.params = s.params ∧
    t.intervalUpDue = s.intervalUpDue ∧ t.pending = s.pending

/-- Those fields and the lines. -/
def KeepsBase (s t : State) : Prop := KeepsFixed s t ∧ t.lines = s.lines

/-- A port to which nothing has happened but notices that joined the tail of its transmit queue or set its overrun
mark (R176). -/
def PortRecord.onlyNotices (r r' : PortRecord) : Prop :=
  r'.present = r.present ∧ r'.timer = r.timer ∧ r'.rx = r.rx ∧ r'.changedAt = r.changedAt ∧
    r'.lastValid = r.lastValid ∧ r'.receiver = r.receiver ∧ r'.tx.take r.tx.length = r.tx ∧
    (r'.tx.drop r.tx.length).all TxFrame.isNotice = true ∧ (r.overrun.isSome = true → r'.overrun = r.overrun)

/-- Only notices have joined the ports. -/
def KeepsLinks (s t : State) : Prop := ∀ p : Port, (s.links.get p).onlyNotices (t.links.get p)

/-! ## How a request is answered -/

/-- The state in which a request has done nothing but get its reply: the reply stands at the tail of its port's
transmit queue (R176), with the kind of the request plus 0x80 (R173), and the request has left the receive queue
(R172). -/
def State.withReply (p : Port) (kind : Byte) (a : Answer) (s : State) : State :=
  s.setPort p { s.links.get p with
    tx := (s.links.get p).tx ++ [.reply (kind + 0x80) a]
    rx := (s.links.get p).rx.drop 1 }

/-- A request has been answered, its reply before every notice it raised (R176), and nothing else has happened to any
port. -/
def AnsweredWith (p : Port) (kind : Byte) (a : Answer) (s t : State) : Prop := KeepsLinks (s.withReply p kind a) t

/-- A notice stands among those that joined the transmit queue of a port. -/
def Told (p : Port) (n : Notice) (s t : State) : Prop :=
  TxFrame.notice n ∈ (t.links.get p).tx.drop (s.links.get p).tx.length

/-- A notice reaches a port: when the port is PRESENT and no notice was dropped there, so that the overrun mark is
clear afterwards (R176), the notice has joined its transmit queue. -/
def Reaches (p : Port) (n : Notice) (s t : State) : Prop :=
  (s.links.get p).present = true → (t.links.get p).overrun = none → Told p n s t

/-- One notice stands before another among those that joined the transmit queue of a port. -/
def ToldBefore (p : Port) (first second : Notice) (s t : State) : Prop :=
  Told p second s t ∧ TxFrame.notice first ∈
    ((t.links.get p).tx.drop (s.links.get p).tx.length).takeWhile fun f => decide (f ≠ .notice second)

/-- A change of the phase has been handed on (R4), and the curtain and everything the Performance Unit does not write
stand as before. -/
def PhaseHandedOn (s t : State) : Prop :=
  KeepsBase s t ∧ t.curtain = s.curtain ∧ t.lights.phaseSeen = t.house.phase ∧ t.lights.stopSeen = t.house.stop ∧
    t.calls.phaseSeen = t.house.phase ∧
    ∀ q : Port, q ≠ .panel →
      Reaches q (.phase t.house.phase t.house.actNumber (t.house.actClock t.clock) t.house.stop) s t

/-- No zone is DELAYED. -/
abbrev NoneDelayed (s : State) : Prop := ∀ z : ZoneId, s.fire.zones[z].state ≠ .delayed

/-- The other blocks stand as before an event at the zones that reaches no ladder. -/
def KeepsOtherBlocks (s t : State) : Prop :=
  KeepsBase s t ∧ t.house = s.house ∧ t.curtain = s.curtain ∧ t.lights = s.lights ∧ t.calls = s.calls

/-- A zone that stood DELAYED has been promoted (R33): into ALARM from a recorded ACTIVE, into FAULT from FAULTY. -/
def Promoted (y : ZoneId) (s t : State) : Prop :=
  (s.fire.zones[y].input = .active → t.fire.zones[y] = { s.fire.zones[y] with
      state := .alarm, alarmTime := some s.clock, delayRemaining := none, pendingPrompt := true,
      pendingHouse := true }) ∧
    (s.fire.zones[y].input = .faulty → t.fire.zones[y] = { s.fire.zones[y] with
      state := .fault, delayRemaining := none, pendingPrompt := true, pendingHouse := true })

/-- The DELAYED zones that a promotion brings into ALARM, in ascending number (R33). -/
def State.alarming (s : State) : List ZoneId :=
  (List.finRange 32).filter fun y => s.fire.zones[y].state = .delayed ∧ s.fire.zones[y].input = .active

/-- Zone `z` has entered ALARM and ended every delay, as one batch (R33, R36): it joins the alarm list, and the zones
promoted to ALARM follow it in ascending number. -/
def Batch (z : ZoneId) (s t : State) : Prop :=
  t.fire.alarmList = s.fire.alarmList ++ z :: s.alarming.filter (· ≠ z) ∧
    ∀ y : ZoneId, y ≠ z → s.fire.zones[y].state = .delayed → Promoted y s t

/-- The house has been evacuated (R57): the condition record, and what each block has made of the new condition (R14,
R67, R118, R122, R140, R156). -/
def Evacuated (cause : FireCause) (s t : State) : Prop :=
  t.fire.condition = .evacuate ∧ t.fire.previous = some s.fire.condition ∧ t.fire.cause = some cause ∧
    t.fire.enteredAt = s.clock ∧ t.fire.investigation = none ∧ t.fire.demand = true ∧
    t.curtain.fireDemand = true ∧ (s.curtain.fireDemand = false → t.curtain.state.heldOut = false) ∧
    t.lights.fireSeen = .evacuate ∧ t.lights.authority = .house ∧ t.lights.override = true ∧
    t.calls.fireSeen = .evacuate ∧ t.calls.arbiterFire = .evacuate ∧ t.calls.evacuation ≠ .notRunning ∧
    t.house = { s.house with
      phase := if s.house.phase = .houseOpen ∨ s.house.phase = .act ∨ s.house.phase = .interval then .stopped
        else s.house.phase
      stop := if s.house.phase = .houseOpen ∨ s.house.phase = .act ∨ s.house.phase = .interval then
          some ⟨s.house.phase, .fire⟩
        else if s.house.phase = .stopped then s.house.stop.map fun r => ⟨r.origin, .fire⟩ else s.house.stop
      showMode := false } ∧
    KeepsBase s t

/-- A curtain held out at position `p` has been released onto a closed bottom limit (R70, R78, R80): it is LANDED, its
count homed, ENCODER_DISAGREE latched where `p` is above the landing window, its descent record at sample 0 (R90), and
the demonstration mark is set in an occupied house in QUIET (R6). -/
def LandedAtOnce (p : Nat) (s t : State) : Prop :=
  t.curtain = { s.curtain with
      state := .landed, enteredAt := s.clock, reason := .bottomLimit, homeOffset := s.pins.encoder.toNat
      causes := { s.curtain.causes with drop := false, demonstration := false, powerOn := false }
      lowCount := none, raise := none, samplesDue := 0, descent := t.curtain.descent
      faults := if s.params.curtain.landingWindow < p then
          { s.curtain.faults with encoderDisagree := some s.clock, correction := some p }
        else s.curtain.faults } ∧
    t.curtain.descent.map (fun d => (d.startTime, d.startPosition, d.sample, d.retard)) =
      some (s.clock, p, 0, false) ∧
    t.house = { s.house with demoMark := s.house.demoMark || (s.house.phase.occupied &&
      decide (s.fire.condition = .quiet)) } ∧
    t.fire = s.fire ∧ t.lights = s.lights ∧ t.calls = s.calls ∧ KeepsBase s t

/-- A fade has been started on a circuit (R104): a snap when the duration is 0, else a record from the base level. -/
def Circuit.fadeBegan (now slot duration target : Nat) (before after : Circuit) : Prop :=
  (duration = 0 → after = { before with base := target, fade := none }) ∧
    (0 < duration → after = { before with fade := some ⟨before.base, target, duration, 0, now, slot⟩ })

/-- The output level that R126 composes for a circuit. -/
def composedLevel (l : Lights) (escapeMin : Nat) (c : Circuit) : Nat :=
  if l.panic = true ∨ l.fireSeen = .evacuate then 255
  else
    let m := if l.blackout = .active ∧ l.phaseSeen = .act ∧ c.masked = false then 0 else c.base
    if (l.phaseSeen = .houseOpen ∨ l.phaseSeen = .act ∨ l.phaseSeen = .interval ∨ l.phaseSeen = .stopped ∨
        l.phaseSeen = .emptying) ∧ c.escapeLit = true then max m escapeMin else m

/-- The blocks that no call and no channel touches stand as before. -/
def KeepsAllButCalls (s t : State) : Prop :=
  KeepsBase s t ∧ t.house = s.house ∧ t.fire = s.fire ∧ t.curtain = s.curtain ∧ t.lights = s.lights

/-- Nothing waits for a channel: no call is READY and no built-in call waits. -/
abbrev NothingWaits (c : Calls) : Prop := c.ready = [] ∧ c.evacuation ≠ .waiting ∧ c.staffAlert ≠ .waiting

/-- A port to which one valid frame has come (R170, R172): PRESENT, its timer restarted, and the request at the tail of
the receive queue where there is room for it. -/
def PortRecord.heard (now period : Nat) (f : Frame) (r r' : PortRecord) : Prop :=
  r'.present = true ∧ r'.timer = some period ∧ r'.lastValid = some now ∧ r'.receiver = [] ∧
    r'.rx = if f.kind = 0 ∨ 4 ≤ r.rx.length then r.rx else r.rx ++ [f]

end Sys2Proof.Machine
end

