-- ==== Sys2Proof/WellFormed.lean ====
section
/-! DEFINITION. Which terms of `Instr` are commands that can arise: a request fits a frame and keeps the encoding rules
(R180), an unknown request is spelled by no other row (R173), and a discarded length is above 120 (R168). -/
namespace Sys2Proof

/-- The payload of a request fits a frame (Table 10-6). -/
def Instr.fits (i : Instr) : Bool := decide ((Machine.requestFrame i).payload.length ≤ Machine.payloadMax)

/-- The operands that can be put on the wire and read back: the counts of the pairs are bytes, and an unknown request
is one that no row spells. -/
def Instr.encodable : Instr → Bool
  | .zoneReport _ pairs | .lights _ _ pairs => decide (pairs.length < 256)
  | .unknownRequest p kind payload => (Machine.decodeRow p kind.toNat payload).isNone
  | _ => true

/-- A command that can arise. -/
def Instr.wellFormed (i : Instr) : Bool :=
  i.fits && i.encodable && Machine.shapeOk i &&
    (match i with
      | .unknownRequest _ kind _ => kind != 0
      | .lengthAbove120 _ length => decide (Machine.payloadMax < length.toNat)
      | _ => true)

end Sys2Proof
end

