-- ==== Sys2Proof/Certificates/Slice0/Obligations.lean ====
section
/-! DEFINITION. The statements about the part, each formalising the rules its docstring names. A request is stated
where it can be taken: `takeable` says that it is the one at the head of its port's receive queue or, with that queue
empty, has just arrived on its PRESENT port, and that its port has room for a reply (R172, log 3). -/
open Sys2Proof Sys2Proof.Machine

/-! ## The step, the frames and the links -/

/-- The step takes the command at the front of the queue and runs its meaning with the rest of the queue. On an empty
queue (log 2, the model’s choice, no rule of the spec) it takes the request at the head of the first receive queue
that holds one, and idles when none does. -/
def Obligations.StepTakesTheFrontCommand : Prop :=
  (∀ (c : Instr) (rest : List Instr) (s : State),
     step { s with pending := c :: rest } = exec c { s with pending := rest }) ∧
  (∀ s : State, s.pending = [] →
     ((∀ p : Port, (s.links.get p).rx = []) → step s = .next s) ∧
     (∀ f fs, s.links.prompt.rx = f :: fs → takeable .prompt f s = true →
       step s = exec (decodeRequest .prompt f) s) ∧
     (∀ f fs, s.links.house.rx = f :: fs → s.links.prompt.rx = [] → takeable .house f s = true →
       step s = exec (decodeRequest .house f) s) ∧
     (∀ f fs, s.links.panel.rx = f :: fs → s.links.prompt.rx = [] → s.links.house.rx = [] →
       takeable .panel f s = true → step s = exec (decodeRequest .panel f) s) ∧
     (∀ f fs, s.links.console.rx = f :: fs → s.links.prompt.rx = [] → s.links.house.rx = [] →
       s.links.panel.rx = [] → takeable .console f s = true → step s = exec (decodeRequest .console f) s))

/-- R173, R180, Tables 10-8 to 10-13: a request read back from the frame that carries it is the request, with every
operand at every value. -/
def Obligations.RequestReadsBackFromItsFrame : Prop :=
  ∀ (i : Instr) (p : Port), requestPort i = some p → i.encodable = true → decodeRequest p (requestFrame i) = i

/-- R173, R180: whatever request is read from a frame, that frame carries it: no bit of a frame is dropped. -/
def Obligations.FrameIsKeptByItsRequest : Prop :=
  ∀ (p : Port) (f : Frame), requestFrame (decodeRequest p f) = f ∧ requestPort (decodeRequest p f) = some p

/-- R44, R168, R170, R171, R172: a whole frame with the port’s station byte and a right CRC is received. A port that
comes back is told of by LINK STATE to the two desks, its own copy among them, and the panel is asked to REPORT ALL.
-/
def Obligations.ValidFrameIsReceived : Prop :=
  ∀ (p : Port) (kind : Byte) (payload : List Byte) (s : State), s.inert = false →
    (s.links.get p).receiver = [] → payload.length ≤ 120 →
    ∃ t, exec (.receiveFrame p (frameBytes (stationByte p) kind payload)) s = .next t ∧
      (s.links.get p).heard s.clock (s.params.supervision p) ⟨kind, payload⟩ (t.links.get p) ∧
      ((s.links.get p).present = true → t = s.setPort p (t.links.get p) ∧
        (t.links.get p).changedAt = (s.links.get p).changedAt ∧ (t.links.get p).tx = (s.links.get p).tx ∧
        (t.links.get p).overrun = (s.links.get p).overrun) ∧
      ((s.links.get p).present = false → (t.links.get p).changedAt = some s.clock ∧
        (∀ q : Port, q ≠ p → q = .prompt ∨ q = .house →
          Reaches q (.linkState p true (s.links.get p).lastValid) s t) ∧
        ((s.links.get p).overrun = none → ((s.links.get p).tx.filter TxFrame.isNotice).length < 20 →
          (p = .prompt ∨ p = .house → (t.links.get p).tx =
            (s.links.get p).tx ++ [.notice (.linkState p true (s.links.get p).lastValid)]) ∧
          (p = .panel → (t.links.get p).tx = (s.links.get p).tx ++ [.notice .reportAll]) ∧
          (p = .console → (t.links.get p).tx = (s.links.get p).tx))) ∧
      (∀ q : Port, q ≠ p → (s.links.get q).onlyNotices (t.links.get q)) ∧
      t.lights = { s.lights with
        consoleSeen := if p = .console ∧ (s.links.get p).present = false then true else s.lights.consoleSeen } ∧
      t.house = s.house ∧ t.fire = s.fire ∧ t.curtain = s.curtain ∧ t.calls = s.calls ∧ KeepsBase s t

/-- R168: a frame with another station byte or a wrong CRC leaves the part as it was; a length above 120, and a gap in
the bytes, end the frame in reception. -/
def Obligations.FramesAreDiscardedAndAbandoned : Prop :=
  (∀ (p : Port) (station kind : Byte) (payload : List Byte) (check : BitVec 16) (s : State), s.inert = false →
     (s.links.get p).receiver = [] → payload.length ≤ 120 →
     station ≠ stationByte p ∨ check ≠ crc (station :: kind :: BitVec.ofNat 8 payload.length :: payload) →
     exec (.receiveFrame p (0xA5 :: station :: kind :: BitVec.ofNat 8 payload.length :: (payload ++ halfBytes check))) s =
       .next s) ∧
  (∀ (s : State) (p : Port), s.inert = false →
     (exec (.frameAbandoned p) s = .next (s.setPort p { s.links.get p with receiver := [] })) ∧
     (∀ length : Byte, 120 < length.toNat → (s.links.get p).receiver.length = 3 →
       exec (.lengthAbove120 p length) s = .next (s.setPort p { s.links.get p with receiver := [] })))

/-- R172, R173, R181, R184: the first failing step of R173 decides the reply and nothing but the queues of the port
changes; a frame that no row spells is answered MALFORMED, or as its CONFIGURE record kind asks; a CONFIGURE with no
payload, or with a record of another length than Table 10-13 gives, is MALFORMED; a request that cannot be taken (log
3 says when) has no effect. The kind of the reply to an unknown request of kind 0x80 or above, the sum modulo 256, is
the model’s choice (log 34) and no rule of the spec. -/
def Obligations.RequestsAreRefusedBeforeTheirBlock : Prop :=
  (∀ (i : Instr) (p : Port) (s : State), requestPort i = some p → i.encodable = true → (requestFrame i).kind ≠ 0 →
     takeable p (requestFrame i) s = true →
     (kindKnown (requestFrame i).kind = false →
       exec i s = .next (s.withReply p (requestFrame i).kind ⟨.refused, .refusal .malformed⟩)) ∧
     (kindKnown (requestFrame i).kind = true → permitted p (requestFrame i).kind = false →
       exec i s = .next (s.withReply p (requestFrame i).kind ⟨.refused, .refusal .notPermitted⟩)) ∧
     (kindKnown (requestFrame i).kind = true → permitted p (requestFrame i).kind = true → shapeOk i = false →
       exec i s = .next (s.withReply p (requestFrame i).kind ⟨.refused, .refusal .malformed⟩))) ∧
  (∀ (p : Port) (kind : Byte) (payload : List Byte) (s : State), kind ≠ 0 → decodeRow p kind.toNat payload = none →
     takeable p ⟨kind, payload⟩ s = true →
     (0x38 < kind.toNat → exec (.unknownRequest p kind payload) s =
       .next (s.withReply p kind ⟨.refused, .refusal .malformed⟩)) ∧
     (kind ≠ 1 → permitted p kind = true → exec (.unknownRequest p kind payload) s =
       .next (s.withReply p kind ⟨.refused, .refusal .malformed⟩)) ∧
     (kind.toNat ≤ 0x38 → permitted p kind = false → exec (.unknownRequest p kind payload) s =
       .next (s.withReply p kind ⟨.refused, .refusal .notPermitted⟩)) ∧
     (∀ code rest, kind = 1 → p = .house → payload = code :: rest → 10 ≤ code.toNat →
       exec (.unknownRequest p kind payload) s = .next (s.withReply p kind ⟨.refused, .refusal
         (if s.house.phase = .unconfigured ∨ s.house.phase = .dark then .badNumber else .frozen)⟩))) ∧
  (∀ s : State, takeable .house ⟨1, []⟩ s = true →
     exec (.unknownRequest .house 1 []) s = .next (s.withReply .house 1 ⟨.refused, .refusal .malformed⟩)) ∧
  (∀ (code : Byte) (rest : List Byte) (s : State), takeable .house ⟨1, code :: rest⟩ s = true → code.toNat < 10 →
     rest.length ≠ ([5, 22, 5, 2, 51, 3, 6, 12, 3, 1] : List Nat).getD code.toNat 0 →
     exec (.unknownRequest .house 1 (code :: rest)) s =
       .next (s.withReply .house 1 ⟨.refused, .refusal .malformed⟩)) ∧
  (∀ (i : Instr) (p : Port) (s : State), requestPort i = some p → takeable p (requestFrame i) s = false →
     exec i s = .next s)

/-- R176, R177: a frame leaves the head of the transmit queue; NOTICES LOST follows a notice while the overrun mark is
set. -/
def Obligations.FrameLeavesTheTransmitQueue : Prop :=
  ∀ (s : State) (p : Port), s.inert = false →
    ((s.links.get p).tx = [] → exec (.frameSent p) s = .next s) ∧
    (∀ f rest, (s.links.get p).tx = f :: rest →
      ((s.links.get p).overrun = none ∨ f.isNotice = false →
        exec (.frameSent p) s = .next (s.setPort p { s.links.get p with tx := rest })) ∧
      (∀ since, (s.links.get p).overrun = some since → f.isNotice = true →
        (rest.filter TxFrame.isNotice).length < 20 →
        exec (.frameSent p) s = .next (s.setPort p { s.links.get p with
          tx := rest ++ [.notice (.noticesLost since)], overrun := none })))

/-- R43, R119, R170, R171, R176, R177: the supervision timer runs out, the port is LOST, and its block acts. While the
panel is LOST no PANEL RESET ZONE that still had to arrive is taken (log 3). -/
def Obligations.SupervisionExpiryLosesThePort : Prop :=
  ∀ (s : State) (p : Port), s.inert = false → (s.links.get p).present = true → (s.links.get p).timer = some 0 →
    ∃ t, exec (.supervisionExpiry p) s = .next t ∧ (t.links.get p).present = false ∧ (t.links.get p).timer = none ∧
      (t.links.get p).overrun = none ∧ (t.links.get p).changedAt = some s.clock ∧
      (t.links.get p).lastValid = (s.links.get p).lastValid ∧ (t.links.get p).rx = (s.links.get p).rx ∧
      (t.links.get p).receiver = (s.links.get p).receiver ∧
      (t.links.get p).tx = (s.links.get p).tx.filter (fun f => !f.isNotice) ∧
      (∀ q : Port, q ≠ p → (s.links.get q).onlyNotices (t.links.get q)) ∧
      (∀ q : Port, q ≠ p → q = .prompt ∨ q = .house →
        Reaches q (.linkState p false (s.links.get p).lastValid) s t) ∧
      t.house = s.house ∧ t.curtain = s.curtain ∧ t.calls = s.calls ∧ KeepsBase s t ∧
      (p ≠ .console → t.lights = s.lights) ∧ (p ≠ .panel → t.fire = s.fire) ∧
      (p = .console →
        (s.lights.authority = .house → t.lights = { s.lights with consoleSeen := false }) ∧
        (s.lights.authority = .console →
          t.lights = { s.lights with
            consoleSeen := false, authority := .house, authorityAt := s.clock, authorityCause := some .consoleLost
            circuits := t.lights.circuits, stepsDue := t.lights.stepsDue } ∧
          (∀ i : Fin 48, s.lights.circuits[i].fadeBegan s.clock s.params.parkSlot
            (s.lights.slotDuration s.params.parkSlot) s.lights.circuits[i].park t.lights.circuits[i] ∧
            t.lights.stepsDue[i] = 0) ∧
          Reaches .house (.authority ⟨.house, .console, .consoleLost, s.clock, true⟩) s t)) ∧
      (p = .panel → t.fire = { s.fire with zones := t.fire.zones } ∧
        (∀ z : ZoneId, z.val < 8 → t.fire.zones[z] = s.fire.zones[z]) ∧
        (∀ z : ZoneId, 8 ≤ z.val → t.fire.zones[z] = if s.fire.zones[z].state = .normal then
            { s.fire.zones[z] with
              input := .faulty, state := .fault, delayRemaining := none, pendingPrompt := true, pendingHouse := true }
          else { s.fire.zones[z] with input := .faulty }) ∧
        (s.links.panel.rx = [] → ∀ b : Byte, exec (.panelResetZone .panel b) t = .next t))

/-- R42, R60, R62, R85, R99, R113, R147, R155, R178, R179: every READ answers from one moment and changes nothing but
the queues of its port; an operand outside its range is refused with BAD_NUMBER. The curtain outputs are those of
Table 4-2 and an attention output is on exactly while a flag is pending. A waiting built-in call is shown with the
zone set that a start would read now (log 33). What READ LINKS counts on its own port is the model’s choice (log 3): a
request that came without RECEIVE_FRAME never stood in the receive queue and is not counted. -/
def Obligations.ReadsAnswerAndChangeNothing : Prop :=
  (∀ (s : State) (p : Port), ∀ outputs : CurtainOutputs, outputs = (match s.curtain.state with
       | .stowed => ⟨true, false, false, false⟩
       | .raising => ⟨true, true, false, false⟩
       | .halted => ⟨true, false, false, false⟩
       | .descending => ⟨false, false, false, decide (s.curtain.descent.map (·.retard) = some true)⟩
       | .secondary => ⟨false, false, true, false⟩
       | .jammed => ⟨false, false, true, false⟩
       | .landed => ⟨false, false, false, false⟩) →
     ∀ promptOn : Bool, promptOn = decide (∃ z : ZoneId, s.fire.zones[z].pendingPrompt = true) →
     ∀ houseOn : Bool, houseOn = decide (∃ z : ZoneId, s.fire.zones[z].pendingHouse = true) →
     (s.inert = false → s.curtainOutputs = outputs ∧ s.promptAttention = promptOn ∧ s.houseAttention = houseOn) ∧
     (takeable p ⟨0x30, []⟩ s = true → exec (.readHouse p) s = .next (s.withReply p 0x30
       (done (.house s.house s.clock (s.house.actClock s.clock) s.params.demoRequired)))) ∧
     (∀ b : Byte, takeable p ⟨0x31, [b]⟩ s = true → b.toNat < 32 → exec (.readZones p b) s = .next (s.withReply p 0x31
       (done (.zones b.toNat ((s.fire.zones.toList.drop b.toNat).take 8) promptOn houseOn)))) ∧
     (∀ b : Byte, takeable p ⟨0x32, [b]⟩ s = true → b.toNat < 32 →
       exec (.readAlarmList p b) s = .next (s.withReply p 0x32 (done (.alarmList
         { condition := s.fire.condition, previous := s.fire.previous, cause := s.fire.cause
           enteredAt := s.fire.enteredAt, investigation := s.fire.investigation, demand := s.fire.demand
           length := s.fire.alarmList.length
           delayed := (s.fire.zones.toList.filter fun z => z.state == .delayed).length
           entries := ((s.fire.alarmList.drop b.toNat).take 10).map fun z =>
             ⟨z, s.fire.zones[z].cls, s.fire.zones[z].area, s.fire.zones[z].alarmTime, s.fire.zones[z].input,
               s.fire.alarmList.head? == some z⟩ })))) ∧
     (∀ b : Byte, takeable p ⟨0x33, [b]⟩ s = true →
       (b = 0 → exec (.readCurtain p b) s = .next (s.withReply p 0x33 (done (.curtain
         { state := s.curtain.state, enteredAt := s.curtain.enteredAt, reason := s.curtain.reason
           position := (s.pins.encoder.toNat - s.curtain.homeOffset) * 1000 / s.params.curtain.countsPerMetre
           raw := s.pins.encoder.toNat, count := s.pins.encoder.toNat - s.curtain.homeOffset
           homeOffset := s.curtain.homeOffset, topLimit := s.lines[(12 : Line)].settled
           bottomLimit := s.lines[(11 : Line)].settled, fireLine := s.lines[(8 : Line)].settled
           manualButton := s.lines[(9 : Line)].settled, fireDemand := s.curtain.fireDemand
           hardLine := s.curtain.hardLine, manual := s.curtain.manual, causes := s.curtain.causes
           leaseExpiry := s.curtain.raise.map (·.leaseExpiry), lowCount := s.curtain.lowCount
           faults := s.curtain.faults, outputs := outputs })))) ∧
       (b = 1 → exec (.readCurtain p b) s = .next (s.withReply p 0x33
         (done (.descent (s.curtain.descent.map fun d => { d with window := [] }))))) ∧
       (b = 2 → exec (.readCurtain p b) s = .next (s.withReply p 0x33
         (done (.window (s.curtain.descent.map fun d => d.window.reverse)))))) ∧
     (∀ a c : Byte, takeable p ⟨0x34, [0, a, c]⟩ s = true → 1 ≤ c.toNat → c.toNat ≤ 8 → a.toNat + c.toNat ≤ 48 →
       exec (.readCircuits p 0 a c) s = .next (s.withReply p 0x34 (done (.circuits a.toNat
         (((s.lights.circuits.toList.drop a.toNat).take c.toNat).map fun x =>
           (x, composedLevel s.lights s.params.escapeMin x))
         { slots := s.lights.slots, presets := s.lights.presets.toList.map fun x => (x.inUse, x.slot)
           authority := s.lights.authority, authorityAt := s.lights.authorityAt
           authorityCause := s.lights.authorityCause, panic := s.lights.panic, fireSeen := s.lights.fireSeen
           phaseSeen := s.lights.phaseSeen, stopSeen := s.lights.stopSeen, consoleSeen := s.lights.consoleSeen
           blackoutLine := s.lights.blackout
           override := decide (s.lights.panic = true ∨ s.lights.fireSeen = .evacuate)
           blackout := decide (s.lights.blackout = .active ∧ s.lights.phaseSeen = .act ∧
             ¬ (s.lights.panic = true ∨ s.lights.fireSeen = .evacuate)) })))) ∧
     (∀ (b : Byte) (n : Fin 8), takeable p ⟨0x34, [1, b, 0]⟩ s = true → b.toNat = n.val + 1 →
       exec (.readCircuits p 1 b 0) s = .next (s.withReply p 0x34 (done (.preset s.lights.presets[n].levels
         s.lights.presets[n].slot s.lights.presets[n].inUse)))) ∧
     (∀ (b : Byte) (x : CallId), takeable p ⟨0x35, [b]⟩ s = true → b.toNat = x.val + 1 →
       ∀ d, d = (if x = 0 ∧ s.calls.evacuation = .waiting then { s.calls.table[x] with zones := s.calls.evacZones }
         else if x = 1 ∧ s.calls.staffAlert = .waiting then { s.calls.table[x] with zones := s.calls.staffZones }
         else s.calls.table[x]) →
       exec (.readCall p b) s = .next (s.withReply p 0x35 (done (.call (x.val + 1) d
         (if s.calls.table[x].life = .timed ∧ s.calls.table[x].basis = some .anchor then
           s.calls.table[x].anchor.bind s.house.anchors.get else none)
         (if s.calls.table[x].life = .ready ∧ x ∈ s.calls.ready then some (s.calls.ready.idxOf x + 1) else none))))) ∧
     (takeable p ⟨0x36, []⟩ s = true →
       exec (.readQueues p) s = .next (s.withReply p 0x36 (done (.queues
         { pool := s.calls.pool.length, waiting := s.calls.waiting.length, timetable := s.calls.timetable.length
           ready := s.calls.ready.length
           finishedPrompt := (s.calls.finished.filter fun x => match x with
             | .general i => s.calls.table[i].creator == .prompt
             | .builtIn _ _ => false).length
           finishedHouse := (s.calls.finished.filter fun x => match x with
             | .general i => s.calls.table[i].creator == .house
             | .builtIn _ _ => false).length
           finishedBuiltIn := (s.calls.finished.filter fun x => match x with
             | .general _ => false
             | .builtIn _ _ => true).length
           promptQueue := s.calls.promptQueue.length, houseQueue := s.calls.houseQueue.length
           callA := s.calls.chanA.call.map fun i => i.val + 1, callB := s.calls.chanB.call.map fun i => i.val + 1
           evacuationLife := s.calls.table[(0 : CallId)].life
           staffAlertLife := s.calls.table[(1 : CallId)].life }))) ∧
         s.calls.finishedOf .prompt + s.calls.finishedOf .house + s.calls.finishedBuiltIns =
           s.calls.finished.length) ∧
     (takeable p ⟨0x37, []⟩ s = true → exec (.readChannels p) s = .next (s.withReply p 0x37
       (done (.channels s.calls.chanA s.calls.chanB s.pins.playingA s.pins.playingB s.calls.paging)))) ∧
     (takeable p ⟨0x38, []⟩ s = true →
       exec (.readLinks p) s = .next (s.withReply p 0x38 (done (.links
         ([Port.prompt, .house, .panel, .console].map fun q => (q, ⟨(s.links.get q).present,
           (s.links.get q).changedAt, (s.links.get q).lastValid, s.params.supervision q, (s.links.get q).rx.length,
           (s.links.get q).tx.length, (s.links.get q).overrun.isSome⟩))))))) ∧
  (∀ (s : State) (p : Port) (b : Byte),
     (takeable p ⟨0x31, [b]⟩ s = true → 32 ≤ b.toNat →
       exec (.readZones p b) s = .next (s.withReply p 0x31 ⟨.refused, .refusal .badNumber⟩)) ∧
     (takeable p ⟨0x32, [b]⟩ s = true → 32 ≤ b.toNat →
       exec (.readAlarmList p b) s = .next (s.withReply p 0x32 ⟨.refused, .refusal .badNumber⟩)) ∧
     (takeable p ⟨0x33, [b]⟩ s = true → 3 ≤ b.toNat →
       exec (.readCurtain p b) s = .next (s.withReply p 0x33 ⟨.refused, .refusal .badNumber⟩)) ∧
     (∀ c : Byte, takeable p ⟨0x34, [0, b, c]⟩ s = true → c = 0 ∨ 8 < c.toNat ∨ 48 < b.toNat + c.toNat →
       exec (.readCircuits p 0 b c) s = .next (s.withReply p 0x34 ⟨.refused, .refusal .badNumber⟩)) ∧
     (takeable p ⟨0x34, [1, b, 0]⟩ s = true → b = 0 ∨ 8 < b.toNat →
       exec (.readCircuits p 1 b 0) s = .next (s.withReply p 0x34 ⟨.refused, .refusal .badNumber⟩)) ∧
     (takeable p ⟨0x35, [b]⟩ s = true → b = 0 ∨ 48 < b.toNat →
       exec (.readCall p b) s = .next (s.withReply p 0x35 ⟨.refused, .refusal .badNumber⟩)))

/-! ## The Performance Unit (chapter 01) -/

/-- R4, R8, R9, R10, R17, R145: the requests that enter DARK, PRESET and HOUSE_OPEN write the house condition record
and hand the phase on; DARK cancels every live general call; each is refused in another phase. -/
def Obligations.PerformancesOpenAndClose : Prop :=
  (∀ s : State,
     (takeable .house ⟨0x02, []⟩ s = true → s.house.phase = .unconfigured →
       ∃ t, exec (.configurationComplete .house) s = .next t ∧ AnsweredWith .house 0x02 (done .empty) s t ∧
         t.house = { s.house with phase := .dark } ∧ t.fire = s.fire ∧ PhaseHandedOn s t ∧
         t.calls = { s.calls with phaseSeen := .dark }) ∧
     (NoneDelayed s ∨ s.house.showMode = false → takeable .prompt ⟨0x04, []⟩ s = true → s.house.phase = .preset →
       ∃ t, exec (.closePerformance .prompt) s = .next t ∧ AnsweredWith .prompt 0x04 (done .empty) s t ∧
         t.house = { s.house with
           phase := .dark, anchors := ⟨none, none, none, none, none, none⟩, clearance := .withheld,
           showMode := false, countdown := 0 } ∧
         t.fire = s.fire ∧ PhaseHandedOn s t ∧ (s.calls.lawful → CallsCancelled s t)) ∧
     (NoneDelayed s ∨ s.house.showMode = false → takeable .house ⟨0x06, []⟩ s = true → s.house.phase = .emptying →
       ∃ t, exec (.houseClosed .house) s = .next t ∧ AnsweredWith .house 0x06 (done .empty) s t ∧
         t.house = { s.house with
           phase := .dark, anchors := ⟨none, none, none, none, none, none⟩, clearance := .withheld,
           showMode := false, countdown := 0 } ∧
         t.fire = s.fire ∧ PhaseHandedOn s t ∧ (s.calls.lawful → CallsCancelled s t))) ∧
  (∀ s : State,
     (NoneDelayed s ∨ s.house.showMode = false → takeable .prompt ⟨0x03, []⟩ s = true → s.house.phase = .dark →
       ∃ t, exec (.openPerformance .prompt) s = .next t ∧ AnsweredWith .prompt 0x03 (done .empty) s t ∧
         t.house = ⟨.preset, 0, none, .withheld, false, false, false, ⟨none, none, none, none, none, none⟩, 0⟩ ∧
         (∀ z : ZoneId, t.fire.zones[z] = { s.fire.zones[z] with suppressed := 0 }) ∧
         t.fire = { s.fire with zones := t.fire.zones } ∧ PhaseHandedOn s t) ∧
     (takeable .house ⟨0x05, []⟩ s = true → s.house.phase = .preset → s.fire.condition = .quiet →
       ∃ t, exec (.openHouse .house) s = .next t ∧ AnsweredWith .house 0x05 (done .empty) s t ∧
         t.house = { s.house with
           phase := .houseOpen, anchors := { s.house.anchors with houseOpen := some s.clock } } ∧
         t.fire = s.fire ∧ PhaseHandedOn s t) ∧
     (takeable .house ⟨0x05, []⟩ s = true → s.house.phase = .preset → s.fire.condition ≠ .quiet →
       exec (.openHouse .house) s = .next (s.withReply .house 0x05 ⟨.refused, .interlock [.fireNotQuiet]⟩))) ∧
  (∀ s : State,
     (takeable .house ⟨0x02, []⟩ s = true → s.house.phase ≠ .unconfigured → exec (.configurationComplete .house) s =
       .next (s.withReply .house 0x02 ⟨.refused, .refusal .wrongPhase⟩)) ∧
     (takeable .prompt ⟨0x03, []⟩ s = true → s.house.phase ≠ .dark → exec (.openPerformance .prompt) s =
       .next (s.withReply .prompt 0x03 ⟨.refused, .refusal .wrongPhase⟩)) ∧
     (takeable .prompt ⟨0x04, []⟩ s = true → s.house.phase ≠ .preset → exec (.closePerformance .prompt) s =
       .next (s.withReply .prompt 0x04 ⟨.refused, .refusal .wrongPhase⟩)) ∧
     (takeable .house ⟨0x05, []⟩ s = true → s.house.phase ≠ .preset → exec (.openHouse .house) s =
       .next (s.withReply .house 0x05 ⟨.refused, .refusal .wrongPhase⟩)) ∧
     (takeable .house ⟨0x06, []⟩ s = true → s.house.phase ≠ .emptying → exec (.houseClosed .house) s =
       .next (s.withReply .house 0x06 ⟨.refused, .refusal .wrongPhase⟩)))

/-- R7 (with R11): every condition of the Go Act interlock that holds is named and the record is unchanged; with none
GO ACT begins the next act and RESUME enters ACT. -/
def Obligations.GoActInterlock : Prop :=
  (∀ s : State, ∀ c,
     c = (if s.house.clearance = .withheld then [Interlock.clearanceWithheld] else []) ++
       (if s.fire.condition = .alert ∨ s.fire.condition = .evacuate then [.fireNotQuiet] else []) ++
       (if s.curtain.state ≠ .stowed then [.curtainNotStowed] else []) ++
       (if ∃ z : ZoneId, s.fire.zones[z].state = .delayed then [.zoneDelayed] else []) →
     ∀ demo, demo = (if s.house.actNumber + 1 = 1 ∧ s.params.demoRequired = true ∧ s.house.curtainShown = false then
       [Interlock.demonstrationOutstanding] else []) →
     (takeable .prompt ⟨0x07, []⟩ s = true → s.house.phase = .houseOpen ∨ s.house.phase = .interval →
       c ++ demo ≠ [] →
         exec (.goAct .prompt) s = .next (s.withReply .prompt 0x07 ⟨.refused, .interlock (c ++ demo)⟩)) ∧
     (takeable .prompt ⟨0x07, []⟩ s = true → s.house.phase ≠ .houseOpen → s.house.phase ≠ .interval →
         exec (.goAct .prompt) s = .next (s.withReply .prompt 0x07 ⟨.refused, .refusal .wrongPhase⟩)) ∧
     (takeable .prompt ⟨0x0A, []⟩ s = true → s.house.phase = .stopped →
       s.house.stop.map (·.origin) = some .act → c ≠ [] →
         exec (.resume .prompt) s = .next (s.withReply .prompt 0x0A ⟨.refused, .interlock c⟩)) ∧
     (takeable .prompt ⟨0x0A, []⟩ s = true → s.house.phase = .stopped →
       s.house.stop.map (·.origin) = some .act → c = [] →
         ∃ t, exec (.resume .prompt) s = .next t ∧ AnsweredWith .prompt 0x0A (done .empty) s t ∧ t.house.phase = .act)) ∧
  (∀ s : State, takeable .prompt ⟨0x07, []⟩ s = true → s.house.phase = .houseOpen ∨ s.house.phase = .interval →
     s.house.clearance = .given → s.fire.condition = .quiet → s.curtain.state = .stowed → NoneDelayed s →
     (s.house.actNumber = 0 → s.params.demoRequired = true → s.house.curtainShown = true) →
       ∃ t, exec (.goAct .prompt) s = .next t ∧
         AnsweredWith .prompt 0x07 (done (.number (s.house.actNumber + 1))) s t ∧
         t.house = { s.house with
           phase := .act, actNumber := s.house.actNumber + 1, clearance := .withheld, countdown := 0
           anchors := { s.house.anchors with
             actStart := some s.clock, intervalStart := none, intervalEnd := none } } ∧
         t.fire = s.fire ∧ PhaseHandedOn s t ∧
         ∀ q : Port, q = .prompt ∨ q = .house → Reaches q (.clearance .withheld .consumed) s t)

/-- R4, R12, R20, R21, R33 (and log 15): END ACT opens an interval or closes the performance; the countdown is
extended; its end is told once, and an expiry with the mark clear tells nothing. -/
def Obligations.ActsEndAndIntervalsRun : Prop :=
  (∀ s : State, s.house.phase = .act →
     (takeable .prompt ⟨0x08, [0]⟩ s = true → s.house.actNumber ≠ 9 →
       ∃ t, exec (.endAct .prompt 0) s = .next t ∧ AnsweredWith .prompt 0x08 (done .empty) s t ∧
         t.house = { s.house with
           phase := .interval, countdown := s.params.interval * 600
           anchors := { s.house.anchors with
             intervalStart := some s.clock
             intervalEnd := some (min (s.clock + s.params.interval * 600) 4294967295) } } ∧
         t.fire = s.fire ∧ PhaseHandedOn s t) ∧
     (takeable .prompt ⟨0x08, [0]⟩ s = true → s.house.actNumber = 9 →
       exec (.endAct .prompt 0) s = .next (s.withReply .prompt 0x08 ⟨.refused, .refusal .badNumber⟩)) ∧
     (takeable .prompt ⟨0x08, [1]⟩ s = true → NoneDelayed s ∨ s.house.showMode = false →
       ∃ t, exec (.endAct .prompt 1) s = .next t ∧ AnsweredWith .prompt 0x08 (done .empty) s t ∧
         t.house = { s.house with
           phase := .emptying, showMode := false
           anchors := { s.house.anchors with curtainDown := some s.clock } } ∧
         t.fire = s.fire ∧ PhaseHandedOn s t) ∧
     (∀ z : ZoneId, takeable .prompt ⟨0x08, [1]⟩ s = true → s.house.showMode = true →
       s.fire.zones[z].state = .delayed →
       ∃ t, exec (.endAct .prompt 1) s = .next t ∧ AnsweredWith .prompt 0x08 (done .empty) s t ∧
         t.house = { s.house with
           phase := .emptying, showMode := false
           anchors := { s.house.anchors with curtainDown := some s.clock } } ∧
         Promoted z s t ∧ t.fire.alarmList = s.fire.alarmList ++ s.alarming)) ∧
  ((∀ (s : State) (m : Byte), takeable .prompt ⟨0x10, [m]⟩ s = true → s.house.phase = .interval →
     ∀ n, n = max 1 (min 30 m.toNat) → ∀ added, added = min (600 * n) (36000 - s.house.countdown) →
       ∃ t, exec (.extendInterval .prompt m) s = .next t ∧
       t.house = { s.house with
         countdown := s.house.countdown + added
         anchors := { s.house.anchors with
           intervalEnd := s.house.anchors.intervalEnd.map fun e => min (e + added) 4294967295 } } ∧
       AnsweredWith .prompt 0x10
         ⟨if n = m.toNat ∧ added = 600 * n then .done else .clamped,
           .countdown t.house.countdown t.house.anchors.intervalEnd⟩ s t ∧
       t.fire = s.fire ∧ t.curtain = s.curtain ∧ t.lights = s.lights ∧ KeepsBase s t) ∧
   (∀ s : State, s.inert = false → s.intervalUpDue = true → s.house.phase = .interval → s.house.countdown = 0 →
     ∃ t, exec .intervalCountdownExpiry s = .next t ∧ t.intervalUpDue = false ∧ KeepsLinks s t ∧
       t = { s with intervalUpDue := false, links := t.links } ∧
       t.links.panel = s.links.panel ∧ t.links.console = s.links.console ∧
       ∀ q : Port, q = .prompt ∨ q = .house →
         Reaches q (.intervalUp s.house.actNumber s.house.anchors.intervalEnd) s t ∧
         ((s.links.get q).present = true → ((s.links.get q).tx.filter TxFrame.isNotice).length < 20 →
           t.links.get q = { s.links.get q with
             tx := (s.links.get q).tx ++ [.notice (.intervalUp s.house.actNumber s.house.anchors.intervalEnd)] })) ∧
   (∀ s : State, s.intervalUpDue = false → exec .intervalCountdownExpiry s = .next s)) ∧
  ((∀ s : State, s.house.phase ≠ .act →
     (takeable .prompt ⟨0x08, [0]⟩ s = true →
       exec (.endAct .prompt 0) s = .next (s.withReply .prompt 0x08 ⟨.refused, .refusal .wrongPhase⟩)) ∧
     (takeable .prompt ⟨0x08, [1]⟩ s = true →
       exec (.endAct .prompt 1) s = .next (s.withReply .prompt 0x08 ⟨.refused, .refusal .wrongPhase⟩))) ∧
   (∀ (s : State) (m : Byte), takeable .prompt ⟨0x10, [m]⟩ s = true → s.house.phase ≠ .interval →
     exec (.extendInterval .prompt m) s = .next (s.withReply .prompt 0x10 ⟨.refused, .refusal .wrongPhase⟩)))

/-- R13, R15, R33, R127: SHOW STOP makes the stop record, starts the show-stop preset and ends every delay; RESUME
returns to its origin, or is refused. -/
def Obligations.ShowStopAndResume : Prop :=
  (∀ s : State, takeable .prompt ⟨0x09, []⟩ s = true →
     (s.house.phase = .houseOpen ∨ s.house.phase = .act ∨ s.house.phase = .interval →
       NoneDelayed s ∨ s.house.showMode = false →
       ∃ t, exec (.showStop .prompt) s = .next t ∧ AnsweredWith .prompt 0x09 (done .empty) s t ∧
         t.house = { s.house with
           phase := .stopped, stop := some ⟨s.house.phase, .desk⟩, showMode := false } ∧
         t.fire = s.fire ∧ PhaseHandedOn s t ∧ t.lights.authority = .house ∧
         (s.lights.presets[(7 : Fin 8)].inUse = true → ∀ i : Fin 48, s.lights.circuits[i].fadeBegan s.clock
           s.lights.presets[(7 : Fin 8)].slot (s.lights.slotDuration s.lights.presets[(7 : Fin 8)].slot)
           s.lights.presets[(7 : Fin 8)].levels[i] t.lights.circuits[i]) ∧
         (s.lights.presets[(7 : Fin 8)].inUse = false → t.lights.circuits = s.lights.circuits)) ∧
     (s.house.phase = .houseOpen ∨ s.house.phase = .act ∨ s.house.phase = .interval → s.house.showMode = true →
       ∀ z : ZoneId, s.fire.zones[z].state = .delayed →
       ∃ t, exec (.showStop .prompt) s = .next t ∧ AnsweredWith .prompt 0x09 (done .empty) s t ∧
         t.house.phase = .stopped ∧ t.house.stop.map (·.origin) = some s.house.phase ∧ t.house.showMode = false ∧
         Promoted z s t ∧ t.fire.alarmList = s.fire.alarmList ++ s.alarming) ∧
     (s.house.phase ≠ .houseOpen → s.house.phase ≠ .act → s.house.phase ≠ .interval →
       exec (.showStop .prompt) s = .next (s.withReply .prompt 0x09 ⟨.refused, .refusal .wrongPhase⟩))) ∧
  (∀ (s : State) (origin : Phase) (cause : StopCause), takeable .prompt ⟨0x0A, []⟩ s = true →
     s.house.phase = .stopped → s.house.stop = some ⟨origin, cause⟩ → s.fire.condition = .quiet →
     (origin = .act → s.house.clearance = .given → s.curtain.state = .stowed → NoneDelayed s →
       ∃ t, exec (.resume .prompt) s = .next t ∧ AnsweredWith .prompt 0x0A (done .empty) s t ∧
         t.house = { s.house with phase := .act, stop := none, clearance := .withheld } ∧
         t.fire = s.fire ∧ PhaseHandedOn s t) ∧
     (origin = .houseOpen ∨ origin = .interval →
       ∃ t, exec (.resume .prompt) s = .next t ∧ AnsweredWith .prompt 0x0A (done .empty) s t ∧
         t.house = { s.house with phase := origin, stop := none } ∧ t.fire = s.fire ∧ PhaseHandedOn s t)) ∧
  (∀ s : State, takeable .prompt ⟨0x0A, []⟩ s = true →
     (s.house.phase ≠ .stopped →
       exec (.resume .prompt) s = .next (s.withReply .prompt 0x0A ⟨.refused, .refusal .wrongPhase⟩)) ∧
     (∀ (origin : Phase) (cause : StopCause), s.house.phase = .stopped → s.house.stop = some ⟨origin, cause⟩ →
       origin = .houseOpen ∨ origin = .interval → s.fire.condition ≠ .quiet →
       exec (.resume .prompt) s = .next (s.withReply .prompt 0x0A ⟨.refused, .interlock [.fireNotQuiet]⟩)))

/-- R16: END PERFORMANCE. -/
def Obligations.EndPerformanceEmptiesTheHouse : Prop :=
  ∀ s : State, takeable .prompt ⟨0x0B, []⟩ s = true →
    (s.house.phase = .stopped →
      ∃ t, exec (.endPerformance .prompt) s = .next t ∧ AnsweredWith .prompt 0x0B (done .empty) s t ∧
        t.house = { s.house with
          phase := .emptying, stop := none, countdown := 0
          anchors := { s.house.anchors with curtainDown := some s.clock } } ∧
        t.fire = s.fire ∧ PhaseHandedOn s t) ∧
    (s.house.phase ≠ .stopped →
      exec (.endPerformance .prompt) s = .next (s.withReply .prompt 0x0B ⟨.refused, .refusal .wrongPhase⟩))

/-- R5: the rows of GIVE CLEARANCE and WITHDRAW CLEARANCE. -/
def Obligations.ClearanceIsGivenAndWithdrawn : Prop :=
  ∀ s : State,
    (takeable .house ⟨0x0C, []⟩ s = true →
      (s.house.phase = .houseOpen ∨ s.house.phase = .interval ∨ s.house.phase = .stopped →
        ∃ t, exec (.giveClearance .house) s = .next t ∧ AnsweredWith .house 0x0C (done .empty) s t ∧
          t.house = { s.house with clearance := .given } ∧
          t.fire = s.fire ∧ t.curtain = s.curtain ∧ t.lights = s.lights ∧ t.calls = s.calls ∧ KeepsBase s t ∧
          (s.house.clearance = .given → t = s.withReply .house 0x0C (done .empty)) ∧
          (s.house.clearance = .withheld →
            ∀ q : Port, q = .prompt ∨ q = .house → Reaches q (.clearance .given .given) s t)) ∧
      (s.house.phase ≠ .houseOpen → s.house.phase ≠ .interval → s.house.phase ≠ .stopped →
        exec (.giveClearance .house) s = .next (s.withReply .house 0x0C ⟨.refused, .refusal .wrongPhase⟩))) ∧
    (takeable .house ⟨0x0D, []⟩ s = true →
      ∃ t, exec (.withdrawClearance .house) s = .next t ∧ AnsweredWith .house 0x0D (done .empty) s t ∧
        t.house = { s.house with clearance := .withheld } ∧
        t.fire = s.fire ∧ t.curtain = s.curtain ∧ t.lights = s.lights ∧ t.calls = s.calls ∧ KeepsBase s t ∧
        (s.house.clearance = .withheld → t = s.withReply .house 0x0D (done .empty)) ∧
        (s.house.clearance = .given →
          ∀ q : Port, q = .prompt ∨ q = .house → Reaches q (.clearance .withheld .withdrawn) s t))

/-- R3, R18, R19, R135, R136, R137, R138: PLANNED_UP is written and delayed, and what SET and MOVED make of the calls
that stand on it; GO ACT clears the interval anchors, and the calls timed from them wait again. -/
def Obligations.PlannedUpIsWritten : Prop :=
  (∀ (s : State) (n : Half), s.house.phase = .preset ∨ s.house.phase = .houseOpen ∨ s.house.phase = .stopped →
     (takeable .prompt ⟨0x0E, [n.extractLsb' 8 8, n.extractLsb' 0 8]⟩ s = true →
       ∀ v, v = min (s.clock + min 14400 n.toNat * 10) 4294967295 →
         ∃ t, exec (.setPlannedUp .prompt n) s = .next t ∧
         AnsweredWith .prompt 0x0E ⟨if n.toNat ≤ 14400 then .done else .clamped, .clockValue v⟩ s t ∧
         t.house = { s.house with anchors := { s.house.anchors with plannedUp := some v } } ∧
         t.fire = s.fire ∧ t.curtain = s.curtain ∧ t.lights = s.lights ∧ KeepsBase s t ∧
         PlannedUpHanded v s t) ∧
     (takeable .prompt ⟨0x0F, [n.extractLsb' 8 8, n.extractLsb' 0 8]⟩ s = true →
       (∀ old, s.house.anchors.plannedUp = some old →
         ∀ v, v = min (old + max 1 (min 3600 n.toNat) * 10) 4294967295 →
           ∃ t, exec (.delayUp .prompt n) s = .next t ∧
           AnsweredWith .prompt 0x0F
             ⟨if 1 ≤ n.toNat ∧ n.toNat ≤ 3600 then .done else .clamped, .clockValue v⟩ s t ∧
           t.house = { s.house with anchors := { s.house.anchors with plannedUp := some v } } ∧
           t.fire = s.fire ∧ t.curtain = s.curtain ∧ t.lights = s.lights ∧ KeepsBase s t ∧
           PlannedUpHanded v s t) ∧
       (s.house.anchors.plannedUp = none →
         exec (.delayUp .prompt n) s = .next (s.withReply .prompt 0x0F ⟨.refused, .refusal .notActive⟩)))) ∧
  (∀ (s : State) (n : Half), s.house.phase ≠ .preset → s.house.phase ≠ .houseOpen → s.house.phase ≠ .stopped →
     (takeable .prompt ⟨0x0E, [n.extractLsb' 8 8, n.extractLsb' 0 8]⟩ s = true →
       exec (.setPlannedUp .prompt n) s = .next (s.withReply .prompt 0x0E ⟨.refused, .refusal .wrongPhase⟩)) ∧
     (takeable .prompt ⟨0x0F, [n.extractLsb' 8 8, n.extractLsb' 0 8]⟩ s = true →
       exec (.delayUp .prompt n) s = .next (s.withReply .prompt 0x0F ⟨.refused, .refusal .wrongPhase⟩))) ∧
  (∀ s : State, takeable .prompt ⟨0x07, []⟩ s = true → s.house.phase = .interval → s.house.actNumber ≠ 0 →
     s.house.clearance = .given → s.fire.condition = .quiet → s.curtain.state = .stowed → NoneDelayed s →
       ∃ t, exec (.goAct .prompt) s = .next t ∧ (s.calls.lawful → ∀ (x : CallId) (a : Anchor), 2 ≤ x.val →
         a = .intervalStart ∨ a = .intervalEnd → s.house.anchors.get a ≠ none → s.calls.table[x].life = .timed →
         s.calls.table[x].basis = some .anchor → s.calls.table[x].anchor = some a →
         x ∈ t.calls.waiting ∧
           t.calls.table[x] = { s.calls.table[x] with life := .waiting, due := none, basis := none }))

/-- R22, R33: show mode turns on and off in ACT and INTERVAL alone; turning off with DELAYED zones ends every delay,
and an ACTIVE one reaches the ladder. -/
def Obligations.ShowModeIsSwitched : Prop :=
  (∀ s : State, s.house.phase = .act ∨ s.house.phase = .interval →
     (takeable .prompt ⟨0x11, []⟩ s = true →
       ∃ t, exec (.showModeOn .prompt) s = .next t ∧ AnsweredWith .prompt 0x11 (done .empty) s t ∧
         t.house = { s.house with showMode := true } ∧
         t.fire = s.fire ∧ t.curtain = s.curtain ∧ t.lights = s.lights ∧ t.calls = s.calls ∧ KeepsBase s t ∧
         (s.house.showMode = true → t = s.withReply .prompt 0x11 (done .empty)) ∧
         (s.house.showMode = false → ∀ q : Port, q = .prompt ∨ q = .house → Reaches q (.showMode true) s t)) ∧
     (takeable .prompt ⟨0x12, []⟩ s = true → NoneDelayed s ∨ s.house.showMode = false →
       ∃ t, exec (.showModeOff .prompt) s = .next t ∧ AnsweredWith .prompt 0x12 (done .empty) s t ∧
         t.house = { s.house with showMode := false } ∧
         t.fire = s.fire ∧ t.curtain = s.curtain ∧ t.lights = s.lights ∧ t.calls = s.calls ∧ KeepsBase s t ∧
         (s.house.showMode = false → t = s.withReply .prompt 0x12 (done .empty)) ∧
         (s.house.showMode = true → ∀ q : Port, q = .prompt ∨ q = .house → Reaches q (.showMode false) s t))) ∧
  (∀ (s : State) (p : Port) (z : ZoneId), p = .prompt → takeable p ⟨0x12, []⟩ s = true →
     s.house.phase = .act ∨ s.house.phase = .interval → s.house.showMode = true →
     s.fire.zones[z].state = .delayed →
       ∃ t, exec (.showModeOff p) s = .next t ∧ AnsweredWith p 0x12 (done .empty) s t ∧ t.house.showMode = false ∧
         (s.fire.zones[z].input = .active →
           t.fire.zones[z].state = .alarm ∧ t.fire.zones[z].alarmTime = some s.clock ∧ z ∈ t.fire.alarmList ∧
             t.fire.condition ≠ .quiet) ∧
         (s.fire.zones[z].input = .faulty → t.fire.zones[z].state = .fault)) ∧
  (∀ s : State, s.house.phase ≠ .act → s.house.phase ≠ .interval →
     (takeable .prompt ⟨0x11, []⟩ s = true →
       exec (.showModeOn .prompt) s = .next (s.withReply .prompt 0x11 ⟨.refused, .refusal .wrongPhase⟩)) ∧
     (takeable .prompt ⟨0x12, []⟩ s = true →
       exec (.showModeOff .prompt) s = .next (s.withReply .prompt 0x12 ⟨.refused, .refusal .wrongPhase⟩)))

/-! ## The Fire Monitor (chapters 02, 03) -/

/-- R14, R50, R51, R52, R57, R58, R59, R67, R118, R122, R162, R163: the three ways to evacuate the house without a
zone, what each block makes of it, and what the desks are told. That the FIRE CONDITION notice stands behind the
promoted zones’ ZONE CHANGE notices and carries the list after the promotion is the model’s reading (log 31). -/
def Obligations.EvacuationIsHandedToEveryBlock : Prop :=
  (∀ s : State,
     (takeable .house ⟨0x1A, []⟩ s = true → s.fire.condition ≠ .evacuate →
       ∃ t, exec (.evacuateNow .house) s = .next t ∧
         AnsweredWith .house 0x1A (done (.condition .evacuate)) s t ∧ Evacuated .houseDesk s t) ∧
     (takeable .panel ⟨0x15, []⟩ s = true → s.fire.condition ≠ .evacuate →
       ∃ t, exec (.panelEvacuate .panel) s = .next t ∧
         AnsweredWith .panel 0x15 (done (.condition .evacuate)) s t ∧ Evacuated .firePanel s t) ∧
     (s.inert = false → s.fire.condition = .alert → s.fire.investigation = some 0 →
       ∃ t, exec .investigationExpiry s = .next t ∧ KeepsLinks s t ∧ Evacuated .investigationExpired s t) ∧
     (takeable .house ⟨0x1A, []⟩ s = true → s.fire.condition = .evacuate →
       exec (.evacuateNow .house) s = .next (s.withReply .house 0x1A (done (.condition .evacuate))))) ∧
  (∀ s : State, takeable .house ⟨0x1A, []⟩ s = true → s.fire.condition ≠ .evacuate →
     ∃ t, exec (.evacuateNow .house) s = .next t ∧
       (NoneDelayed s ∨ s.house.showMode = false →
         t.fire.zones = s.fire.zones ∧ t.fire.alarmList = s.fire.alarmList) ∧
       (s.house.showMode = true → t.fire.alarmList = s.fire.alarmList ++ s.alarming ∧
         ∀ y : ZoneId, s.fire.zones[y].state = .delayed → Promoted y s t) ∧
       ∀ n, n = Notice.fireCondition ⟨.evacuate, s.fire.condition, .houseDesk, s.clock, t.fire.alarmList.length,
           t.fire.alarmList.head?, none, true⟩ →
         (∀ q : Port, q ≠ .panel → Reaches q n s t) ∧
         (∀ (q : Port) (y : ZoneId), q = .prompt ∨ q = .house → (s.links.get q).present = true →
           (t.links.get q).overrun = none → s.house.showMode = true → s.fire.zones[y].state = .delayed →
           s.fire.zones[y].input = .active → ToldBefore q (.zoneChange ⟨y, .delayed, .alarm, .active, .promotion,
             s.fire.zones[y].cls, s.fire.zones[y].area, s.fire.zones[y].suppressed, some s.clock, none,
             t.fire.alarmList.head? == some y⟩) n s t)) ∧
  (∀ s : State, takeable .house ⟨0x1A, []⟩ s = true → s.fire.condition ≠ .evacuate →
     ∃ t, exec (.evacuateNow .house) s = .next t ∧
       (s.calls.lawful → s.calls.chanA.state = .idle → (∃ z : Fin 12, s.calls.paging[z].evac = true) →
         t.calls.evacuation = .onChannel .a ∧ t.calls.chanA.state = .starting ∧ t.calls.chanA.call = some 0 ∧
           t.calls.chanA.live = s.calls.evacZones ∧ ∀ z : Fin 12, t.calls.paging[z].conn =
             if s.calls.paging[z].evac = true then some .a else none) ∧
       (s.calls.lawful → s.calls.staffAlert ≠ .notRunning → t.calls.staffAlert = .notRunning ∧
         t.calls.table[(1 : CallId)].life = .finished ∧
         t.calls.table[(1 : CallId)].outcome = some .preEmpted) ∧
       (s.calls.lawful → ∀ (ch : Channel) (x : CallId), 2 ≤ x.val → (s.calls.chan ch).call = some x →
         t.calls.finishedAs x s.calls.table[x].creator .preEmpted s.clock) ∧
       ∀ q : Port, q = .prompt ∨ q = .house → s.calls.lawful →
         s.calls.chanA.state = .faulted ∧ s.calls.chanB.state = .faulted ∨
           (∀ z : Fin 12, s.calls.paging[z].evac = false) →
         Reaches q (.evacuationUnannounced t.calls.chanA.fault t.calls.chanB.fault
           ((List.finRange 12).filter fun z => s.calls.paging[z].evac).length) s t)

/-- R53, R54, R60, R123, R140, R161, R163: STAND DOWN from ALERT and RESTORE from EVACUATE, what the lights and the
calls make of it, and what refuses them. -/
def Obligations.ReturnToQuiet : Prop :=
  ∀ (s : State) (c : Condition) (cause : FireCause) (kind : Byte) (i : Instr),
    (c = .alert ∧ cause = .standDown ∧ kind = 0x1B ∧ i = .standDown .house) ∨
      (c = .evacuate ∧ cause = .restore ∧ kind = 0x1C ∧ i = .restore .house) →
    takeable .house ⟨kind, []⟩ s = true →
    (s.fire.condition = c → s.fire.alarmList = [] → NoneDelayed s →
      ∃ t, exec i s = .next t ∧ AnsweredWith .house kind (done .empty) s t ∧
        t.fire = { s.fire with
          condition := .quiet, previous := some c, cause := some cause, enteredAt := s.clock,
          investigation := none, demand := false } ∧
        t.house = s.house ∧ t.curtain.state = s.curtain.state ∧ t.curtain.fireDemand = false ∧
        t.lights.fireSeen = .quiet ∧ t.lights.authority = s.lights.authority ∧
        t.calls.fireSeen = .quiet ∧ t.calls.arbiterFire = .quiet ∧ KeepsBase s t ∧
        (s.lights.fireSeen = .evacuate → s.lights.panic = false → ∀ i : Fin 48,
          Circuit.fadeBegan s.clock s.params.restoreSlot (s.lights.slotDuration s.params.restoreSlot) 255
            { s.lights.circuits[i] with base := 255, fade := none } t.lights.circuits[i]) ∧
        (s.lights.fireSeen ≠ .evacuate ∨ s.lights.panic = true → t.lights.circuits = s.lights.circuits) ∧
        (s.calls.lawful → t.calls.evacuation = .notRunning ∧ t.calls.staffAlert = .notRunning ∧
          (s.calls.evacuation ≠ .notRunning → t.calls.table[(0 : CallId)].life = .finished ∧
            t.calls.table[(0 : CallId)].outcome = some .cancelled) ∧
          (s.calls.staffAlert ≠ .notRunning → t.calls.table[(1 : CallId)].life = .finished ∧
            t.calls.table[(1 : CallId)].outcome = some .cancelled)) ∧
        (s.calls.lawful → s.calls.fireSeen = .evacuate → ∀ (x : CallId) (due : Nat),
          x ∈ s.calls.timetable.takeWhile (fun i => (s.calls.table[i].due).any (· ≤ s.clock)) →
          s.calls.table[x].due = some due → x ∉ t.calls.timetable ∧
            (0 < s.calls.table[x].lifetime → due + s.calls.table[x].lifetime < s.clock →
              t.calls.finishedAs x s.calls.table[x].creator .expired s.clock) ∧
            (s.calls.table[x].lifetime = 0 ∨ s.clock ≤ due + s.calls.table[x].lifetime →
              s.calls.chanA.state = .faulted → s.calls.chanB.state = .faulted →
              s.calls.audible s.calls.table[x].zones →
              x ∈ t.calls.ready ∧ t.calls.table[x].life = .ready ∧ t.calls.table[x].entry = some s.clock))) ∧
    (s.fire.condition = c → s.fire.alarmList ≠ [] ∨ ¬ NoneDelayed s →
      exec i s = .next (s.withReply .house kind ⟨.refused, .alarmPresent s.fire.alarmList.length
        (s.fire.zones.toList.filter fun z => z.state == .delayed).length⟩)) ∧
    (s.fire.condition = .quiet → exec i s = .next (s.withReply .house kind (done .empty))) ∧
    (s.fire.condition ≠ .quiet → s.fire.condition ≠ c →
      exec i s = .next (s.withReply .house kind ⟨.refused, .refusal .notActive⟩))

/-- R28, R29, R30, R34, R38: what a report records, and one arrival at a panel zone by the state of the zone. -/
def Obligations.ZoneReportsReachTheirZones : Prop :=
  ((∀ (s : State) (ps : List (Byte × Byte)), takeable .panel ⟨0x13, BitVec.ofNat 8 ps.length :: pairBytes ps⟩ s = true →
     1 ≤ ps.length → ps.length ≤ 59 → (∀ q ∈ ps, 8 ≤ q.1.toNat ∧ q.1.toNat ≤ 31 ∧ q.2.toNat ≤ 2) →
       ∃ t, exec (.zoneReport .panel ps) s = .next t ∧ AnsweredWith .panel 0x13 (done .empty) s t ∧
         ∀ (z : ZoneId) (q : Byte × Byte), ps.reverse.find? (fun x => x.1.toNat == z.val) = some q →
             t.fire.zones[z].input = if q.2 = 0 then .quiet else if q.2 = 1 then .active else .faulty) ∧
   (∀ (s : State) (ps : List (Byte × Byte)), takeable .panel ⟨0x13, BitVec.ofNat 8 ps.length :: pairBytes ps⟩ s = true →
     1 ≤ ps.length → ps.length ≤ 59 → (∀ q ∈ ps, q.2.toNat ≤ 2) → (∃ q ∈ ps, q.1.toNat < 8 ∨ 32 ≤ q.1.toNat) →
       exec (.zoneReport .panel ps) s = .next (s.withReply .panel 0x13 ⟨.refused, .refusal .badNumber⟩))) ∧
  (∀ (s : State) (z : ZoneId) (b : Byte), 8 ≤ z.val → b.toNat = z.val →
     (takeable .panel ⟨0x13, [1, b, 1]⟩ s = true → s.fire.zones[z].state = .normal ∨ s.fire.zones[z].state = .fault →
       ∃ t, exec (.zoneReport .panel [(b, 1)]) s = .next t ∧
         t.fire.zones[z] = { s.fire.zones[z] with
           state := .alarm, input := .active, alarmTime := some s.clock, delayRemaining := none,
           pendingPrompt := true, pendingHouse := true } ∧
         t.fire.alarmList.take (s.fire.alarmList.length + 1) = s.fire.alarmList ++ [z]) ∧
     (takeable .panel ⟨0x13, [1, b, 2]⟩ s = true → s.fire.zones[z].state = .normal →
       ∃ t, exec (.zoneReport .panel [(b, 2)]) s = .next t ∧
         t.fire = { s.fire with zones := s.fire.zones.set z { s.fire.zones[z] with
           state := .fault, input := .faulty, delayRemaining := none, pendingPrompt := true, pendingHouse := true } } ∧
         KeepsOtherBlocks s t) ∧
     (takeable .panel ⟨0x13, [1, b, 0]⟩ s = true → s.fire.zones[z].state = .fault →
       ∃ t, exec (.zoneReport .panel [(b, 0)]) s = .next t ∧
         t.fire = { s.fire with zones := s.fire.zones.set z { s.fire.zones[z] with state := .normal, input := .quiet } } ∧
         KeepsOtherBlocks s t) ∧
     (∀ (st : Byte) (r : Reading), st = 0 ∧ r = .quiet ∨ st = 1 ∧ r = .active ∨ st = 2 ∧ r = .faulty →
       takeable .panel ⟨0x13, [1, b, st]⟩ s = true → s.fire.zones[z].state = .alarm →
         exec (.zoneReport .panel [(b, st)]) s = .next (State.withReply .panel 0x13 (done .empty)
           { s with fire := { s.fire with zones := s.fire.zones.set z { s.fire.zones[z] with input := r } } })) ∧
     (takeable .panel ⟨0x13, [1, b, 1]⟩ s = true → s.fire.zones[z].state = .isolated →
       exec (.zoneReport .panel [(b, 1)]) s = .next (State.withReply .panel 0x13 (done .empty)
         { s with fire := { s.fire with zones := s.fire.zones.set z { s.fire.zones[z] with
           input := .active, activeWhileIsolated := true } } })))

/-- R47, R49, R57, R160: where one zone that enters ALARM takes the condition, by its class and the condition before,
and the staff alert that ALERT begins. -/
def Obligations.LadderOfOneAlarm : Prop :=
  ∀ (s : State) (z : ZoneId) (b : Byte), 8 ≤ z.val → b.toNat = z.val →
    takeable .panel ⟨0x13, [1, b, 1]⟩ s = true → s.fire.zones[z].state = .normal ∨ s.fire.zones[z].state = .fault →
    NoneDelayed s →
      ∃ t, exec (.zoneReport .panel [(b, 1)]) s = .next t ∧
        (s.fire.condition = .quiet → s.fire.alarmList = [] → s.fire.zones[z].cls = .detector →
          t.fire.condition = .alert ∧ t.fire.previous = some .quiet ∧ t.fire.cause = some .detectorAlarm ∧
            t.fire.enteredAt = s.clock ∧ t.fire.investigation = some s.params.investigation ∧
            t.fire.demand = s.fire.zones[z].curtainRelease ∧ t.fire.alarmList = [z] ∧ t.house = s.house ∧
            t.lights.fireSeen = .alert ∧ t.calls.fireSeen = .alert ∧ t.calls.arbiterFire = .alert ∧
            KeepsBase s t ∧ t.calls.staffAlert ≠ .notRunning ∧
            (s.calls.chanA.state = .idle → (∃ y : Fin 12, s.calls.paging[y].staff = true) →
              t.calls.staffAlert = .onChannel .a ∧ t.calls.chanA.state = .starting ∧
              t.calls.chanA.call = some 1 ∧ t.calls.chanA.live = s.calls.staffZones) ∧
            (s.calls.lawful → ∀ (ch : Channel) (x : CallId), 2 ≤ x.val → (s.calls.chan ch).call = some x →
              (s.calls.chan ch).live &&& s.calls.staffZones ≠ 0 →
              t.calls.finishedAs x s.calls.table[x].creator .preEmpted s.clock)) ∧
        (s.fire.condition = .quiet → s.fire.alarmList ≠ [] → s.fire.zones[z].cls = .detector →
          Evacuated .coincidentAlarms s t) ∧
        (s.fire.condition = .alert → s.fire.zones[z].cls = .detector → Evacuated .furtherAlarm s t) ∧
        (s.fire.condition ≠ .evacuate → s.fire.zones[z].cls = .callPoint → Evacuated .callPoint s t) ∧
        (s.fire.condition ≠ .evacuate → s.fire.zones[z].cls = .suppression → Evacuated .suppression s t) ∧
        (s.fire.condition = .evacuate →
          t.fire.condition = .evacuate ∧ t.fire.cause = s.fire.cause ∧ t.fire.enteredAt = s.fire.enteredAt)

/-- R34, R35, R36: the resets, each of its own kind of zone; a zone of the other kind, and a number of 32 or more, is
refused with BAD_NUMBER. -/
def Obligations.ResetOfAZone : Prop :=
  (∀ (s : State) (z : ZoneId) (b : Byte) (p : Port) (kind : Byte) (i : Instr), b.toNat = z.val →
     (p = .house ∧ kind = 0x16 ∧ i = .resetZone .house b ∧ z.val < 8) ∨
       (p = .panel ∧ kind = 0x14 ∧ i = .panelResetZone .panel b ∧ 8 ≤ z.val) →
     takeable p ⟨kind, [b]⟩ s = true →
     (s.fire.zones[z].state = .alarm → s.fire.zones[z].input ≠ .active →
       ∃ t, exec i s = .next t ∧ AnsweredWith p kind (done .empty) s t ∧
         t.fire.alarmList = s.fire.alarmList.erase z ∧
         t.fire.zones = s.fire.zones.set z (if s.fire.zones[z].input = .quiet then
             { s.fire.zones[z] with state := .normal, alarmTime := none }
           else { s.fire.zones[z] with
             state := .fault, alarmTime := none, pendingPrompt := true, pendingHouse := true }) ∧
         t.fire.condition = s.fire.condition ∧ t.fire.cause = s.fire.cause ∧
         t.fire.enteredAt = s.fire.enteredAt ∧ t.fire.investigation = s.fire.investigation ∧
         (t.fire.demand = true ↔ s.fire.condition = .evacuate ∨
           s.fire.condition = .alert ∧ ∃ x ∈ s.fire.alarmList.erase z, s.fire.zones[x].curtainRelease = true) ∧
         t.lights = s.lights ∧ t.calls = s.calls ∧ KeepsBase s t ∧
         (s.handedOn → t.house = s.house ∧ t.curtain.state = s.curtain.state)) ∧
     (s.fire.zones[z].state = .alarm → s.fire.zones[z].input = .active →
       exec i s = .next (s.withReply p kind ⟨.refused, .refusal .stillActive⟩)) ∧
     (s.fire.zones[z].state ≠ .alarm → exec i s = .next (s.withReply p kind (done .empty)))) ∧
  (∀ (s : State) (b : Byte),
     (takeable .house ⟨0x16, [b]⟩ s = true → 8 ≤ b.toNat → exec (.resetZone .house b) s =
       .next (s.withReply .house 0x16 ⟨.refused, .refusal .badNumber⟩)) ∧
     (takeable .panel ⟨0x14, [b]⟩ s = true → b.toNat < 8 ∨ 32 ≤ b.toNat → exec (.panelResetZone .panel b) s =
       .next (s.withReply .panel 0x14 ⟨.refused, .refusal .badNumber⟩)))

/-- R37, R38, R39: ISOLATE ZONE by the state of the zone; RESTORE ZONE takes the recorded input as an arrival; either
on a zone of 32 or more is refused with BAD_NUMBER. -/
def Obligations.ZonesAreIsolatedAndRestored : Prop :=
  (∀ (s : State) (z : ZoneId) (b : Byte), b.toNat = z.val → takeable .house ⟨0x17, [b]⟩ s = true →
     (s.fire.zones[z].state = .normal ∨ s.fire.zones[z].state = .fault →
       ∃ t, exec (.isolateZone .house b) s = .next t ∧ AnsweredWith .house 0x17 (done .empty) s t ∧
         t.fire = { s.fire with zones := s.fire.zones.set z { s.fire.zones[z] with
           state := .isolated, activeWhileIsolated := decide (s.fire.zones[z].input = .active) } } ∧
         KeepsOtherBlocks s t ∧
         ∀ q : Port, q = .prompt ∨ q = .house ∨ (q = .panel ∧ z.val < 8) →
           Reaches q (.zoneChange ⟨z, s.fire.zones[z].state, .isolated, s.fire.zones[z].input, .isolate,
             s.fire.zones[z].cls, s.fire.zones[z].area, s.fire.zones[z].suppressed, none, none,
             s.fire.alarmList.head? == some z⟩) s t) ∧
     (s.fire.zones[z].state = .alarm ∨ s.fire.zones[z].state = .delayed →
       exec (.isolateZone .house b) s = .next (s.withReply .house 0x17 ⟨.refused, .refusal .inAlarm⟩)) ∧
     (s.fire.zones[z].state = .isolated →
       exec (.isolateZone .house b) s = .next (s.withReply .house 0x17 (done .empty)))) ∧
  (∀ (s : State) (z : ZoneId) (b : Byte), b.toNat = z.val → takeable .house ⟨0x18, [b]⟩ s = true →
     (s.fire.zones[z].state ≠ .isolated →
       exec (.restoreZone .house b) s = .next (s.withReply .house 0x18 (done .empty))) ∧
     (s.fire.zones[z].state = .isolated →
       ∃ t, exec (.restoreZone .house b) s = .next t ∧ AnsweredWith .house 0x18 (done .empty) s t ∧
         t.fire.zones[z].activeWhileIsolated = false ∧ t.fire.zones[z].input = s.fire.zones[z].input ∧
         (s.fire.zones[z].input = .quiet →
           t.fire = { s.fire with zones := s.fire.zones.set z { s.fire.zones[z] with
             state := .normal, activeWhileIsolated := false } } ∧ KeepsOtherBlocks s t) ∧
         (s.fire.zones[z].input = .faulty →
           t.fire = { s.fire with zones := s.fire.zones.set z { s.fire.zones[z] with
             state := .fault, activeWhileIsolated := false, delayRemaining := none, pendingPrompt := true,
             pendingHouse := true } } ∧ KeepsOtherBlocks s t) ∧
         (s.fire.zones[z].input = .active →
           if z.val < 8 ∧ s.fire.zones[z].cls = .detector ∧ s.fire.zones[z].delayEligible = true ∧
               s.house.showMode = true ∧ s.fire.alarmList = [] ∧ 0 < s.params.showDelay then
             t.fire = { s.fire with zones := s.fire.zones.set z { s.fire.zones[z] with
               state := .delayed, activeWhileIsolated := false, delayRemaining := some s.params.showDelay,
               pendingPrompt := true, pendingHouse := true } } ∧ KeepsOtherBlocks s t
           else
             t.fire.zones[z].state = .alarm ∧ t.fire.zones[z].alarmTime = some s.clock ∧ z ∈ t.fire.alarmList))) ∧
  (∀ (s : State) (b : Byte), 32 ≤ b.toNat →
     (takeable .house ⟨0x17, [b]⟩ s = true → exec (.isolateZone .house b) s =
       .next (s.withReply .house 0x17 ⟨.refused, .refusal .badNumber⟩)) ∧
     (takeable .house ⟨0x18, [b]⟩ s = true → exec (.restoreZone .house b) s =
       .next (s.withReply .house 0x18 ⟨.refused, .refusal .badNumber⟩)))

/-- R41: ACKNOWLEDGE ZONES clears the flags of the requesting desk alone. -/
def Obligations.AcknowledgeClearsOneDesksFlags : Prop :=
  (∀ s : State,
     (∀ (z : ZoneId) (b : Byte), b.toNat = z.val →
       (takeable .prompt ⟨0x19, [b]⟩ s = true →
         exec (.acknowledgeZones .prompt b) s = .next (State.withReply .prompt 0x19
           (done (.number (if s.fire.zones[z].pendingPrompt = true then 1 else 0)))
           { s with fire := { s.fire with
             zones := s.fire.zones.set z { s.fire.zones[z] with pendingPrompt := false } } })) ∧
       (takeable .house ⟨0x19, [b]⟩ s = true →
         exec (.acknowledgeZones .house b) s = .next (State.withReply .house 0x19
           (done (.number (if s.fire.zones[z].pendingHouse = true then 1 else 0)))
           { s with fire := { s.fire with
             zones := s.fire.zones.set z { s.fire.zones[z] with pendingHouse := false } } }))) ∧
     (takeable .prompt ⟨0x19, [0xFF]⟩ s = true →
       ∃ t, exec (.acknowledgeZones .prompt 0xFF) s = .next t ∧
         (∀ z : ZoneId, t.fire.zones[z] = { s.fire.zones[z] with pendingPrompt := false }) ∧
         t = State.withReply .prompt 0x19
           (done (.number (s.fire.zones.toList.filter fun r => r.pendingPrompt).length))
           { s with fire := { s.fire with zones := t.fire.zones } }) ∧
     (takeable .house ⟨0x19, [0xFF]⟩ s = true →
       ∃ t, exec (.acknowledgeZones .house 0xFF) s = .next t ∧
         (∀ z : ZoneId, t.fire.zones[z] = { s.fire.zones[z] with pendingHouse := false }) ∧
         t = State.withReply .house 0x19
           (done (.number (s.fire.zones.toList.filter fun r => r.pendingHouse).length))
           { s with fire := { s.fire with zones := t.fire.zones } })) ∧
  (∀ (s : State) (b : Byte), 32 ≤ b.toNat → b ≠ 0xFF → ∀ p : Port, p = .prompt ∨ p = .house →
     takeable p ⟨0x19, [b]⟩ s = true →
       exec (.acknowledgeZones p b) s = .next (s.withReply p 0x19 ⟨.refused, .refusal .badNumber⟩))

/-- R29, R31, R32, R33, R36, R47: an ACTIVE arrival at a local zone meets the delay conditions, a QUIET one ends the
delay and is counted, the delay runs out, and a zone that enters ALARM takes every DELAYED zone with it as one batch.
-/
def Obligations.ShowDelayStartsAndRunsOut : Prop :=
  (∀ (s : State) (l : Line) (z : ZoneId), s.inert = false → l.val < 8 → z.val = l.val →
     (s.lines[l].candidate = some (.active, 0) → s.fire.zones[z].state = .normal ∨ s.fire.zones[z].state = .fault →
       ∃ t, exec (.settleExpiry l) s = .next t ∧
         (s.fire.zones[z].cls = .detector → s.fire.zones[z].delayEligible = true → s.house.showMode = true →
           s.fire.alarmList = [] → 0 < s.params.showDelay →
           t.fire = { s.fire with zones := s.fire.zones.set z { s.fire.zones[z] with
             state := .delayed, input := .active, delayRemaining := some s.params.showDelay, pendingPrompt := true,
             pendingHouse := true } } ∧
           t.house = s.house ∧ t.curtain = s.curtain ∧ t.lights = s.lights ∧ t.calls = s.calls) ∧
         (s.fire.zones[z].cls ≠ .detector ∨ s.fire.zones[z].delayEligible = false ∨ s.house.showMode = false ∨
             s.fire.alarmList ≠ [] ∨ s.params.showDelay = 0 →
           t.fire.zones[z].state = .alarm ∧ t.fire.zones[z].alarmTime = some s.clock ∧
             t.fire.alarmList.take (s.fire.alarmList.length + 1) = s.fire.alarmList ++ [z] ∧
             t.fire.condition ≠ .quiet)) ∧
     (s.lines[l].candidate = some (.quiet, 0) → s.fire.zones[z].state = .delayed →
       ∃ t, exec (.settleExpiry l) s = .next t ∧
         t.fire = { s.fire with zones := s.fire.zones.set z { s.fire.zones[z] with
           state := .normal, input := .quiet, delayRemaining := none
           suppressed := min 255 (s.fire.zones[z].suppressed + 1) } } ∧
         t.house = s.house ∧ t.curtain = s.curtain ∧ t.lights = s.lights ∧ t.calls = s.calls)) ∧
  (∀ (s : State) (z : ZoneId), s.inert = false → s.fire.zones[z].state = .delayed →
     s.fire.zones[z].delayRemaining = some 0 →
     (s.fire.zones[z].input = .active →
       ∃ t, exec (.showDelayExpiry z) s = .next t ∧ KeepsLinks s t ∧ t.fire.zones[z].state = .alarm ∧
         t.fire.zones[z].alarmTime = some s.clock ∧ t.fire.zones[z].delayRemaining = none ∧
         t.fire.alarmList.take (s.fire.alarmList.length + 1) = s.fire.alarmList ++ [z] ∧
         t.fire.condition ≠ .quiet) ∧
     (s.fire.zones[z].input = .faulty →
       ∃ t, exec (.showDelayExpiry z) s = .next t ∧ KeepsLinks s t ∧
         t.fire = { s.fire with zones := s.fire.zones.set z { s.fire.zones[z] with
           state := .fault, delayRemaining := none, pendingPrompt := true, pendingHouse := true } } ∧
         KeepsOtherBlocks s t)) ∧
  ((∀ (s : State) (z : ZoneId), s.inert = false → s.fire.zones[z].state = .delayed →
      s.fire.zones[z].delayRemaining = some 0 → s.fire.zones[z].input = .active →
      ∃ t, exec (.showDelayExpiry z) s = .next t ∧ Batch z s t ∧
        (s.fire.condition = .quiet → s.fire.alarmList = [] → s.alarming.filter (· ≠ z) ≠ [] →
          (∀ y ∈ s.alarming, s.fire.zones[y].cls = .detector) → Evacuated .coincidentAlarms s t)) ∧
   (∀ (s : State) (z : ZoneId) (b : Byte), 8 ≤ z.val → b.toNat = z.val → takeable .panel ⟨0x13, [1, b, 1]⟩ s = true →
      s.fire.zones[z].state = .normal ∨ s.fire.zones[z].state = .fault →
      ∃ t, exec (.zoneReport .panel [(b, 1)]) s = .next t ∧ Batch z s t ∧
        (s.fire.condition = .quiet → s.fire.alarmList = [] → s.alarming ≠ [] → s.fire.zones[z].cls = .detector →
          (∀ y ∈ s.alarming, s.fire.zones[y].cls = .detector) → Evacuated .coincidentAlarms s t)))

/-! ## The curtain (chapters 04, 05) -/

/-- R6, R66, R68, R69, R70, R71, R78, R80, R88: DROP CURTAIN, DEMONSTRATE CURTAIN with its interlock and its phases,
both onto an open and onto a closed bottom limit, and RESET MANUAL RELEASE by the latch and the button. -/
def Obligations.CurtainReleaseRequests : Prop :=
  (∀ s : State, ∀ p, p = (s.pins.encoder.toNat - s.curtain.homeOffset) * 1000 / s.params.curtain.countsPerMetre →
     takeable .prompt ⟨0x1D, []⟩ s = true →
     (s.curtain.state = .stowed ∨ s.curtain.state = .raising ∨ s.curtain.state = .halted →
       s.settled bottomLine ≠ some .active →
       ∃ t, exec (.dropCurtain .prompt) s = .next t ∧
         AnsweredWith .prompt 0x1D (done (.curtainState .descending)) s t ∧ ∃ d, t.curtain.descent = some d ∧
         t.curtain = { s.curtain with
           state := .descending, enteredAt := s.clock, reason := .demand
           causes := { s.curtain.causes with drop := true }
           raise := none, lowCount := some 0, descent := some d, samplesDue := 0 } ∧
         d.startTime = s.clock ∧ d.startPosition = p ∧ d.p0 = min p s.params.curtain.travel ∧
         d.s0 = min d.p0 s.params.curtain.slowHeight ∧ d.travel = s.params.curtain.travel ∧
         d.slowHeight = s.params.curtain.slowHeight ∧ d.sample = 0 ∧ d.window = [p] ∧ d.retard = false ∧
         d.lagCount = 0 ∧ d.overspeedCount = 0 ∧ d.secondaryStart = none ∧
         t.curtainOutputs = ⟨false, false, false, false⟩ ∧
         t.house = s.house ∧ t.fire = s.fire ∧ t.lights = s.lights ∧ t.calls = s.calls ∧ KeepsBase s t ∧
         ∀ q : Port, q = .prompt ∨ q = .house →
           Reaches q (.curtain ⟨.descending, s.curtain.state, .demand, p, t.curtain.causes, s.curtain.faults⟩) s t) ∧
     (s.curtain.state = .stowed ∨ s.curtain.state = .raising ∨ s.curtain.state = .halted →
       s.settled bottomLine = some .active →
       ∃ t, exec (.dropCurtain .prompt) s = .next t ∧
         AnsweredWith .prompt 0x1D (done (.curtainState .landed)) s t ∧ LandedAtOnce p s t) ∧
     (s.curtain.state ≠ .stowed → s.curtain.state ≠ .raising → s.curtain.state ≠ .halted →
       exec (.dropCurtain .prompt) s = .next (State.withReply .prompt 0x1D (done (.curtainState s.curtain.state))
         { s with curtain := { s.curtain with causes := { s.curtain.causes with drop := true } } }))) ∧
  (∀ s : State, takeable .prompt ⟨0x1E, []⟩ s = true →
     (s.house.phase = .houseOpen ∨ s.house.phase = .interval → s.fire.condition = .quiet →
       s.curtain.state = .stowed → s.settled bottomLine ≠ some .active →
       ∃ t, exec (.demonstrateCurtain .prompt) s = .next t ∧ AnsweredWith .prompt 0x1E (done .empty) s t ∧
         t.curtain.state = .descending ∧ t.curtain.reason = .demand ∧ t.curtain.enteredAt = s.clock ∧
         t.curtain.causes = { s.curtain.causes with demonstration := true } ∧ t.curtain.lowCount = some 0 ∧
         t.curtain.descent.isSome = true ∧ t.curtain.faults = s.curtain.faults ∧ t.house = s.house ∧
         t.fire = s.fire ∧ t.lights = s.lights ∧ t.calls = s.calls ∧ KeepsBase s t) ∧
     (s.house.phase = .houseOpen ∨ s.house.phase = .interval → s.fire.condition = .quiet →
       s.curtain.state = .stowed → s.settled bottomLine = some .active →
       ∀ p, p = (s.pins.encoder.toNat - s.curtain.homeOffset) * 1000 / s.params.curtain.countsPerMetre →
       ∃ t, exec (.demonstrateCurtain .prompt) s = .next t ∧ AnsweredWith .prompt 0x1E (done .empty) s t ∧
         LandedAtOnce p s t ∧ t.house.demoMark = true) ∧
     (s.house.phase = .houseOpen ∨ s.house.phase = .interval →
       ∀ c, c = (if s.fire.condition ≠ .quiet then [Interlock.fireNotQuiet] else []) ++
           (if s.curtain.state ≠ .stowed then [.curtainNotStowed] else []) → c ≠ [] →
         exec (.demonstrateCurtain .prompt) s = .next (s.withReply .prompt 0x1E ⟨.refused, .interlock c⟩)) ∧
     (s.house.phase ≠ .houseOpen → s.house.phase ≠ .interval →
       exec (.demonstrateCurtain .prompt) s = .next (s.withReply .prompt 0x1E ⟨.refused, .refusal .wrongPhase⟩))) ∧
  (∀ s : State, takeable .prompt ⟨0x21, []⟩ s = true →
     (s.curtain.manual = true → s.settled manualLine ≠ some .active →
       exec (.resetManualRelease .prompt) s = .next (State.withReply .prompt 0x21 (done .empty)
         { s with curtain := { s.curtain with
           manual := false, causes := { s.curtain.causes with manual := false } } })) ∧
     (s.curtain.manual = true → s.settled manualLine = some .active →
       exec (.resetManualRelease .prompt) s = .next (s.withReply .prompt 0x21 ⟨.refused, .refusal .stillActive⟩)) ∧
     (s.curtain.manual = false →
       exec (.resetManualRelease .prompt) s = .next (s.withReply .prompt 0x21 (done .empty))))

/-- R72, R73, R74: RAISE HOLD by the curtain state; a raise halts by STOP RAISE and by the end of its lease, and by
neither in another state. -/
def Obligations.RaiseIsHeldAndHalted : Prop :=
  (∀ s : State, takeable .prompt ⟨0x1F, []⟩ s = true →
     (s.curtain.state = .landed ∨ s.curtain.state = .halted → s.curtain.fireDemand = false →
       s.curtain.hardLine = false → s.curtain.manual = false → s.fire.condition = .quiet →
       s.curtain.faults.jammed = none →
       ∃ t, exec (.raiseHold .prompt) s = .next t ∧ AnsweredWith .prompt 0x1F (done .empty) s t ∧
         t.curtain = { s.curtain with
           state := .raising, enteredAt := s.clock, reason := .raise
           causes := { s.curtain.causes with drop := false, demonstration := false, powerOn := false }
           raise := some ⟨min (s.clock + 5) 4294967295, 0,
             [(s.pins.encoder.toNat - s.curtain.homeOffset) * 1000 / s.params.curtain.countsPerMetre]⟩
           samplesDue := 0, descent := s.curtain.descent.map fun d => { d with retard := false } } ∧
         (s.inert = false → t.curtainOutputs = ⟨true, true, false, false⟩) ∧
         t.house = s.house ∧ t.fire = s.fire ∧ t.lights = s.lights ∧ t.calls = s.calls ∧ KeepsBase s t) ∧
     (s.curtain.state = .landed ∨ s.curtain.state = .halted ∨ s.curtain.state = .jammed →
       ∀ c, c = (if s.fire.condition ≠ .quiet then [Interlock.fireNotQuiet] else []) ++
           (if s.curtain.fireDemand = true ∨ s.curtain.hardLine = true ∨ s.curtain.manual = true then
             [.releaseDemand] else []) ++
           (if s.curtain.state = .jammed ∨ s.curtain.faults.jammed ≠ none then [.curtainJammed] else []) → c ≠ [] →
         exec (.raiseHold .prompt) s = .next (s.withReply .prompt 0x1F ⟨.refused, .interlock c⟩)) ∧
     (s.curtain.state = .raising →
       exec (.raiseHold .prompt) s = .next (State.withReply .prompt 0x1F (done .empty)
         { s with curtain := { s.curtain with
           raise := s.curtain.raise.map fun r => { r with leaseExpiry := min (s.clock + 5) 4294967295 } } })) ∧
     (s.curtain.state = .stowed → exec (.raiseHold .prompt) s = .next (s.withReply .prompt 0x1F (done .empty))) ∧
     (s.curtain.state = .descending ∨ s.curtain.state = .secondary →
       exec (.raiseHold .prompt) s = .next (s.withReply .prompt 0x1F ⟨.refused, .refusal .inMotion⟩))) ∧
  (∀ s : State,
     (takeable .prompt ⟨0x20, []⟩ s = true → s.curtain.state = .raising →
       ∃ t, exec (.stopRaise .prompt) s = .next t ∧ AnsweredWith .prompt 0x20 (done .empty) s t ∧
         t.curtain = { s.curtain with
           state := .halted, enteredAt := s.clock, reason := .stopRaise, raise := none, samplesDue := 0
           descent := s.curtain.descent.map fun d => { d with retard := false } } ∧
         t.house = s.house ∧ t.fire = s.fire ∧ t.lights = s.lights ∧ t.calls = s.calls ∧ KeepsBase s t) ∧
     (takeable .prompt ⟨0x20, []⟩ s = true → s.curtain.state ≠ .raising →
       exec (.stopRaise .prompt) s = .next (s.withReply .prompt 0x20 (done .empty))) ∧
     (∀ r, s.curtain.raise = some r → s.inert = false → s.curtain.state = .raising → r.leaseExpiry ≤ s.clock →
       ∃ t, exec .leaseExpiry s = .next t ∧ KeepsLinks s t ∧
         t.curtain = { s.curtain with
           state := .halted, enteredAt := s.clock, reason := .leaseExpired, raise := none, samplesDue := 0
           descent := s.curtain.descent.map fun d => { d with retard := false } } ∧
         t.house = s.house ∧ t.fire = s.fire ∧ t.lights = s.lights ∧ t.calls = s.calls ∧ KeepsBase s t) ∧
     (∀ r, s.curtain.raise = some r → s.clock < r.leaseExpiry → exec .leaseExpiry s = .next s) ∧
     (s.curtain.state ≠ .raising → exec .leaseExpiry s = .next s))

/-- R83: CLEAR CURTAIN FAULTS empties the fault set, JAMMED apart while the curtain is JAMMED. -/
def Obligations.ClearCurtainFaults : Prop :=
  ∀ s : State, takeable .prompt ⟨0x22, []⟩ s = true →
    ∀ n, n = ([s.curtain.faults.lag, s.curtain.faults.overspeed,
          if s.curtain.state = .jammed then none else s.curtain.faults.jammed,
          s.curtain.faults.raiseStall, s.curtain.faults.overTravel, s.curtain.faults.creep,
          s.curtain.faults.encoderDisagree, s.curtain.faults.limitSwitch].filter Option.isSome).length →
      ∃ t, exec (.clearCurtainFaults .prompt) s = .next t ∧ AnsweredWith .prompt 0x22 (done (.number n)) s t ∧
      (n = 0 → t = s.withReply .prompt 0x22 (done (.number 0))) ∧
      (n ≠ 0 →
        t.curtain = { s.curtain with faults := ⟨none, none,
          if s.curtain.state = .jammed then s.curtain.faults.jammed else none, none, none, none, none, none, none⟩ } ∧
        ∀ q : Port, q = .prompt ∨ q = .house →
          Reaches q (.curtainFault ⟨none, none, none, s.curtain.state,
            (s.pins.encoder.toNat - s.curtain.homeOffset) * 1000 / s.params.curtain.countsPerMetre,
            t.curtain.faults⟩) s t) ∧
      t.house = s.house ∧ t.fire = s.fire ∧ t.lights = s.lights ∧ t.calls = s.calls ∧ KeepsBase s t

/-- R63, R75, R76, R77: a raise sample records its position, or halts the raise with its fault; a sample in STOWED
halts the curtain with CREEP exactly when it has crept past the limit. -/
def Obligations.RaiseAndCreepSamples : Prop :=
  (∀ (s : State) (raw : BitVec 17), ∀ r, s.curtain.raise = some r →
     ∀ p, p = (raw.toNat - s.curtain.homeOffset) * 1000 / s.params.curtain.countsPerMetre →
     s.inert = false → s.curtain.state = .raising → 0 < s.curtain.samplesDue →
     (p < s.params.curtain.travel + 200 ∨ s.settled topLine = some .active →
       (r.sample + 1 < 20 ∨ ∀ before, r.positions[19]? = some before → before + s.params.curtain.stallDistance ≤ p) →
       exec (.raiseSample raw) s = .next { s with
         pins := { s.pins with encoder := raw }
         curtain := { s.curtain with
           raise := some ⟨r.leaseExpiry, r.sample + 1, (p :: r.positions).take 21⟩
           samplesDue := s.curtain.samplesDue - 1 } }) ∧
     (s.params.curtain.travel + 200 ≤ p → s.settled topLine ≠ some .active →
       ∃ t, exec (.raiseSample raw) s = .next t ∧ KeepsLinks s t ∧ t.curtain.state = .halted ∧
         t.curtain.reason = .overTravel ∧ t.curtain.raise = none ∧ t.curtain.causes = s.curtain.causes ∧
         t.curtain.faults = { s.curtain.faults with overTravel := some s.clock } ∧ t.house = s.house ∧
         t.fire = s.fire ∧ t.lights = s.lights ∧ t.calls = s.calls) ∧
     (p < s.params.curtain.travel + 200 → 20 ≤ r.sample + 1 →
       ∀ before, r.positions[19]? = some before → p < before + s.params.curtain.stallDistance →
       ∃ t, exec (.raiseSample raw) s = .next t ∧ KeepsLinks s t ∧ t.curtain.state = .halted ∧
         t.curtain.reason = .raiseStall ∧ t.curtain.raise = none ∧ t.curtain.causes = s.curtain.causes ∧
         t.curtain.faults = { s.curtain.faults with raiseStall := some s.clock } ∧ t.house = s.house ∧
         t.fire = s.fire ∧ t.lights = s.lights ∧ t.calls = s.calls)) ∧
  (∀ (s : State) (raw : BitVec 17),
     ∀ p, p = (raw.toNat - s.curtain.homeOffset) * 1000 / s.params.curtain.countsPerMetre →
     s.inert = false → s.curtain.state = .stowed → 0 < s.curtain.samplesDue →
     (s.params.curtain.travel ≤ p + s.params.curtain.creepLimit →
       exec (.creepSample raw) s = .next { s with
         pins := { s.pins with encoder := raw }
         curtain := { s.curtain with samplesDue := s.curtain.samplesDue - 1 } }) ∧
     (p + s.params.curtain.creepLimit < s.params.curtain.travel →
       ∃ t, exec (.creepSample raw) s = .next t ∧ KeepsLinks s t ∧ t.curtain.state = .halted ∧
         t.curtain.reason = .creep ∧ t.curtain.enteredAt = s.clock ∧ t.curtain.causes = s.curtain.causes ∧
         t.curtain.faults = { s.curtain.faults with creep := some s.clock } ∧
         (t.curtainOutputs = ⟨true, false, false, false⟩) ∧ t.house = s.house ∧ t.fire = s.fire ∧
         t.lights = s.lights ∧ t.calls = s.calls))

/-- R92, R93, R94: a sample in DESCENDING above the landing window counts lag, and moves the curtain to SECONDARY when
the lag persists. -/
def Obligations.DescentSampleCountsLag : Prop :=
  ∀ (s : State) (raw : BitVec 17), ∀ d, s.curtain.descent = some d →
    ∀ p, p = (raw.toNat - s.curtain.homeOffset) * 1000 / s.params.curtain.countsPerMetre →
    s.inert = false → s.curtain.state = .descending → 0 < s.curtain.samplesDue → d.sample < 4294967295 →
    s.params.curtain.landingWindow < p →
    ∃ t, exec (.descentSample raw) s = .next t ∧ KeepsLinks s t ∧ ∃ d', t.curtain.descent = some d' ∧
      d'.sample = d.sample + 1 ∧ d'.allowed = some (d.allowedAt (d.sample + 1)) ∧
      d'.window = (p :: d.window).take 21 ∧ t.curtain.lowCount = some 0 ∧ t.curtain.causes = s.curtain.causes ∧
      d'.lagCount = (if d.allowedAt (d.sample + 1) + s.params.curtain.lagTolerance < p then d.lagCount + 1 else 0) ∧
      (s.params.curtain.lagPersistence ≤ d'.lagCount →
        t.curtain.state = .secondary ∧ t.curtain.reason = .lag ∧ t.curtain.faults.lag = some s.clock ∧
          d'.secondaryStart = some (d.sample + 1) ∧ d'.retard = false ∧ d'.overspeedCount = 0) ∧
      (d'.lagCount < s.params.curtain.lagPersistence →
        t.curtain.state = .descending ∧ t.curtain.faults.lag = s.curtain.faults.lag) ∧
      t.house = s.house ∧ t.fire = s.fire ∧ t.lights = s.lights ∧ t.calls = s.calls

/-- R79, R95, R96, R97: the tenth low sample lands the curtain, the second over-speed sample turns the retard state
on, a slow one turns it off, and a SECONDARY that does not fall is JAMMED. -/
def Obligations.DescentSampleEndsAndRetards : Prop :=
  ∀ (s : State) (raw : BitVec 17), ∀ d, s.curtain.descent = some d →
    ∀ p, p = (raw.toNat - s.curtain.homeOffset) * 1000 / s.params.curtain.countsPerMetre →
    s.inert = false → 0 < s.curtain.samplesDue → d.sample < 4294967295 →
    (s.curtain.state = .descending ∨ s.curtain.state = .secondary ∨ s.curtain.state = .jammed →
      p ≤ s.params.curtain.landingWindow → s.settled bottomLine ≠ some .active → s.curtain.lowCount = some 9 →
      ∃ t, exec (.descentSample raw) s = .next t ∧ KeepsLinks s t ∧ t.curtain.state = .landed ∧
        t.curtain.reason = .position ∧ t.curtain.lowCount = none ∧ t.curtain.homeOffset = s.curtain.homeOffset ∧
        t.curtain.faults = { s.curtain.faults with limitSwitch := some s.clock } ∧
        t.curtain.causes = { s.curtain.causes with drop := false, demonstration := false, powerOn := false } ∧
        t.house = { s.house with demoMark := s.house.demoMark || (s.house.phase.occupied &&
          decide (s.fire.condition = .quiet)) } ∧
        t.fire = s.fire ∧ t.lights = s.lights ∧ t.calls = s.calls) ∧
    (s.curtain.state = .descending → s.params.curtain.landingWindow < p →
      p ≤ d.allowedAt (d.sample + 1) + s.params.curtain.lagTolerance → 0 < s.params.curtain.lagPersistence →
      4 ≤ d.sample → p ≤ d.slowHeight → d.retard = false → d.overspeedCount = 1 →
      ∀ before, d.window[4]? = some before → s.params.curtain.slowSpeed < (before - p) * 2 →
      ∃ t, exec (.descentSample raw) s = .next t ∧ t.curtain.state = .descending ∧ ∃ d', t.curtain.descent = some d' ∧
        d'.retard = true ∧ d'.overspeedCount = 2 ∧ d'.speed = some (((before : Int) - (p : Int)) * 2) ∧
        t.curtain.faults = { s.curtain.faults with overspeed := some s.clock } ∧
        t.curtainOutputs = ⟨false, false, false, true⟩) ∧
    (s.curtain.state = .descending → s.params.curtain.landingWindow < p →
      p ≤ d.allowedAt (d.sample + 1) + s.params.curtain.lagTolerance → 0 < s.params.curtain.lagPersistence →
      4 ≤ d.sample → d.retard = true → ∀ before : Nat, d.window[4]? = some before →
      ∃ t, exec (.descentSample raw) s = .next t ∧ KeepsLinks s t ∧ t.curtain.state = .descending ∧
        ∃ d', t.curtain.descent = some d' ∧ d'.speed = some (((before : Int) - (p : Int)) * 2) ∧
        (((before : Int) - (p : Int)) * 2 ≤ ((s.params.curtain.slowSpeed * 3 / 4 : Nat) : Int) → d'.retard = false ∧
          t.curtainOutputs = ⟨false, false, false, false⟩) ∧
        (((s.params.curtain.slowSpeed * 3 / 4 : Nat) : Int) < ((before : Int) - (p : Int)) * 2 → d'.retard = true ∧
          t.curtainOutputs = ⟨false, false, false, true⟩) ∧
        t.curtain.faults = s.curtain.faults) ∧
    (s.curtain.state = .secondary → s.params.curtain.landingWindow < p →
      ∀ start, d.secondaryStart = some start → ∀ before, d.window[19]? = some before → start + 20 ≤ d.sample + 1 →
        before < p + s.params.curtain.stallDistance →
      ∃ t, exec (.descentSample raw) s = .next t ∧ t.curtain.state = .jammed ∧ t.curtain.reason = .jam ∧
        t.curtain.faults = { s.curtain.faults with jammed := some s.clock } ∧
        t.curtainOutputs = ⟨false, false, true, false⟩)

/-- R90, R91: the record and the envelope of a descent: the two legs by their formulas, the rows of the envelope, that
it meets the slow height and the floor without a step, and that it never rises and stays between 0 and p0. -/
def Obligations.EnvelopeOfADescent : Prop :=
  ∀ (e : CurtainEnv) (position : Nat) (d : Descent), e.params.slowHeight < e.params.travel →
    d = makeDescent e position →
    (∀ k, 1 ≤ k → k ≤ d.fastLeg → d.allowedAt k = d.p0 - (d.p0 - d.slowHeight) * k / d.fastLeg) ∧
    (∀ k, d.fastLeg < k → k ≤ d.fastLeg + d.slowLeg →
      d.allowedAt k = d.s0 - d.s0 * (k - d.fastLeg) / d.slowLeg) ∧
    (∀ k, d.fastLeg + d.slowLeg < k → d.allowedAt k = 0) ∧
    (0 < d.fastLeg → d.allowedAt d.fastLeg = d.slowHeight) ∧
    (0 < d.slowLeg → d.allowedAt (d.fastLeg + d.slowLeg) = 0) ∧
    (∀ j k, 1 ≤ j → j ≤ k → d.allowedAt k ≤ d.allowedAt j) ∧
    (∀ k, 1 ≤ k → d.allowedAt k ≤ d.p0) ∧
    (d.fastLeg ≤ max 1 d.fastAllowance) ∧ d.slowLeg ≤ d.slowAllowance ∧ (0 < d.fastLeg ↔ d.slowHeight < d.p0) ∧
    (d.travel = e.params.travel ∧ d.slowHeight = e.params.slowHeight ∧ d.fastAllowance = e.params.fastAllowance ∧
      d.slowAllowance = e.params.slowAllowance ∧ d.startPosition = position ∧ d.window = [position] ∧
      d.p0 = min position d.travel ∧ d.s0 = min d.p0 d.slowHeight ∧ d.startTime = e.now ∧ d.sample = 0) ∧
    (∀ q, d.slowHeight < d.p0 → q = d.fastAllowance * (d.p0 - d.slowHeight) → d.travel - d.slowHeight ∣ q →
      d.fastLeg = max 1 (q / (d.travel - d.slowHeight))) ∧
    (∀ q, d.slowHeight < d.p0 → q = d.fastAllowance * (d.p0 - d.slowHeight) → ¬ d.travel - d.slowHeight ∣ q →
      d.fastLeg = q / (d.travel - d.slowHeight) + 1) ∧
    (∀ q, 0 < d.s0 → q = d.slowAllowance * d.s0 → d.slowLeg =
      if d.slowHeight ∣ q then q / d.slowHeight else q / d.slowHeight + 1) ∧
    (d.s0 = 0 → d.slowLeg = 0)

/-! ## The lights (chapters 06, 07) -/

/-- R104, R108, R109: LIGHTS from the holder of the authority starts a fade on each circuit it names, the last pair of
a circuit governing it, and touches no other circuit; from the other desk it is refused. -/
def Obligations.LightsStartsItsFades : Prop :=
  ∀ (s : State) (p : Port) (slot : Byte) (ps : List (Byte × Byte)),
    takeable p ⟨0x23, slot :: BitVec.ofNat 8 ps.length :: pairBytes ps⟩ s = true → 1 ≤ ps.length → ps.length ≤ 48 →
    (p = .house ∧ s.lights.authority = .house ∨ p = .console ∧ s.lights.authority = .console →
      slot = 0xFF ∨ slot.toNat < 4 → (∀ q ∈ ps, q.1.toNat < 48) →
      ∃ t, exec (.lights p slot ps) s = .next t ∧ t = State.withReply p 0x23 (done (.number ps.length))
          { s with lights := { s.lights with circuits := t.lights.circuits, stepsDue := t.lights.stepsDue } } ∧
        (∀ i : Fin 48, (∀ q ∈ ps, q.1.toNat ≠ i.val) → t.lights.circuits[i] = s.lights.circuits[i]) ∧
        (∀ (i : Fin 48) (q : Byte × Byte), ps.reverse.find? (fun x => x.1.toNat == i.val) = some q →
          ∀ n, n = (if slot = 0xFF then s.lights.circuits[i].slot else slot.toNat) →
            ((ps.filter fun x => x.1 == q.1).length = 1 → s.lights.circuits[i].fadeBegan s.clock n
              (s.lights.slotDuration n) q.2.toNat t.lights.circuits[i]) ∧
            (s.lights.slotDuration n = 0 →
              t.lights.circuits[i].base = q.2.toNat ∧ t.lights.circuits[i].fade = none) ∧
            (0 < s.lights.slotDuration n → t.lights.circuits[i].fade = some ⟨t.lights.circuits[i].base,
              q.2.toNat, s.lights.slotDuration n, 0, s.clock, n⟩))) ∧
    (p = .house ∧ s.lights.authority = .house ∨ p = .console ∧ s.lights.authority = .console →
      (slot ≠ 0xFF ∧ 4 ≤ slot.toNat) ∨ (∃ q ∈ ps, 48 ≤ q.1.toNat) →
      exec (.lights p slot ps) s = .next (s.withReply p 0x23 ⟨.refused, .refusal .badNumber⟩)) ∧
    (p = .house ∧ s.lights.authority = .console ∨ p = .console ∧ s.lights.authority = .house →
      exec (.lights p slot ps) s = .next (s.withReply p 0x23 ⟨.refused, .refusal .notAuthority⟩))

/-- R110, R111: GO PRESET starts all 48 circuits with one slot, when its preset is in use; HOLD FADES ends every
running fade where it stands. Either is refused with NOT_AUTHORITY from the desk without the authority, and GO PRESET
with BAD_NUMBER for a preset or a slot that does not exist. -/
def Obligations.PresetsAndHolds : Prop :=
  (∀ (s : State) (p : Port) (b slot : Byte) (n : Fin 8), takeable p ⟨0x24, [b, slot]⟩ s = true →
     p = .house ∧ s.lights.authority = .house ∨ p = .console ∧ s.lights.authority = .console →
     b.toNat = n.val + 1 → slot = 0xFF ∨ slot.toNat < 4 →
     ∀ used, used = (if slot = 0xFF then s.lights.presets[n].slot else slot.toNat) →
     (s.lights.presets[n].inUse = true →
       ∃ t, exec (.goPreset p b slot) s = .next t ∧ t = State.withReply p 0x24
           (done (.presetStarted (n.val + 1) (s.lights.slotDuration used)))
           { s with lights := { s.lights with circuits := t.lights.circuits, stepsDue := t.lights.stepsDue } } ∧
         ∀ i : Fin 48, s.lights.circuits[i].fadeBegan s.clock used (s.lights.slotDuration used)
           s.lights.presets[n].levels[i] t.lights.circuits[i]) ∧
     (s.lights.presets[n].inUse = false →
       exec (.goPreset p b slot) s = .next (s.withReply p 0x24 ⟨.refused, .refusal .notActive⟩))) ∧
  (∀ (s : State) (p : Port), takeable p ⟨0x25, []⟩ s = true →
     p = .house ∧ s.lights.authority = .house ∨ p = .console ∧ s.lights.authority = .console →
     ∃ t, exec (.holdFades p) s = .next t ∧ t = State.withReply p 0x25
         (done (.number (s.lights.circuits.toList.filter fun c => c.fade.isSome).length))
         { s with lights := { s.lights with circuits := t.lights.circuits, stepsDue := t.lights.stepsDue } } ∧
       ∀ i : Fin 48, t.lights.circuits[i] = { s.lights.circuits[i] with fade := none }) ∧
  (∀ (s : State) (p : Port) (b slot : Byte),
     (p = .house ∧ s.lights.authority = .console ∨ p = .console ∧ s.lights.authority = .house →
       (takeable p ⟨0x24, [b, slot]⟩ s = true →
         exec (.goPreset p b slot) s = .next (s.withReply p 0x24 ⟨.refused, .refusal .notAuthority⟩)) ∧
       (takeable p ⟨0x25, []⟩ s = true →
         exec (.holdFades p) s = .next (s.withReply p 0x25 ⟨.refused, .refusal .notAuthority⟩))) ∧
     (p = .house ∧ s.lights.authority = .house ∨ p = .console ∧ s.lights.authority = .console →
       takeable p ⟨0x24, [b, slot]⟩ s = true → b = 0 ∨ 8 < b.toNat ∨ (4 ≤ slot.toNat ∧ slot ≠ 0xFF) →
       exec (.goPreset p b slot) s = .next (s.withReply p 0x24 ⟨.refused, .refusal .badNumber⟩)))

/-- R105 (and log 5): one step of a fade; while it runs the base level lies between its ends, and its last step stands
at the target. -/
def Obligations.FadeStepFollowsItsLine : Prop :=
  ∀ (s : State) (i : Fin 48), ∀ f, s.lights.circuits[i].fade = some f → s.inert = false →
    0 < s.lights.stepsDue[i] → f.elapsed < f.duration →
    ∃ t, exec (.fadeStep i) s = .next t ∧
      t = { s with lights := { s.lights with circuits := t.lights.circuits, stepsDue := t.lights.stepsDue } } ∧
      (∀ j : Fin 48, j ≠ i → t.lights.circuits[j] = s.lights.circuits[j] ∧
        t.lights.stepsDue[j] = s.lights.stepsDue[j]) ∧
      t.lights.stepsDue[i] + 1 = s.lights.stepsDue[i] ∧
      (t.lights.circuits[i].base : Int) =
        f.start + Int.tdiv (((f.target : Int) - f.start) * (f.elapsed + 1)) f.duration ∧
      min f.start f.target ≤ t.lights.circuits[i].base ∧ t.lights.circuits[i].base ≤ max f.start f.target ∧
      (f.elapsed + 1 = f.duration → t.lights.circuits[i].base = f.target ∧ t.lights.circuits[i].fade = none) ∧
      (f.elapsed + 1 < f.duration → t.lights.circuits[i].fade = some { f with elapsed := f.elapsed + 1 })

/-- R115, R116, R117: TAKE LIGHTS in the order of its checks; GIVE BACK LIGHTS and RECLAIM LIGHTS. The phase, the link
and the fire condition tested are the Lighting Controller’s own records, which is the model’s reading (log 29). -/
def Obligations.AuthorityIsTakenAndReturned : Prop :=
  (∀ s : State, takeable .console ⟨0x26, []⟩ s = true →
     (s.lights.phaseSeen = .houseOpen ∨ s.lights.phaseSeen = .act ∨ s.lights.phaseSeen = .interval →
       s.lights.consoleSeen = true → s.lights.fireSeen ≠ .evacuate → s.lights.authority = .house →
       ∃ t, exec (.takeLights .console) s = .next t ∧ AnsweredWith .console 0x26 (done .empty) s t ∧
         t = { s with
           lights := { s.lights with
             authority := .console, authorityAt := s.clock, authorityCause := some .take }
           links := t.links } ∧
         ∀ q : Port, q = .house ∨ q = .console →
           Reaches q (.authority ⟨.console, .house, .take, s.clock, false⟩) s t) ∧
     (s.lights.phaseSeen = .houseOpen ∨ s.lights.phaseSeen = .act ∨ s.lights.phaseSeen = .interval →
       s.lights.consoleSeen = true → s.lights.fireSeen ≠ .evacuate → s.lights.authority = .console →
       exec (.takeLights .console) s = .next (s.withReply .console 0x26 (done .empty))) ∧
     (s.lights.phaseSeen = .houseOpen ∨ s.lights.phaseSeen = .act ∨ s.lights.phaseSeen = .interval →
       ∀ c, c = (if s.lights.consoleSeen = false then [Interlock.linkLost] else []) ++
           (if s.lights.fireSeen = .evacuate then [.evacuationInForce] else []) → c ≠ [] →
         exec (.takeLights .console) s = .next (s.withReply .console 0x26 ⟨.refused, .interlock c⟩)) ∧
     (s.lights.phaseSeen ≠ .houseOpen → s.lights.phaseSeen ≠ .act → s.lights.phaseSeen ≠ .interval →
       exec (.takeLights .console) s = .next (s.withReply .console 0x26 ⟨.refused, .refusal .wrongPhase⟩))) ∧
  (∀ (s : State) (p : Port) (kind : Byte) (i : Instr) (cause : AuthorityCause),
     (p = .console ∧ kind = 0x27 ∧ i = .giveBackLights .console ∧ cause = .giveBack) ∨
       (p = .house ∧ kind = 0x28 ∧ i = .reclaimLights .house ∧ cause = .reclaim) →
     takeable p ⟨kind, []⟩ s = true →
     (s.lights.authority = .console →
       ∃ t, exec i s = .next t ∧ AnsweredWith p kind (done .empty) s t ∧
         t = { s with
           lights := { s.lights with authority := .house, authorityAt := s.clock, authorityCause := some cause }
           links := t.links } ∧
         ∀ q : Port, q = .house ∨ q = .console →
           Reaches q (.authority ⟨.house, .console, cause, s.clock, false⟩) s t) ∧
     (s.lights.authority = .house → exec i s = .next (s.withReply p kind (done .empty))))

/-- R121, R123, R126, R128: PANIC LIGHTS ON and OFF, with the restore fades where the override ends; the first frame
of the dimmer line carries 255 on every circuit and a later one the composed level of every circuit (log 25). -/
def Obligations.PanicAndTheDimmerLine : Prop :=
  (∀ s : State,
     (takeable .house ⟨0x29, []⟩ s = true →
       exec (.panicLightsOn .house) s = .next (State.withReply .house 0x29 (done (.panic true true))
         { s with lights := { s.lights with panic := true } })) ∧
     (takeable .house ⟨0x2A, []⟩ s = true → s.lights.panic = false →
       exec (.panicLightsOff .house) s = .next (s.withReply .house 0x2A
         (done (.panic false (decide (s.lights.fireSeen = .evacuate)))))) ∧
     (takeable .house ⟨0x2A, []⟩ s = true → s.lights.panic = true → s.lights.fireSeen = .evacuate →
       exec (.panicLightsOff .house) s = .next (State.withReply .house 0x2A (done (.panic false true))
         { s with lights := { s.lights with panic := false } })) ∧
     (takeable .house ⟨0x2A, []⟩ s = true → s.lights.panic = true → s.lights.fireSeen ≠ .evacuate →
       ∃ t, exec (.panicLightsOff .house) s = .next t ∧
         t = State.withReply .house 0x2A (done (.panic false false)) { s with lights := { s.lights with
           panic := false, circuits := t.lights.circuits, stepsDue := t.lights.stepsDue } } ∧
         ∀ i : Fin 48, ∀ target, target = (match s.lights.circuits[i].fade with
             | some f => f.target
             | none => s.lights.circuits[i].base) →
           Circuit.fadeBegan s.clock s.params.restoreSlot (s.lights.slotDuration s.params.restoreSlot) target
             { s.lights.circuits[i] with base := 255, fade := none } t.lights.circuits[i])) ∧
  (∀ s : State, s.inert = false →
     ∃ t, exec .dimmerFrame s = .next t ∧ t = { s with lights := { s.lights with dimmer := t.lights.dimmer } } ∧
       ∃ levels, t.lights.dimmer = some levels ∧
         (s.lights.dimmer = none → ∀ i : Fin 48, levels[i] = 255) ∧
         (s.lights.dimmer ≠ none → ∀ i : Fin 48,
           levels[i] = composedLevel s.lights s.params.escapeMin s.lights.circuits[i]))

/-! ## Calls and channels (chapters 08, 09) -/

/-- R133: the checks of CREATE CALL in their order, each with its refusal. -/
def Obligations.CreateCallByItsChecks : Prop :=
  ∀ (s : State) (p : Port) (kind message : Byte) (length zones : Half) (rep : Byte) (gap life : Half) (notify : Byte)
    (timing : Option (Byte × BitVec 32)), ∀ i, i = Instr.createCall p kind message length zones rep gap life notify timing →
    p = .prompt ∨ p = .house → shapeOk i = true → takeable p (requestFrame i) s = true →
    (s.calls.phaseSeen = .unconfigured ∨ s.calls.phaseSeen = .dark →
      exec i s = .next (s.withReply p 0x2B ⟨.refused, .refusal .wrongPhase⟩)) ∧
    (s.calls.phaseSeen ≠ .unconfigured → s.calls.phaseSeen ≠ .dark →
      (kind ≠ 1 ∧ kind ≠ 2 ∨ message = 0 ∨ 4096 ≤ zones.toNat ∨ (∃ t, timing = some t ∧ 6 ≤ t.1.toNat) →
        exec i s = .next (s.withReply p 0x2B ⟨.refused, .refusal .badNumber⟩)) ∧
      (kind = 1 ∨ kind = 2 → message ≠ 0 → zones.toNat < 4096 → (∀ t, timing = some t → t.1.toNat < 6) →
        (zones = 0 → exec i s = .next (s.withReply p 0x2B ⟨.refused, .refusal .emptyZoneSet⟩)) ∧
        (zones ≠ 0 → s.calls.pool = [] →
          exec i s = .next (s.withReply p 0x2B ⟨.refused, .refusal .noDescriptor⟩))))

/-- R132, R134, R141, R151, R157, R158: an IMMEDIATE call of either desk is READY under the number at the head of the
free pool, which is the lowest free number by the order that every step keeps (`Calls.ordered`); in an evacuation it
stays there; with channel A and its zones free it starts at once; with every zone MUTED it finishes SILENCED. -/
def Obligations.ImmediateCallIsPlaced : Prop :=
  ∀ (s : State) (p : Port) (k : Desk) (message : Byte) (length zones : Half) (rep : Byte) (gap life : Half)
    (notify : Bool), p = .prompt ∧ k = .prompt ∨ p = .house ∧ k = .house →
    ∀ x rest, s.calls.pool = x :: rest → 2 ≤ x.val → ∀ n, n = (if notify then (1 : Byte) else 0) →
    ∀ i, i = Instr.createCall p 2 message length zones rep gap life n none →
    takeable p (requestFrame i) s = true → s.calls.phaseSeen ≠ .unconfigured → s.calls.phaseSeen ≠ .dark →
    message ≠ 0 → zones.toNat < 4096 → zones ≠ 0 →
    ∀ d, d = { Descriptor.free with
      life := .ready, kind := .immediate, creator := k, message := message.toNat
      length := max 1 (min 600 length.toNat), zones := zones.extractLsb' 0 12
      repeatCount := max 1 rep.toNat, gap := min 3000 gap.toNat
      lifetime := min 6000 life.toNat, notify := notify, createdAt := s.clock, entry := some s.clock
      deadline := if life = 0 then none else some (min (s.clock + min 6000 life.toNat) 4294967295) } →
    ∃ t, exec i s = .next t ∧
      AnsweredWith p 0x2B ⟨if 1 ≤ length.toNat ∧ length.toNat ≤ 600 ∧ 1 ≤ rep.toNat ∧ gap.toNat ≤ 3000 ∧
        life.toNat ≤ 6000 then .done else .clamped, .callCreated (x.val + 1) .ready none⟩ s t ∧
      KeepsAllButCalls s t ∧
      (s.calls.ordered → ∀ y ∈ s.calls.pool, x.val ≤ y.val) ∧
      (s.calls.arbiterFire = .evacuate →
        t.calls.table = s.calls.table.set x d ∧ t.calls.pool = rest ∧ x ∈ t.calls.ready ∧
          t.calls.chanA = s.calls.chanA ∧ t.calls.chanB = s.calls.chanB) ∧
      (NothingWaits s.calls → s.calls.arbiterFire = .quiet → s.calls.chanA.state = .idle →
        s.calls.chanA.reserved = none →
        (∀ z : Fin 12, s.calls.paging[z].conn = none ∧ s.calls.paging[z].held = false ∧
          s.calls.paging[z].muted = false) →
        t.calls.table[x] = { d with life := .playing, deadline := none, channel := some .a } ∧
          t.calls.chanA.state = .starting ∧ t.calls.chanA.call = some x ∧
          t.calls.chanA.message = message.toNat ∧ t.calls.chanA.live = d.zones ∧
          t.calls.chanA.startTimer = some 10 ∧ t.calls.chanA.startStrobe = true ∧ t.calls.ready = [] ∧
          t.calls.chanB = s.calls.chanB ∧
          ∀ z : Fin 12, t.calls.paging[z].conn = if d.zones.getLsbD z then some .a else none) ∧
      (s.calls.lawful → s.calls.arbiterFire ≠ .evacuate → ¬ s.calls.audible d.zones →
        t.calls.finishedAs x k .silenced s.clock ∧ x ∉ t.calls.ready ∧
          (t.calls.table[x].life = .finished → t.calls.table[x].missed = d.zones))

/-- R134, R135, R139: a SCHEDULED call waits for its anchor, stands in the timetable at its due time, is EXPIRED past
its lifetime, or is READY. -/
def Obligations.ScheduledCallIsArmed : Prop :=
  ∀ (s : State) (p : Port) (k : Desk) (message : Byte) (length zones : Half) (rep : Byte) (gap life : Half)
    (notify : Bool) (a : Byte) (anchor : Anchor) (offset : BitVec 32), p = .prompt ∧ k = .prompt ∨ p = .house ∧ k = .house →
    ∀ x rest, s.calls.pool = x :: rest → 2 ≤ x.val → ∀ n, n = (if notify then (1 : Byte) else 0) →
    ∀ i, i = Instr.createCall p 1 message length zones rep gap life n (some (a, offset)) →
    (a = 0 ∧ anchor = .plannedUp ∨ a = 1 ∧ anchor = .houseOpen ∨ a = 2 ∧ anchor = .actStart ∨
      a = 3 ∧ anchor = .intervalStart ∨ a = 4 ∧ anchor = .intervalEnd ∨ a = 5 ∧ anchor = .curtainDown) →
    takeable p (requestFrame i) s = true → s.calls.phaseSeen ≠ .unconfigured → s.calls.phaseSeen ≠ .dark →
    message ≠ 0 → zones.toNat < 4096 → zones ≠ 0 →
    ∀ d, d = { Descriptor.free with
      life := .waiting, kind := .scheduled, creator := k, message := message.toNat
      length := max 1 (min 600 length.toNat), zones := zones.extractLsb' 0 12
      repeatCount := max 1 rep.toNat, gap := min 3000 gap.toNat, lifetime := min 6000 life.toNat
      notify := notify, createdAt := s.clock
      anchor := some anchor, offset := max (-36000) (min 36000 offset.toInt) } →
    ∀ result, result = (if -36000 ≤ offset.toInt ∧ offset.toInt ≤ 36000 ∧ 1 ≤ length.toNat ∧ length.toNat ≤ 600 ∧
      1 ≤ rep.toNat ∧ gap.toNat ≤ 3000 ∧ life.toNat ≤ 6000 then Result.done else .clamped) →
    ∃ t, exec i s = .next t ∧ KeepsAllButCalls s t ∧
      (s.house.anchors.get anchor = none →
        AnsweredWith p 0x2B ⟨result, .callCreated (x.val + 1) .waiting none⟩ s t ∧
        t.calls.table = s.calls.table.set x d ∧ x ∈ t.calls.waiting ∧ t.calls.pool = rest ∧
        t.calls.ready = s.calls.ready ∧ t.calls.timetable = s.calls.timetable) ∧
      (∀ v, s.house.anchors.get anchor = some v → ∀ due, due = min (Int.toNat ((v : Int) + d.offset)) 4294967295 →
        (s.clock < due ∨ s.calls.fireSeen = .evacuate →
          AnsweredWith p 0x2B ⟨result, .callCreated (x.val + 1) .timed (some due)⟩ s t ∧
          t.calls.table = s.calls.table.set x { d with life := .timed, due := some due, basis := some .anchor } ∧
          x ∈ t.calls.timetable ∧ t.calls.pool = rest ∧ t.calls.ready = s.calls.ready ∧
          t.calls.waiting = s.calls.waiting) ∧
        (due ≤ s.clock → s.calls.fireSeen ≠ .evacuate → 0 < d.lifetime → due + d.lifetime < s.clock →
          AnsweredWith p 0x2B ⟨result, .callCreated (x.val + 1) .finished none⟩ s t ∧
          (s.calls.lawful → t.calls.finishedAs x k .expired s.clock ∧ t.calls.ready = s.calls.ready ∧
            t.calls.timetable = s.calls.timetable ∧ t.calls.waiting = s.calls.waiting)) ∧
        (due ≤ s.clock → s.calls.fireSeen ≠ .evacuate → d.lifetime = 0 ∨ s.clock ≤ due + d.lifetime →
          AnsweredWith p 0x2B ⟨result, .callCreated (x.val + 1) .ready none⟩ s t ∧
          (s.calls.ready = [] → s.calls.chanA.state ≠ .idle → s.calls.chanB.state ≠ .idle →
            s.calls.audible d.zones →
            t.calls = { s.calls with
              table := s.calls.table.set x { d with
                life := .ready, entry := some s.clock
                deadline := if d.lifetime = 0 then none else some (min (s.clock + d.lifetime) 4294967295) }
              pool := rest, ready := [x], creation := t.calls.creation, nextCreation := t.calls.nextCreation })))

/-- R143, R144, R154, R164, R165: CANCEL CALL finishes a live call, reports it, and stops the channel that plays it.
-/
def Obligations.CancelCallFinishesIt : Prop :=
  ∀ (s : State) (p : Port) (b : Byte) (x : CallId), p = .prompt ∨ p = .house → b.toNat = x.val + 1 →
    takeable p ⟨0x2C, [b]⟩ s = true → ∀ d, d = s.calls.table[x] →
    (2 ≤ x.val → d.life = .waiting ∨ d.life = .timed ∨ d.life = .ready ∨ d.life = .playing →
      ∃ t, exec (.cancelCall p b) s = .next t ∧ AnsweredWith p 0x2C (done (.lifeBefore d.life)) s t ∧
        KeepsAllButCalls s t ∧
        (d.life = .waiting ∨ d.life = .timed → s.calls.finished = [] → x ∉ s.calls.ready →
          (s.calls.queue d.creator).length < 16 →
          t.calls.queue d.creator = s.calls.queue d.creator ++
            [⟨x.val + 1, d.message, .cancelled, d.plays, d.missed, s.clock, 1⟩] ∧
          t.calls.finished = [] ∧ t.calls.table[x].life = .free ∧ x ∈ t.calls.pool ∧
          t.calls.ready = s.calls.ready ∧
          (d.notify = true → Reaches d.creator.port
            (.callFinished ⟨x.val + 1, d.message, .cancelled, d.plays, d.missed, s.clock⟩) s t) ∧
          (s.calls.queue d.creator = [] → Reaches d.creator.port (.completionsWaiting 1) s t)) ∧
        (s.calls.lawful → t.calls.finishedAs x d.creator .cancelled s.clock ∧ x ∉ t.calls.waiting ∧
          x ∉ t.calls.timetable ∧ x ∉ t.calls.ready) ∧
        (s.calls.lawful → d.life = .waiting ∨ d.life = .timed → t.calls.waiting = s.calls.waiting.erase x ∧
          t.calls.timetable = s.calls.timetable.erase x) ∧
        (∀ ch, d.channel = some ch → d.life = .playing → s.pins.playing ch = true →
          (t.calls.chan ch).state = .stopping ∧ (t.calls.chan ch).call = none ∧
          (t.calls.chan ch).message = 0 ∧ (t.calls.chan ch).stopTimer = some 10 ∧
          (t.calls.chan ch).stopStrobe = true ∧ ∀ z : Fin 12, t.calls.paging[z].conn ≠ some ch)) ∧
    (2 ≤ x.val → d.life = .free ∨ d.life = .finished →
      exec (.cancelCall p b) s = .next (s.withReply p 0x2C ⟨.refused, .refusal .notActive⟩)) ∧
    (x.val < 2 → exec (.cancelCall p b) s = .next (s.withReply p 0x2C ⟨.refused, .refusal .notPermitted⟩)) ∧
    (∀ b' : Byte, b' = 0 ∨ 48 < b'.toNat → takeable p ⟨0x2C, [b']⟩ s = true →
      exec (.cancelCall p b') s = .next (s.withReply p 0x2C ⟨.refused, .refusal .badNumber⟩))

/-- R131, R132, R139, R141: a call of the timetable falls due and enters READY with its deadline; all that are due
fall due together, and stand in READY by class, entry time and number; the deadline of a READY call finishes it,
EXPIRED before its first play and PARTIAL after it. -/
def Obligations.CallsFallDueAndExpire : Prop :=
  (∀ s : State, ∀ x rest, s.calls.timetable = x :: rest → ∀ due, s.calls.table[x].due = some due → s.inert = false →
     (s.calls.fireSeen ≠ .evacuate → due ≤ s.clock → rest = [] → s.calls.ready = [] →
       s.calls.chanA.state ≠ .idle → s.calls.chanB.state ≠ .idle →
       s.calls.table[x].zones &&& ~~~s.calls.mutedZones ≠ 0 →
       ∃ t, exec .dueTimerExpiry s = .next t ∧ KeepsLinks s t ∧ KeepsAllButCalls s t ∧
         t.calls.timetable = [] ∧ t.calls.ready = [x] ∧
         t.calls.table = s.calls.table.set x { s.calls.table[x] with
           life := .ready, due := none, basis := none, entry := some s.clock
           deadline := if s.calls.table[x].lifetime = 0 then none
             else some (min (s.clock + s.calls.table[x].lifetime) 4294967295) }) ∧
     (s.clock < due ∨ s.calls.fireSeen = .evacuate → exec .dueTimerExpiry s = .next s)) ∧
  (∀ s : State, s.inert = false → s.calls.fireSeen ≠ .evacuate → s.calls.lawful → s.calls.ordered →
     s.calls.chanA.state ≠ .idle → s.calls.chanB.state ≠ .idle →
     (∀ x ∈ s.calls.timetable ++ s.calls.ready, s.calls.audible s.calls.table[x].zones) →
     ∃ t, exec .dueTimerExpiry s = .next t ∧ KeepsLinks s t ∧ KeepsAllButCalls s t ∧
       t.calls.timetable = s.calls.timetable.filter (fun x => decide (s.clock < s.calls.table[x].due.getD 0)) ∧
       (∀ x : CallId, t.calls.table[x] =
         if x ∈ s.calls.timetable ∧ s.calls.table[x].due.getD 0 ≤ s.clock then { s.calls.table[x] with
           life := .ready, due := none, basis := none, entry := some s.clock
           deadline := if s.calls.table[x].lifetime = 0 then none
             else some (min (s.clock + s.calls.table[x].lifetime) 4294967295) }
         else s.calls.table[x]) ∧
       (∀ x : CallId, x ∈ t.calls.ready ↔ x ∈ s.calls.ready ∨
         x ∈ s.calls.timetable ∧ s.calls.table[x].due.getD 0 ≤ s.clock) ∧
       t.calls.ready.Pairwise t.calls.ahead) ∧
  (∀ (s : State) (x : CallId), s.inert = false → ∀ d, d = s.calls.table[x] →
     (∀ deadline, d.deadline = some deadline → d.life = .ready → deadline ≤ s.clock →
       ∃ t, exec (.callDeadline x) s = .next t ∧ KeepsLinks s t ∧ KeepsAllButCalls s t ∧
         (s.calls.ready = [x] → s.calls.finished = [] → (s.calls.queue d.creator).length < 16 →
           t.calls.queue d.creator = s.calls.queue d.creator ++
             [⟨x.val + 1, d.message, if d.plays = 0 then .expired else .partly, d.plays, d.missed, s.clock, 1⟩] ∧
           t.calls.ready = [] ∧ t.calls.table[x].life = .free ∧ x ∈ t.calls.pool)) ∧
     (d.life ≠ .ready → exec (.callDeadline x) s = .next s) ∧
     (d.deadline = none → exec (.callDeadline x) s = .next s) ∧
     (∀ deadline, d.deadline = some deadline → s.clock < deadline → exec (.callDeadline x) s = .next s))

/-- R149, R155, R156, R157, R165, R166: the oldest completions are collected, a gate is written, a channel is reset; a
gate change walks the ready queue, so that a waiting call starts when its zones are open and a later call passes a
blocked one only if it shares no zone with it. -/
def Obligations.CompletionsGatesAndChannelResets : Prop :=
  (∀ (s : State) (p : Port) (k : Desk), p = .prompt ∧ k = .prompt ∨ p = .house ∧ k = .house →
     takeable p ⟨0x2D, []⟩ s = true →
     ∃ t, exec (.collectCompletions p) s = .next t ∧ KeepsAllButCalls s t ∧
       t.links = (s.withReply p 0x2D
         (done (.completions ((s.calls.queue k).take 8) (t.calls.queue k).length))).links ∧
       (t.calls.queue k).take ((s.calls.queue k).length - 8) = (s.calls.queue k).drop 8 ∧
       (s.calls.finished = [] → t.calls = s.calls.setQueue k ((s.calls.queue k).drop 8)) ∧
       (∀ other : Desk, other ≠ k → t.calls.queue other = s.calls.queue other)) ∧
  (∀ (s : State) (b : Byte) (z : Fin 12) (muted held : Bool), b.toNat = z.val →
     ∀ m, m = (if muted then (1 : Byte) else 0) → ∀ h, h = (if held then (1 : Byte) else 0) → takeable .house ⟨0x2E, [b, m, h]⟩ s = true →
     ∃ t, exec (.zoneGate .house b m h) s = .next t ∧ AnsweredWith .house 0x2E (done (.gate muted held)) s t ∧
       KeepsAllButCalls s t ∧ t.calls.paging[z].muted = muted ∧ t.calls.paging[z].held = held ∧
       (∀ y : Fin 12, t.calls.paging[y].staff = s.calls.paging[y].staff ∧
         t.calls.paging[y].evac = s.calls.paging[y].evac ∧
         (y ≠ z → t.calls.paging[y].muted = s.calls.paging[y].muted ∧
           t.calls.paging[y].held = s.calls.paging[y].held)) ∧
       (s.calls.arbiterFire = .evacuate ∨ s.calls.ready = [] →
         t.calls = { s.calls with
           paging := s.calls.paging.set z { s.calls.paging[z] with muted := muted, held := held } }) ∧
       (∀ g : Vector PagingZone 12,
         g = s.calls.paging.set z { s.calls.paging[z] with muted := muted, held := held } →
         g ≠ s.calls.paging → s.calls.arbiterFire = .quiet → s.calls.evacuation ≠ .waiting →
         s.calls.staffAlert ≠ .waiting → s.calls.chanA.state = .idle → s.calls.chanA.reserved = none →
         (∀ x, s.calls.ready.head? = some x → s.calls.ready = [x] →
           (∃ u : Fin 12, s.calls.table[x].zones.getLsbD u = true ∧ g[u].muted = false) →
           (∀ u : Fin 12, s.calls.table[x].zones.getLsbD u = true → g[u].muted = false →
             g[u].conn = none ∧ g[u].held = false) →
           t.calls.ready = [] ∧ t.calls.chanA.state = .starting ∧ t.calls.chanA.call = some x ∧
             t.calls.table[x].life = .playing ∧ t.calls.chanB = s.calls.chanB) ∧
         (∀ x more, s.calls.ready = x :: more → ∀ y, more = [y] → x ≠ y →
           (∃ u : Fin 12, s.calls.table[x].zones.getLsbD u = true ∧ g[u].muted = false ∧
             (g[u].conn ≠ none ∨ g[u].held = true)) →
           (∃ u : Fin 12, s.calls.table[y].zones.getLsbD u = true ∧ g[u].muted = false) →
           if ∀ u : Fin 12, s.calls.table[y].zones.getLsbD u = true → g[u].muted = false →
               g[u].conn = none ∧ g[u].held = false ∧ s.calls.table[x].zones.getLsbD u = false then
             t.calls.ready = [x] ∧ t.calls.table[x] = s.calls.table[x] ∧ t.calls.chanA.state = .starting ∧
               t.calls.chanA.call = some y ∧ t.calls.table[y].life = .playing ∧ t.calls.chanB = s.calls.chanB
           else t.calls = { s.calls with paging := g }))) ∧
  (∀ (s : State) (b : Byte) (ch : Channel), b = 0 ∧ ch = .a ∨ b = 1 ∧ ch = .b → takeable .house ⟨0x2F, [b]⟩ s = true →
     ((s.calls.chan ch).state = .faulted → s.pins.playing ch = false →
       ∃ t, exec (.resetChannel .house b) s = .next t ∧ AnsweredWith .house 0x2F (done .empty) s t ∧
         KeepsAllButCalls s t ∧ (t.calls.chan ch).fault = none ∧
         ((t.calls.chan ch).state = .idle ∨ (t.calls.chan ch).state = .starting) ∧
         (NothingWaits s.calls → (t.calls.chan ch).state = .idle)) ∧
     ((s.calls.chan ch).state = .faulted → s.pins.playing ch = true →
       exec (.resetChannel .house b) s = .next (s.withReply .house 0x2F ⟨.refused, .refusal .busy⟩)) ∧
     ((s.calls.chan ch).state ≠ .faulted →
       exec (.resetChannel .house b) s = .next (s.withReply .house 0x2F (done .empty)))) ∧
  (∀ (s : State) (b m h : Byte),
     (12 ≤ b.toNat → m = 0 ∨ m = 1 → h = 0 ∨ h = 1 → takeable .house ⟨0x2E, [b, m, h]⟩ s = true →
       exec (.zoneGate .house b m h) s = .next (s.withReply .house 0x2E ⟨.refused, .refusal .badNumber⟩)) ∧
     (2 ≤ b.toNat → takeable .house ⟨0x2F, [b]⟩ s = true →
       exec (.resetChannel .house b) s = .next (s.withReply .house 0x2F ⟨.refused, .refusal .badNumber⟩)))

/-- R142, R150, R152, R153, R154, R155, R159: PLAYING rises on a channel that starts, and on one that is IDLE; it
falls at the end of a play, of a general and of a built-in call, and at the end of a stop. The entry time and the zone
set that the descriptor of a built-in call keeps through its gap are the model’s choice (logs 32 and 33) and no rule
of the spec. -/
def Obligations.PlayingLineMovesItsChannel : Prop :=
  (∀ (s : State) (ch : Channel), s.inert = false → ∀ pins, pins = (match ch with
       | .a => { s.pins with playingA := true }
       | .b => { s.pins with playingB := true }) →
     (∀ x, (s.calls.chan ch).call = some x → (s.calls.chan ch).state = .starting →
       exec (.playingRises ch) s = .next { s with
         pins := pins
         calls := s.calls.setChan ch { s.calls.chan ch with
           state := .playing, startTimer := none, guardTimer := some (s.calls.table[x].length + 20) } }) ∧
     ((s.calls.chan ch).state = .idle →
       ∃ t, exec (.playingRises ch) s = .next t ∧ t.pins = pins ∧ KeepsLinks s t ∧
         (t.calls.chan ch).state = .faulted ∧ (t.calls.chan ch).fault = some .unsolicited ∧
         t.house = s.house ∧ t.fire = s.fire ∧ t.curtain = s.curtain ∧ t.lights = s.lights ∧
         ∀ q : Port, q = .prompt ∨ q = .house → Reaches q (.channelFault
           ⟨ch, .unsolicited, none, none, (s.calls.chan (otherChannel ch)).state⟩) s t) ∧
     ((s.calls.chan ch).state = .playing ∨ (s.calls.chan ch).state = .stopping ∨
         (s.calls.chan ch).state = .faulted →
       exec (.playingRises ch) s = .next { s with pins := pins })) ∧
  (∀ (s : State) (ch : Channel), s.inert = false →
     (∀ x, (s.calls.chan ch).call = some x → (s.calls.chan ch).state = .playing → 2 ≤ x.val →
       ∀ d, d = s.calls.table[x] →
       ∃ t, exec (.playingFalls ch) s = .next t ∧ KeepsLinks s t ∧ t.pins.playing ch = false ∧
         t.house = s.house ∧ t.fire = s.fire ∧ t.curtain = s.curtain ∧ t.lights = s.lights ∧
         ((t.calls.chan ch).state = .idle ∨ (t.calls.chan ch).state = .starting) ∧
         (NothingWaits s.calls → (d.repeatCount = 255 ∨ min 255 (d.plays + 1) < d.repeatCount) → 0 < d.gap →
           s.clock + d.gap ≤ 4294967295 →
           (t.calls.chan ch).state = .idle ∧ (t.calls.chan ch).call = none ∧ x ∈ t.calls.timetable ∧
             t.calls.table[x].life = .timed ∧ t.calls.table[x].plays = min 255 (d.plays + 1) ∧
             t.calls.table[x].due = some (s.clock + d.gap) ∧ t.calls.table[x].basis = some .replay) ∧
         (NothingWaits s.calls → (d.repeatCount = 255 ∨ min 255 (d.plays + 1) < d.repeatCount) → d.gap = 0 →
           s.clock ≤ 4294967295 → s.calls.fireSeen ≠ .evacuate → s.calls.audible d.zones →
           t.calls.timetable = s.calls.timetable ∧ t.calls.table[x].plays = min 255 (d.plays + 1) ∧
             t.calls.table[x].entry = some s.clock ∧
             (t.calls.table[x].life = .ready ∧ t.calls.ready = [x] ∧ (t.calls.chan ch).state = .idle ∨
               t.calls.table[x].life = .playing ∧ t.calls.ready = []) ∧
             (s.calls.arbiterFire = .quiet → ch = .a ∨ s.calls.chanA.state ≠ .idle →
               (∀ u : Fin 12, d.zones.getLsbD u = true → s.calls.paging[u].held = false ∧
                 (s.calls.paging[u].conn = none ∨ s.calls.paging[u].conn = some ch)) →
               (t.calls.chan ch).state = .starting ∧ (t.calls.chan ch).call = some x)) ∧
         (NothingWaits s.calls → d.repeatCount ≠ 255 → d.repeatCount ≤ min 255 (d.plays + 1) →
           s.calls.finished = [] → (s.calls.queue d.creator).length < 16 →
           (t.calls.chan ch).state = .idle ∧ (t.calls.chan ch).call = none ∧ t.calls.table[x].life = .free ∧
             t.calls.queue d.creator = s.calls.queue d.creator ++
               [⟨x.val + 1, d.message, if d.missed = 0 then .delivered else .partly, min 255 (d.plays + 1),
                 d.missed, s.clock, 1⟩])) ∧
     ((s.calls.chan ch).state = .stopping →
       ∃ t, exec (.playingFalls ch) s = .next t ∧ KeepsLinks s t ∧ t.pins.playing ch = false ∧
         t.house = s.house ∧ t.fire = s.fire ∧ t.curtain = s.curtain ∧ t.lights = s.lights ∧
         ((t.calls.chan ch).state = .idle ∨ (t.calls.chan ch).state = .starting) ∧
         (NothingWaits s.calls → (t.calls.chan ch).state = .idle ∧ (t.calls.chan ch).stopTimer = none))) ∧
  (∀ (s : State) (ch : Channel) (b : BuiltIn) (x : CallId), s.inert = false →
     (b = .evacuation ∧ x = 0 ∨ b = .staffAlert ∧ x = 1) → s.calls.lawful →
     (s.calls.chan ch).call = some x → (s.calls.chan ch).state = .playing → ∀ d, d = s.calls.table[x] →
     ∃ t, exec (.playingFalls ch) s = .next t ∧ KeepsLinks s t ∧ t.pins.playing ch = false ∧
       t.house = s.house ∧ t.fire = s.fire ∧ t.curtain = s.curtain ∧ t.lights = s.lights ∧
       t.calls.table[x].plays = min 255 (d.plays + 1) ∧
       (0 < d.gap →
         (b = .evacuation → t.calls.evacuation = .inGap ch d.gap) ∧
         (b = .staffAlert → t.calls.staffAlert = .inGap ch d.gap) ∧
         t.calls.table[x] = { d with life := .ready, channel := none, plays := min 255 (d.plays + 1) } ∧
         (t.calls.chan ch).state = .idle ∧ (t.calls.chan ch).call = none ∧ (t.calls.chan ch).reserved = some b ∧
         (t.calls.chan ch).guardTimer = none ∧ (∀ z : Fin 12, t.calls.paging[z].conn ≠ some ch)) ∧
       (d.gap = 0 → s.calls.builtInZones b ≠ 0 →
         (t.calls.chan ch).state = .starting ∧ (t.calls.chan ch).call = some x ∧
         t.calls.table[x].life = .playing ∧ (t.calls.chan ch).live = s.calls.builtInZones b))

/-- R152, R153, R154, R155, R159, R162, R163: the three timers of a channel fault it, its zones are free and its call
waits again or is reported; the gap of each built-in call runs out, and it starts again on its channel, on the other,
or waits with no zone set stored (log 33). -/
def Obligations.ChannelTimersAndBuiltInGaps : Prop :=
  (∀ (s : State) (ch : Channel) (x : CallId), s.inert = false →
     ((s.calls.chan ch).state = .starting → (s.calls.chan ch).startTimer = some 0 →
       (s.calls.chan ch).call = some x →
       ∃ t, exec (.startTimerExpiry ch) s = .next t ∧ KeepsLinks s t ∧ KeepsAllButCalls s t ∧
         (t.calls.chan ch).state = .faulted ∧ (t.calls.chan ch).fault = some .noStart ∧
         (t.calls.chan ch).stopStrobe = true ∧ (∀ z : Fin 12, t.calls.paging[z].conn ≠ some ch) ∧
         (∀ q : Port, q = .prompt ∨ q = .house → Reaches q (.channelFault ⟨ch, .noStart, some (x.val + 1),
           some (s.calls.chan ch).message, (s.calls.chan (otherChannel ch)).state⟩) s t) ∧
         (s.calls.lawful → (s.calls.chan (otherChannel ch)).state ≠ .idle →
           (x = 0 → t.calls.evacuation = .waiting ∧ t.calls.table[x].life = .ready) ∧
           (x = 1 → t.calls.staffAlert = .waiting ∧ t.calls.table[x].life = .ready) ∧
           (2 ≤ x.val → s.calls.table[x].lifetime = 0 → s.calls.audible s.calls.table[x].zones →
             x ∈ t.calls.ready ∧ t.calls.table[x] = { s.calls.table[x] with
               life := .ready, channel := none, missed := (s.calls.chan ch).missedBefore, deadline := none }))) ∧
     ((s.calls.chan ch).state = .playing → (s.calls.chan ch).guardTimer = some 0 →
       (s.calls.chan ch).call = some x →
       ∃ t, exec (.guardTimerExpiry ch) s = .next t ∧ KeepsLinks s t ∧ KeepsAllButCalls s t ∧
         (t.calls.chan ch).state = .faulted ∧ (t.calls.chan ch).fault = some .guardExpired ∧
         (t.calls.chan ch).stopStrobe = true ∧ (∀ z : Fin 12, t.calls.paging[z].conn ≠ some ch) ∧
         (2 ≤ x.val → s.calls.finished = [] → (s.calls.queue s.calls.table[x].creator).length < 16 →
           ∃ e ∈ t.calls.queue s.calls.table[x].creator, e.number = x.val + 1 ∧ e.outcome = .channelFault ∧
             e.finishTime = s.clock)) ∧
     ((s.calls.chan ch).state = .stopping → (s.calls.chan ch).stopTimer = some 0 →
       ∃ t, exec (.stopTimerExpiry ch) s = .next t ∧ KeepsLinks s t ∧ KeepsAllButCalls s t ∧
         (t.calls.chan ch).state = .faulted ∧ (t.calls.chan ch).fault = some .noStop ∧
         (∀ z : Fin 12, t.calls.paging[z].conn ≠ some ch) ∧
         ∀ q : Port, q = .prompt ∨ q = .house → s.calls.evacuation = .waiting →
           (∃ z : Fin 12, s.calls.paging[z].evac = true) → (s.calls.chan (otherChannel ch)).state = .faulted →
           Reaches q (.evacuationUnannounced t.calls.chanA.fault t.calls.chanB.fault
             ((List.finRange 12).filter fun z => s.calls.paging[z].evac).length) s t)) ∧
  (∀ (s : State) (ch : Channel) (b : BuiltIn) (x : CallId), s.inert = false →
     (b = .evacuation ∧ x = 0 ∧ s.calls.evacuation = .inGap ch 0 ∨
       b = .staffAlert ∧ x = 1 ∧ s.calls.staffAlert = .inGap ch 0) → s.calls.lawful →
     ∃ t, exec (.builtInGapExpiry b) s = .next t ∧ KeepsLinks s t ∧ KeepsAllButCalls s t ∧
       ((s.calls.chan ch).state = .idle → s.calls.builtInZones b ≠ 0 →
         (b = .evacuation → t.calls.evacuation = .onChannel ch) ∧
         (b = .staffAlert → t.calls.staffAlert = .onChannel ch) ∧ (t.calls.chan ch).state = .starting ∧
         (t.calls.chan ch).call = some x ∧ (t.calls.chan ch).startTimer = some 10 ∧
         (t.calls.chan ch).startStrobe = true ∧ (t.calls.chan ch).live = s.calls.builtInZones b ∧
         t.calls.table[x] = { s.calls.table[x] with
           life := .playing, deadline := none, channel := some ch, zones := s.calls.builtInZones b }) ∧
       ((s.calls.chan ch).state ≠ .idle → (s.calls.chan (otherChannel ch)).state = .idle →
         s.calls.builtInZones b ≠ 0 →
         (b = .evacuation → s.calls.chanA.state = .idle ∨ s.calls.chanA.state = .faulted) →
         (b = .evacuation → t.calls.evacuation = .onChannel (otherChannel ch)) ∧
         (b = .staffAlert → t.calls.staffAlert = .onChannel (otherChannel ch)) ∧
         (t.calls.chan (otherChannel ch)).state = .starting ∧ (t.calls.chan (otherChannel ch)).call = some x ∧
         t.calls.table[x].life = .playing) ∧
       (s.calls.chanA.state ≠ .idle ∧ s.calls.chanB.state ≠ .idle ∨ s.calls.builtInZones b = 0 ∨
           b = .evacuation ∧ ch = .a ∧ s.calls.chanA.state ≠ .idle ∧ s.calls.chanA.state ≠ .faulted →
         (b = .evacuation → t.calls.evacuation = .waiting) ∧ (b = .staffAlert → t.calls.staffAlert = .waiting) ∧
         t.calls.table[x] = { s.calls.table[x] with life := .ready, channel := none, zones := 0 } ∧
         (t.calls.chan ch).reserved = none))

/-! ## Configuration (chapter 11, with R24, R87, R102, R103, R107, R148) -/

/-- R181 checks 1 and 2: the phase, and the identifiers of every record. -/
def Obligations.ConfigureChecksComeFirst : Prop :=
  (∀ (i : Instr) (s : State), requestPort i = some .house → (requestFrame i).kind = 1 → i.encodable = true →
     shapeOk i = true → takeable .house (requestFrame i) s = true → (∀ k pl, i ≠ .unknownRequest .house k pl) →
     s.house.phase ≠ .unconfigured → s.house.phase ≠ .dark →
       exec i s = .next (s.withReply .house 0x01 ⟨.refused, .refusal .frozen⟩)) ∧
  (∀ (i : Instr) (s : State), s.house.phase = .unconfigured ∨ s.house.phase = .dark → shapeOk i = true →
     takeable .house (requestFrame i) s = true →
     (∃ z c a r e, i = .configureZone .house z c a r e ∧ (32 ≤ z.toNat ∨ 3 ≤ c.toNat ∨ 4 ≤ a.toNat)) ∨
       (∃ c n e m k, i = .configureCircuit .house c n e m k ∧ (48 ≤ c.toNat ∨ 4 ≤ n.toNat)) ∨
       (∃ n c, i = .configureSlot .house n c ∧ (4 ≤ n.toNat ∨ 16 ≤ c.toNat)) ∨
       (∃ n ls l u, i = .configurePreset .house n ls l u ∧ (n = 0 ∨ 8 < n.toNat ∨ 4 ≤ l.toNat)) ∨
       (∃ z st ev, i = .configurePagingZone .house z st ev ∧ 12 ≤ z.toNat) ∨
       (∃ n m l g, i = .configureBuiltInCall .house n m l g ∧ (n = 0 ∨ 2 < n.toNat ∨ m = 0)) ∨
       (∃ v d n e p r a b c f, i = .configureTiming .house v d n e p r a b c f ∧ (4 ≤ p.toNat ∨ 4 ≤ r.toNat)) ∨
       (∃ l q t, i = .configureLine .house l q t ∧ 13 ≤ l.toNat) →
     exec i s = .next (s.withReply .house 0x01 ⟨.refused, .refusal .badNumber⟩))

/-- R24, R48, R56, R181: a zone record writes its four fields; on a zone that is not listed nothing else moves, and a
listed zone of a new class evacuates the house from ALERT. -/
def Obligations.ConfigureZoneWrites : Prop :=
  ∀ (s : State) (z : ZoneId) (b c a : Byte) (cls : ZoneClass) (area : Area) (release eligible : Bool),
    s.house.phase = .unconfigured ∨ s.house.phase = .dark → b.toNat = z.val →
    (c = 0 ∧ cls = .detector ∨ c = 1 ∧ cls = .callPoint ∨ c = 2 ∧ cls = .suppression) →
    (a = 0 ∧ area = .stage ∨ a = 1 ∧ area = .auditorium ∨ a = 2 ∧ area = .front ∨ a = 3 ∧ area = .backstage) →
    ∀ r, r = (if release then (1 : Byte) else 0) → ∀ e, e = (if eligible then (1 : Byte) else 0) →
    takeable .house ⟨0x01, [0, b, c, a, r, e]⟩ s = true →
    ∃ t, exec (.configureZone .house b c a r e) s = .next t ∧
      AnsweredWith .house 0x01 (done (.config 0 (some z.val) [c.toNat, a.toNat, r.toNat, e.toNat])) s t ∧
      t.fire.zones[z].cls = cls ∧ t.fire.zones[z].area = area ∧ t.fire.zones[z].curtainRelease = release ∧
      t.fire.zones[z].delayEligible = eligible ∧
      (∀ y : ZoneId, y ≠ z → t.fire.zones[y].cls = s.fire.zones[y].cls ∧ t.fire.zones[y].area = s.fire.zones[y].area ∧
        t.fire.zones[y].curtainRelease = s.fire.zones[y].curtainRelease ∧
        t.fire.zones[y].delayEligible = s.fire.zones[y].delayEligible) ∧
      (z ∉ s.fire.alarmList → KeepsOtherBlocks s t ∧ t.fire = { s.fire with
        zones := s.fire.zones.set z { s.fire.zones[z] with
          cls := cls, area := area, curtainRelease := release, delayEligible := eligible } }) ∧
      (z ∈ s.fire.alarmList → s.fire.condition = .alert → cls ≠ s.fire.zones[z].cls → cls ≠ .detector →
        Evacuated (if c = 1 then .callPoint else .suppression) s t) ∧
      (z ∈ s.fire.alarmList → cls = .detector ∨ s.fire.condition ≠ .alert ∨ cls = s.fire.zones[z].cls →
        t.fire.condition = s.fire.condition ∧ t.fire.enteredAt = s.fire.enteredAt ∧
        t.fire.alarmList = s.fire.alarmList ∧
        t.fire.zones = s.fire.zones.set z { s.fire.zones[z] with
          cls := cls, area := area, curtainRelease := release, delayEligible := eligible } ∧
        (t.fire.demand = true ↔ s.fire.condition = .evacuate ∨ s.fire.condition = .alert ∧
          ∃ x ∈ s.fire.alarmList, (if x = z then release else s.fire.zones[x].curtainRelease) = true) ∧
        t.lights = s.lights ∧ t.calls = s.calls ∧ KeepsBase s t)

/-- R87, R181, R182, R183: the curtain parameters, each brought into its range, the slow height below the travel; the
timing parameters, the option and a built-in call. -/
def Obligations.ParameterRecordsAreClamped : Prop :=
  (∀ (s : State) (T C S Tf Ts B D Vs W stall creep : Half),
     s.house.phase = .unconfigured ∨ s.house.phase = .dark →
     takeable .house (requestFrame (.configureCurtain .house T C S Tf Ts B D Vs W stall creep)) s = true →
     ∀ given : CurtainParams, given = ⟨T.toNat, C.toNat, S.toNat, Tf.toNat, Ts.toNat, B.toNat, D.toNat, Vs.toNat,
       W.toNat, stall.toNat, creep.toNat⟩ →
     ∀ stored : CurtainParams, stored = ⟨max 2000 (min 20000 T.toNat), max 100 (min 4000 C.toNat),
       min (min 4000 S.toNat) (max 2000 (min 20000 T.toNat) - 1), max 10 (min 250 Tf.toNat), min 200 Ts.toNat,
       min 500 B.toNat, max 1 (min 15 D.toNat), max 50 (min 1000 Vs.toNat), min 100 W.toNat,
       max 5 (min 200 stall.toNat), max 50 (min 500 creep.toNat)⟩ →
     exec (.configureCurtain .house T C S Tf Ts B D Vs W stall creep) s = .next (State.withReply .house 0x01
       ⟨if stored = given then .done else .clamped, .config 1 none [stored.travel, stored.countsPerMetre,
         stored.slowHeight, stored.fastAllowance, stored.slowAllowance, stored.lagTolerance, stored.lagPersistence,
         stored.slowSpeed, stored.landingWindow, stored.stallDistance, stored.creepLimit]⟩
       { s with params := { s.params with curtain := stored } })) ∧
  (∀ s : State, s.house.phase = .unconfigured ∨ s.house.phase = .dark →
     (∀ (v d : Half) (n e p r a b c f : Byte), p.toNat < 4 → r.toNat < 4 →
       takeable .house (requestFrame (.configureTiming .house v d n e p r a b c f)) s = true →
       ∀ g : TimingRecord, g = ⟨v.toNat, d.toNat, n.toNat, e.toNat, p.toNat, r.toNat, a.toNat, b.toNat, c.toNat,
         f.toNat⟩ →
       ∀ t : TimingRecord, t = ⟨max 100 (min 6000 v.toNat), min 600 d.toNat, max 1 (min 60 n.toNat), e.toNat, p.toNat, r.toNat,
         max 5 (min 100 a.toNat), max 5 (min 100 b.toNat), max 5 (min 100 c.toNat), max 5 (min 100 f.toNat)⟩ →
       exec (.configureTiming .house v d n e p r a b c f) s = .next (State.withReply .house 0x01
         ⟨if t = g then .done else .clamped, .config 7 none [t.investigation, t.showDelay, t.interval, t.escapeMin,
           t.parkSlot, t.restoreSlot, t.supervisionP, t.supervisionH, t.supervisionF, t.supervisionC]⟩
         { s with params := { s.params with
           investigation := t.investigation, showDelay := t.showDelay, interval := t.interval
           escapeMin := t.escapeMin, parkSlot := t.parkSlot, restoreSlot := t.restoreSlot
           supervisionP := t.supervisionP, supervisionH := t.supervisionH, supervisionF := t.supervisionF
           supervisionC := t.supervisionC } })) ∧
     (∀ on : Bool, ∀ d, d = (if on then (1 : Byte) else 0) → takeable .house ⟨0x01, [9, d]⟩ s = true →
       exec (.configureOption .house d) s = .next (State.withReply .house 0x01 (done (.config 9 none [d.toNat]))
         { s with params := { s.params with demoRequired := on } })) ∧
     (∀ (m : Byte) (l g : Half), m ≠ 0 →
       ∀ r : BuiltInConfig, r = ⟨m.toNat, max 1 (min 600 l.toNat), min 3000 g.toNat⟩ →
       (takeable .house (requestFrame (.configureBuiltInCall .house 1 m l g)) s = true →
         exec (.configureBuiltInCall .house 1 m l g) s = .next (State.withReply .house 0x01
           ⟨if r = ⟨m.toNat, l.toNat, g.toNat⟩ then .done else .clamped,
             .config 6 (some 1) [r.message, r.length, r.gap]⟩
           { s with params := { s.params with evacuationCall := r } })) ∧
       (takeable .house (requestFrame (.configureBuiltInCall .house 2 m l g)) s = true →
         exec (.configureBuiltInCall .house 2 m l g) s = .next (State.withReply .house 0x01
           ⟨if r = ⟨m.toNat, l.toNat, g.toNat⟩ then .done else .clamped,
             .config 6 (some 2) [r.message, r.length, r.gap]⟩
           { s with params := { s.params with staffAlertCall := r } }))))

/-- R102, R103, R107, R181: a circuit, a slot and a preset. -/
def Obligations.LightingRecordsAreWritten : Prop :=
  ∀ s : State, s.house.phase = .unconfigured ∨ s.house.phase = .dark →
    (∀ (i : Fin 48) (b n k : Byte) (lit masked : Bool), b.toNat = i.val → n.toNat < 4 →
      ∀ e, e = (if lit then (1 : Byte) else 0) → ∀ m, m = (if masked then (1 : Byte) else 0) →
      takeable .house ⟨0x01, [2, b, n, e, m, k]⟩ s = true →
      exec (.configureCircuit .house b n e m k) s = .next (State.withReply .house 0x01
        (done (.config 2 (some i.val) [n.toNat, e.toNat, m.toNat, k.toNat]))
        { s with lights := { s.lights with circuits := s.lights.circuits.set i { s.lights.circuits[i] with
          slot := n.toNat, escapeLit := lit, masked := masked, park := k.toNat } } })) ∧
    (∀ (i : Fin 4) (b c : Byte), b.toNat = i.val → c.toNat < 16 → takeable .house ⟨0x01, [3, b, c]⟩ s = true →
      exec (.configureSlot .house b c) s = .next (State.withReply .house 0x01
        (done (.config 3 (some i.val) [c.toNat]))
        { s with lights := { s.lights with slots := s.lights.slots.set i c.toNat } })) ∧
    (∀ (i : Fin 8) (b n : Byte) (levels : Vector Byte 48) (used : Bool), b.toNat = i.val + 1 → n.toNat < 4 →
      ∀ u, u = (if used then (1 : Byte) else 0) → takeable .house (requestFrame (.configurePreset .house b levels n u)) s = true →
      ∃ t, exec (.configurePreset .house b levels n u) s = .next t ∧
        t = State.withReply .house 0x01
          (done (.config 4 (some (i.val + 1)) (levels.toList.map (·.toNat) ++ [n.toNat, u.toNat])))
          { s with lights := { s.lights with presets := s.lights.presets.set i t.lights.presets[i] } } ∧
        t.lights.presets[i].slot = n.toNat ∧ t.lights.presets[i].inUse = used ∧
        ∀ x : Fin 48, t.lights.presets[i].levels[x] = levels[x].toNat)

/-- R25, R26, R148, R181, R182: a paging zone record; a line record, whose raw reading is formed again at once. -/
def Obligations.PagingAndLineRecordsAreWritten : Prop :=
  (∀ (s : State) (z : Fin 12) (b : Byte) (staff evac : Bool), s.house.phase = .unconfigured ∨ s.house.phase = .dark →
     b.toNat = z.val → ∀ st, st = (if staff then (1 : Byte) else 0) → ∀ ev, ev = (if evac then (1 : Byte) else 0) →
     takeable .house ⟨0x01, [5, b, st, ev]⟩ s = true →
     ∃ t, exec (.configurePagingZone .house b st ev) s = .next t ∧
       AnsweredWith .house 0x01 (done (.config 5 (some z.val) [st.toNat, ev.toNat])) s t ∧ KeepsAllButCalls s t ∧
       t.calls.paging[z].staff = staff ∧ t.calls.paging[z].evac = evac ∧
       (∀ y : Fin 12, t.calls.paging[y].muted = s.calls.paging[y].muted ∧
         t.calls.paging[y].held = s.calls.paging[y].held ∧
         (y ≠ z → t.calls.paging[y].staff = s.calls.paging[y].staff ∧
           t.calls.paging[y].evac = s.calls.paging[y].evac)) ∧
       (NothingWaits s.calls → t.calls = { s.calls with
         paging := s.calls.paging.set z { s.calls.paging[z] with staff := staff, evac := evac } })) ∧
  (∀ (s : State) (l : Line) (b t : Byte) (closedNormally : Bool),
     s.house.phase = .unconfigured ∨ s.house.phase = .dark → b.toNat = l.val →
     ∀ q, q = (if closedNormally then (1 : Byte) else 0) → takeable .house ⟨0x01, [8, b, q, t]⟩ s = true →
     ∀ raw, raw = (if l.val ≤ 8 ∧ s.pins.lines[l].sound = false then Reading.faulty
       else if s.pins.lines[l].closed = closedNormally then .quiet else .active) →
     ∀ r, r = s.lines[l] →
     exec (.configureLine .house b q t) s = .next (State.withReply .house 0x01
         ⟨if 1 ≤ t.toNat ∧ t.toNat ≤ 50 then .done else .clamped,
           .config 8 (some l.val) [q.toNat, max 1 (min 50 t.toNat)]⟩
         { s with lines := s.lines.set l ⟨closedNormally, max 1 (min 50 t.toNat), r.settled,
           if r.settled = none ∨ r.candidate.map Prod.fst = some raw ∧ r.settled ≠ some raw then r.candidate
           else if r.settled = some raw then none else some (raw, max 1 (min 50 t.toNat))⟩ }))

/-! ## Supply, lines and time (chapters 00, 02, 11) -/

/-- R1, R23, R42, R46, R61, R87, R101, R103, R107, R115, R129, R130, R131, R148, R150, R167, R182, R183, R184, R185,
Tables 2-1, 3-1, 4-1, 5-1, 6-1, 7-1, 9-1, 11-2, 11-3 and 11-4: what reset leaves, of every block. The count of samples
owed, the last field of the curtain, is the model’s own (log 5), and State.reset stands for the moment after power-on
(log 7). -/
def Obligations.ResetLeavesThePowerOnValues : Prop :=
  State.reset.clock = 0 ∧ State.reset.inert = false ∧ State.reset.startUp = some 20 ∧ State.reset.house =
      ⟨.unconfigured, 0, none, .withheld, false, false, false, ⟨none, none, none, none, none, none⟩, 0⟩ ∧
    (∀ z : ZoneId, State.reset.fire.zones[z] = ⟨.detector, .auditorium, false, false,
      if z.val < 8 then .normal else .fault, if z.val < 8 then .quiet else .faulty, 0, none, none, false, false, false⟩) ∧
    State.reset.fire = ⟨State.reset.fire.zones, [], .quiet, none, none, 0, none, false⟩ ∧
    State.reset.promptAttention = false ∧ State.reset.houseAttention = false ∧
    State.reset.curtain = ⟨.descending, 0, .powerOn, false, false, false, ⟨false, false, false, false, false, true⟩,
      none, none, 0, ⟨none, none, none, none, none, none, none, none, none⟩, none, 0⟩ ∧
    State.reset.curtainOutputs = ⟨false, false, false, false⟩ ∧
    (∀ i : Fin 48, State.reset.lights.circuits[i] = ⟨1, false, false, 200, 255, none⟩) ∧
    State.reset.lights.slots.toList = [0, 6, 9, 3] ∧
    (∀ n : Fin 8, State.reset.lights.presets[n].slot = 1 ∧ State.reset.lights.presets[n].inUse = false ∧
      ∀ i : Fin 48, State.reset.lights.presets[n].levels[i] = 0) ∧
    State.reset.lights.authority = .house ∧ State.reset.lights.authorityAt = 0 ∧
    State.reset.lights.authorityCause = none ∧ State.reset.lights.panic = false ∧
    State.reset.lights.fireSeen = .quiet ∧ State.reset.lights.phaseSeen = .unconfigured ∧
    State.reset.lights.stopSeen = none ∧ State.reset.lights.consoleSeen = false ∧
    State.reset.lights.blackout = .quiet ∧
    (∀ x : CallId, State.reset.calls.table[x].life = .free ∧ State.reset.calls.table[x].plays = 0 ∧
      State.reset.calls.table[x].missed = 0) ∧
    State.reset.calls.pool = (List.finRange 48).drop 2 ∧ State.reset.calls.waiting = [] ∧
    State.reset.calls.timetable = [] ∧ State.reset.calls.ready = [] ∧ State.reset.calls.finished = [] ∧
    State.reset.calls.promptQueue = [] ∧ State.reset.calls.houseQueue = [] ∧
    State.reset.calls.fireSeen = .quiet ∧ State.reset.calls.arbiterFire = .quiet ∧
    State.reset.calls.phaseSeen = .unconfigured ∧ State.reset.calls.evacuation = .notRunning ∧
    State.reset.calls.staffAlert = .notRunning ∧
    (∀ ch : Channel, State.reset.calls.chan ch =
        ⟨.idle, none, 0, 0, 0, none, none, none, none, none, false, false⟩ ∧
      State.reset.messageOutput ch = 0 ∧ State.reset.strobes ch = (false, false)) ∧
    (∀ z : Fin 12, State.reset.calls.paging[z] = ⟨false, true, false, false, none⟩ ∧ State.reset.relay z = none) ∧
    (∀ p : Port, State.reset.links.get p = ⟨false, none, [], [], none, none, none, []⟩) ∧
    (∀ l : Line, State.reset.lines[l] = ⟨false, if l.val < 8 then 5 else 2, none, none⟩) ∧
    State.reset.params = ⟨⟨8000, 1000, 2000, 200, 100, 150, 3, 300, 20, 30, 100⟩, 1800, 0, 20, 64, 3, 2, 20, 20, 20, 20,
      ⟨1, 300, 50⟩, ⟨2, 200, 100⟩, true⟩

/-- R150, R184 (and log 19): power-on gives every block its power-on values, and faults a channel whose PLAYING line
is high; the reset pin holds the part inert with every output off; while it is inert no other command changes anything
but the levels on the pins. -/
def Obligations.SupplyAndReset : Prop :=
  (∀ s : State, ∃ t, exec .powerOn s = .next t ∧
     t = { State.reset with pins := s.pins, pending := s.pending, calls := t.calls } ∧
     t.calls = { State.reset.calls with chanA := t.calls.chanA, chanB := t.calls.chanB } ∧
     (∀ ch : Channel, s.pins.playing ch = false → t.calls.chan ch = ChannelRecord.idle) ∧
     (∀ ch : Channel, s.pins.playing ch = true → t.calls.chan ch =
       { ChannelRecord.idle with state := .faulted, fault := some .unsolicited })) ∧
  (∀ s : State, ∃ t, exec .resetAsserted s = .next t ∧
     t = { State.reset with inert := true, pins := s.pins, pending := s.pending } ∧
     t.curtainOutputs = ⟨false, false, false, false⟩ ∧ t.promptAttention = false ∧ t.houseAttention = false ∧
     (∀ z : Fin 12, t.relay z = none) ∧ ∀ ch : Channel, t.messageOutput ch = 0 ∧ t.strobes ch = (false, false)) ∧
  (∀ (c : Instr) (s : State), s.inert = true → c ≠ .powerOn → c ≠ .resetAsserted →
     ∃ t, exec c s = .next t ∧ t = { s with pins := t.pins })

/-- R2, R20, R26, R31, R49, R63, R105, R150, R159, R170, R185 (and logs 4, 5, 8, 15): one decisecond of the clock and
of every timer. The end of the countdown sets the mark that INTERVAL UP is due, which is the model’s own (log 15). -/
def Obligations.DecisecondRunsEveryTimer : Prop :=
  ∀ (raw : BitVec 17) (s : State), s.inert = false →
    ∃ t, exec (.performanceClockTick raw) s = .next t ∧
      t.clock = min (s.clock + 1) 4294967295 ∧ t.pins = { s.pins with encoder := raw } ∧
      t.startUp = s.startUp.map (· - 1) ∧ t.params = s.params ∧ t.inert = false ∧ t.pending = s.pending ∧
      t.house = { s.house with
        countdown := if s.house.phase = .interval then s.house.countdown - 1 else s.house.countdown } ∧
      (t.intervalUpDue = true ↔
        s.intervalUpDue = true ∨ s.house.phase = .interval ∧ s.house.countdown = 1) ∧
      (∀ l : Line, t.lines[l] = { s.lines[l] with candidate := s.lines[l].candidate.map fun x => (x.1, x.2 - 1) }) ∧
      (∀ z : ZoneId, t.fire.zones[z] =
        { s.fire.zones[z] with delayRemaining := s.fire.zones[z].delayRemaining.map (· - 1) }) ∧
      t.fire = { s.fire with zones := t.fire.zones, investigation := s.fire.investigation.map (· - 1) } ∧
      t.curtain = { s.curtain with samplesDue :=
        if s.curtain.state = .raising ∨ s.curtain.state = .stowed ∨
            ((s.curtain.state = .descending ∨ s.curtain.state = .secondary ∨ s.curtain.state = .jammed) ∧
              s.curtain.descent ≠ none) then s.curtain.samplesDue + 1
        else s.curtain.samplesDue } ∧
      t.lights = { s.lights with stepsDue := t.lights.stepsDue } ∧
      (∀ i : Fin 48, t.lights.stepsDue[i] =
        if s.lights.circuits[i].fade = none then 0 else s.lights.stepsDue[i] + 1) ∧
      (∀ ch : Channel, t.calls.chan ch = { s.calls.chan ch with
        startTimer := (s.calls.chan ch).startTimer.map (· - 1)
        guardTimer := (s.calls.chan ch).guardTimer.map (· - 1)
        stopTimer := (s.calls.chan ch).stopTimer.map (· - 1), startStrobe := false, stopStrobe := false }) ∧
      t.calls = { s.calls with
        chanA := t.calls.chanA, chanB := t.calls.chanB
        evacuation := match s.calls.evacuation with
          | .inGap ch n => .inGap ch (n - 1)
          | r => r
        staffAlert := match s.calls.staffAlert with
          | .inGap ch n => .inGap ch (n - 1)
          | r => r } ∧
      (∀ p : Port, t.links.get p = { s.links.get p with timer := (s.links.get p).timer.map (· - 1) })

/-- R6, R27, R86, R124, R185: the end of the start-up settle takes the raw reading of every line as its settled state.
A zone that ISOLATE ZONE had isolated takes its baseline as a NORMAL one does where it does not read QUIET (the
model’s choice, log 30). -/
def Obligations.StartUpSettleTakesTheBaselines : Prop :=
  ∀ s : State, s.inert = false → s.startUp = some 0 →
    ∃ t, exec .startUpSettleEnd s = .next t ∧ t.startUp = none ∧ KeepsLinks s t ∧
      (∀ l : Line, t.lines[l] = { s.lines[l] with settled := some (s.raw l), candidate := none }) ∧
      (∀ (z : ZoneId) (l : Line), z.val < 8 → l.val = z.val → t.fire.zones[z].input = s.raw l ∧
        t.fire.zones[z].state = if s.raw l = .quiet then s.fire.zones[z].state else .fault) ∧
      (∀ z : ZoneId, 8 ≤ z.val → t.fire.zones[z] = s.fire.zones[z]) ∧
      t.fire = { s.fire with zones := t.fire.zones } ∧ t.lights = { s.lights with blackout := s.raw blackoutLine } ∧
      t.curtain.hardLine = decide (s.raw fireLine ≠ .quiet) ∧ t.curtain.manual = s.curtain.manual ∧
      (s.raw bottomLine = .active → t.curtain.state = .landed ∧ t.curtain.reason = .bottomLimit ∧
        t.curtain.homeOffset = s.pins.encoder.toNat ∧ t.curtain.causes.powerOn = false) ∧
      (s.raw bottomLine ≠ .active → t.curtain.lowCount = some 0 ∧ t.curtain.descent ≠ none ∧
        (s.curtain.state = .descending → t.curtain.state = .descending)) ∧
      t.calls = s.calls ∧ t.params = s.params ∧ t.pins = s.pins ∧ t.clock = s.clock ∧ t.pending = s.pending ∧
      t.inert = false ∧ t.intervalUpDue = s.intervalUpDue ∧
      (s.curtain.state = .descending → t.house = { s.house with
        demoMark := s.house.demoMark || (decide (s.raw bottomLine = .active) && s.house.phase.occupied &&
          decide (s.fire.condition = .quiet)) })

/-- R6, R25, R26, R65, R66, R75, R78, R81, R124, R185: new levels on a line form a new raw reading, and a candidate
where it differs from the settled state; a settle timer runs out and the settled change reaches its block. A landing
and a STOWED reach the demonstration mark and curtain shown; a bottom limit that closes in LANDED homes the count. -/
def Obligations.LineChangesSettleAndReachTheirBlocks : Prop :=
  (∀ (s : State) (l : Line) (sound closed : Bool), s.inert = false →
     ∀ raw, raw = (if l.val ≤ 8 ∧ sound = false then Reading.faulty
       else if closed = s.lines[l].normallyClosed then .quiet else .active) →
     ∀ r, r = s.lines[l] →
       ∀ candidate, candidate = (if r.settled = none ∨ (r.candidate.map Prod.fst = some raw ∧ r.settled ≠ some raw) then
         r.candidate else if r.settled = some raw then none else some (raw, r.settleTime)) →
       exec (.lineRawChange l sound closed) s = .next { s with
         pins := { s.pins with lines := s.pins.lines.set l ⟨sound, closed⟩ }
         lines := s.lines.set l { r with candidate := candidate } }) ∧
  (∀ (s : State) (l : Line) (c : Reading), s.inert = false →
     (s.lines[l].candidate = some (c, 0) →
       ∃ t, exec (.settleExpiry l) s = .next t ∧ KeepsFixed s t ∧ KeepsLinks s t ∧
         t.lines = s.lines.set l { s.lines[l] with settled := some c, candidate := none } ∧
         (∀ z : ZoneId, l.val < 8 → z.val = l.val → t.fire.zones[z].input = c) ∧
         (8 ≤ l.val → t.fire = s.fire ∧ t.calls = s.calls) ∧ (l.val ≠ 10 → 8 ≤ l.val → t.lights = s.lights) ∧
         (l.val = 8 → (c = .quiet → t.curtain.hardLine = false ∧ t.curtain.causes.hardLine = false ∧
             t.curtain.state = s.curtain.state) ∧
           (c ≠ .quiet → s.lines[l].settled = some .quiet → t.curtain.hardLine = true ∧
             t.curtain.causes.hardLine = true ∧ t.curtain.state.heldOut = false)) ∧
         (l.val = 9 → c = .active → s.lines[l].settled = some .quiet → t.curtain.manual = true ∧
           t.curtain.causes.manual = true ∧ t.curtain.state.heldOut = false) ∧
         (l.val = 9 → c = .quiet → t.curtain = s.curtain) ∧
         (l.val = 10 → t.lights = { s.lights with blackout := c } ∧ t.curtain = s.curtain) ∧
         (l.val = 11 → c = .active → s.curtain.state.falling = true → t.curtain.state = .landed ∧
           t.curtain.reason = .bottomLimit ∧ t.curtain.homeOffset = s.pins.encoder.toNat ∧
           t.house = { s.house with demoMark := s.house.demoMark || (s.house.phase.occupied &&
             decide (s.fire.condition = .quiet)) }) ∧
         (l.val = 11 → c = .active → s.curtain.state = .landed → t.house = s.house ∧
           ∀ p, p = (s.pins.encoder.toNat - s.curtain.homeOffset) * 1000 / s.params.curtain.countsPerMetre →
           t.curtain = { s.curtain with
             homeOffset := s.pins.encoder.toNat
             faults := if s.params.curtain.landingWindow < p then
                 { s.curtain.faults with encoderDisagree := some s.clock, correction := some p }
               else s.curtain.faults }) ∧
         (l.val = 12 → c = .active → s.curtain.state = .raising → t.curtain.state = .stowed ∧
           t.curtain.reason = .topLimit ∧ t.curtain.raise = none ∧
           t.house = { s.house with
             demoMark := false
             curtainShown := s.house.curtainShown || (s.house.demoMark && s.house.phase.occupied) }) ∧
         (l.val = 12 → s.curtain.state ≠ .raising → t.curtain = s.curtain ∧ t.house = s.house)) ∧
     (∀ n, s.lines[l].candidate = none ∨ s.lines[l].candidate = some (c, n + 1) → exec (.settleExpiry l) s = .next s))

/-! ## What every step keeps -/

/-- R130, R131, R132, R159, R160, R161, R162, R163, R165, R170, R172, R176, R177: the queues of every port stay within
their bounds, a LOST port holds no notice, no overrun mark and no timer, and a completion queue holds at most 16
entries; every call stands in the one collection its life state names, each collection in its order, and a built-in
call runs exactly in its condition. The creation number by which the order of creation is kept is the model’s own (log
16). -/
def Obligations.EveryStepKeepsTheQueues : Prop :=
  (KeptByStep fun s => s.linksLawful ∧ s.calls.queuesBounded) ∧ KeptByStep State.callsLawful

/-- R57, R61, R62, R64, R72 (hand-offs: R4, R119, R140, R146, R156): the held demands and the cause set agree, nothing
is a cause while the curtain is held out, and RAISING holds only in QUIET; what each block has seen of another is what
the other holds. -/
def Obligations.EveryStepKeepsTheCurtainLaw : Prop :=
  KeptByStep fun s => s.curtainLawful ∧ s.handedOn

/-- R1, R22, R27, R31, R36, R47, R185: the alarm list holds each zone in ALARM once, a DELAYED zone waits under show
mode alone, and the law of the ladder holds; until the start-up settle ends every local zone reads QUIET. -/
def Obligations.EveryStepKeepsTheLadderLaw : Prop :=
  KeptByStep fun s => s.fireLawful ∧ s.houseLawful ∧ s.startUpLawful

/-- R101, R105, R107, R118: the authority is CONSOLE only in the three phases, with the console link PRESENT, and not
in EVACUATE; every level stays in 0 to 255 and every fade within its duration. -/
def Obligations.EveryStepKeepsTheLights : Prop :=
  (KeptByStep fun s => s.lights.authorityLawful) ∧
  (KeptByStep State.levelsLawful)

/-- R1, R36, R47, R62, R64, R105, R118, R131, R132, R165, R176: every law that a step keeps holds right after reset.
-/
def Obligations.ResetIsLawful : Prop :=
  State.reset.linksLawful ∧ State.reset.curtainLawful ∧ State.reset.fireLawful ∧
    State.reset.lights.authorityLawful ∧ State.reset.levelsLawful ∧ State.reset.handedOn ∧
    State.reset.houseLawful ∧ State.reset.startUpLawful ∧ State.reset.calls.queuesBounded ∧ State.reset.callsLawful
end

