-- ==== Sys2Proof/Config.lean ====
section
/-! DEFINITION. What the manual leaves to the implementation: the byte that codes each value of an enumerated field in a
reply or notice, where no rule gives the code (R180; log 14). Each code is a free value: a constant with no body. -/
namespace Sys2Proof.Config
open Sys2Proof.Machine

opaque phaseCode : Phase → Byte
opaque stopCauseCode : StopCause → Byte
opaque clearanceCode : Clearance → Byte
opaque clearanceCauseCode : ClearanceCause → Byte
opaque zoneStateCode : ZoneState → Byte
opaque readingCode : Reading → Byte
/-- Open (`false`) and closed (`true`) of a limit switch in READ CURTAIN (R85, Table 11-3), which no rule codes. They
share no code with QUIET and ACTIVE. -/
opaque limitCode : Bool → Byte

opaque zoneCauseCode : ZoneCause → Byte
opaque conditionCode : Condition → Byte
opaque fireCauseCode : FireCause → Byte
opaque authorityCode : Authority → Byte
opaque authorityCauseCode : AuthorityCause → Byte
/-- The kind of a built-in call, which Table 10-9 does not code. -/
opaque builtInKindCode : BuiltIn → Byte

opaque deskCode : Desk → Byte
opaque dueBasisCode : DueBasis → Byte
opaque callOutcomeCode : CallOutcome → Byte
opaque channelStateCode : ChannelState → Byte
opaque channelFaultCode : ChannelFault → Byte
opaque connectionCode : Option Channel → Byte
opaque portCode : Port → Byte

/-- The presence state, `true` for PRESENT: of a port (R171, R179) and of the console link seen (R115). -/
opaque presenceCode : Bool → Byte

end Sys2Proof.Config
end

