-- ==== Sys2Proof/Laws/State.lean ====
section
/-! SUPPORT. One lemma per field for every update of the whole state: what the update writes, and that it leaves every
other field as it was. -/
namespace Sys2Proof.Machine

/-! ## Raising notices -/

@[simp] theorem State.post_clock (ms : List Mail) (s : State) : (s.post ms).clock = s.clock := rfl
@[simp] theorem State.post_inert (ms : List Mail) (s : State) : (s.post ms).inert = s.inert := rfl
@[simp] theorem State.post_startUp (ms : List Mail) (s : State) : (s.post ms).startUp = s.startUp := rfl
@[simp] theorem State.post_pins (ms : List Mail) (s : State) : (s.post ms).pins = s.pins := rfl
@[simp] theorem State.post_params (ms : List Mail) (s : State) : (s.post ms).params = s.params := rfl
@[simp] theorem State.post_lines (ms : List Mail) (s : State) : (s.post ms).lines = s.lines := rfl
@[simp] theorem State.post_house (ms : List Mail) (s : State) : (s.post ms).house = s.house := rfl
@[simp] theorem State.post_intervalUpDue (ms : List Mail) (s : State) :
    (s.post ms).intervalUpDue = s.intervalUpDue := rfl
@[simp] theorem State.post_fire (ms : List Mail) (s : State) : (s.post ms).fire = s.fire := rfl
@[simp] theorem State.post_curtain (ms : List Mail) (s : State) : (s.post ms).curtain = s.curtain := rfl
@[simp] theorem State.post_lights (ms : List Mail) (s : State) : (s.post ms).lights = s.lights := rfl
@[simp] theorem State.post_calls (ms : List Mail) (s : State) : (s.post ms).calls = s.calls := rfl
@[simp] theorem State.post_links (ms : List Mail) (s : State) : (s.post ms).links = s.links.post s.clock ms := rfl
@[simp] theorem State.post_pending (ms : List Mail) (s : State) : (s.post ms).pending = s.pending := rfl

/-! ## One port -/

@[simp] theorem State.setPort_clock (p : Port) (r : PortRecord) (s : State) : (s.setPort p r).clock = s.clock := rfl
@[simp] theorem State.setPort_inert (p : Port) (r : PortRecord) (s : State) : (s.setPort p r).inert = s.inert := rfl
@[simp] theorem State.setPort_startUp (p : Port) (r : PortRecord) (s : State) :
    (s.setPort p r).startUp = s.startUp := rfl
@[simp] theorem State.setPort_pins (p : Port) (r : PortRecord) (s : State) : (s.setPort p r).pins = s.pins := rfl
@[simp] theorem State.setPort_params (p : Port) (r : PortRecord) (s : State) :
    (s.setPort p r).params = s.params := rfl
@[simp] theorem State.setPort_lines (p : Port) (r : PortRecord) (s : State) : (s.setPort p r).lines = s.lines := rfl
@[simp] theorem State.setPort_house (p : Port) (r : PortRecord) (s : State) : (s.setPort p r).house = s.house := rfl
@[simp] theorem State.setPort_intervalUpDue (p : Port) (r : PortRecord) (s : State) :
    (s.setPort p r).intervalUpDue = s.intervalUpDue := rfl
@[simp] theorem State.setPort_fire (p : Port) (r : PortRecord) (s : State) : (s.setPort p r).fire = s.fire := rfl
@[simp] theorem State.setPort_curtain (p : Port) (r : PortRecord) (s : State) :
    (s.setPort p r).curtain = s.curtain := rfl
@[simp] theorem State.setPort_lights (p : Port) (r : PortRecord) (s : State) :
    (s.setPort p r).lights = s.lights := rfl
@[simp] theorem State.setPort_calls (p : Port) (r : PortRecord) (s : State) : (s.setPort p r).calls = s.calls := rfl
@[simp] theorem State.setPort_links (p : Port) (r : PortRecord) (s : State) :
    (s.setPort p r).links = s.links.set p r := rfl
@[simp] theorem State.setPort_pending (p : Port) (r : PortRecord) (s : State) :
    (s.setPort p r).pending = s.pending := rfl

/-! ## The Call Scheduler and the Call Arbiter act -/

@[simp] theorem State.onCalls_clock (f : CallEnv → Act Calls → Act Calls) (s : State) :
    (s.onCalls f).clock = s.clock := rfl
@[simp] theorem State.onCalls_inert (f : CallEnv → Act Calls → Act Calls) (s : State) :
    (s.onCalls f).inert = s.inert := rfl
@[simp] theorem State.onCalls_startUp (f : CallEnv → Act Calls → Act Calls) (s : State) :
    (s.onCalls f).startUp = s.startUp := rfl
@[simp] theorem State.onCalls_pins (f : CallEnv → Act Calls → Act Calls) (s : State) :
    (s.onCalls f).pins = s.pins := rfl
@[simp] theorem State.onCalls_params (f : CallEnv → Act Calls → Act Calls) (s : State) :
    (s.onCalls f).params = s.params := rfl
@[simp] theorem State.onCalls_lines (f : CallEnv → Act Calls → Act Calls) (s : State) :
    (s.onCalls f).lines = s.lines := rfl
@[simp] theorem State.onCalls_house (f : CallEnv → Act Calls → Act Calls) (s : State) :
    (s.onCalls f).house = s.house := rfl
@[simp] theorem State.onCalls_intervalUpDue (f : CallEnv → Act Calls → Act Calls) (s : State) :
    (s.onCalls f).intervalUpDue = s.intervalUpDue := rfl
@[simp] theorem State.onCalls_fire (f : CallEnv → Act Calls → Act Calls) (s : State) :
    (s.onCalls f).fire = s.fire := rfl
@[simp] theorem State.onCalls_curtain (f : CallEnv → Act Calls → Act Calls) (s : State) :
    (s.onCalls f).curtain = s.curtain := rfl
@[simp] theorem State.onCalls_lights (f : CallEnv → Act Calls → Act Calls) (s : State) :
    (s.onCalls f).lights = s.lights := rfl
@[simp] theorem State.onCalls_calls (f : CallEnv → Act Calls → Act Calls) (s : State) :
    (s.onCalls f).calls = (f s.callEnv ⟨s.calls, []⟩).val := rfl
@[simp] theorem State.onCalls_links (f : CallEnv → Act Calls → Act Calls) (s : State) :
    (s.onCalls f).links = s.links.post s.clock (f s.callEnv ⟨s.calls, []⟩).out := rfl
@[simp] theorem State.onCalls_pending (f : CallEnv → Act Calls → Act Calls) (s : State) :
    (s.onCalls f).pending = s.pending := rfl

/-! ## The Curtain Controller acts -/

@[simp] theorem State.onCurtain_clock (f : CurtainEnv → Act Curtain → Act Curtain) (s : State) :
    (s.onCurtain f).clock = s.clock := rfl
@[simp] theorem State.onCurtain_inert (f : CurtainEnv → Act Curtain → Act Curtain) (s : State) :
    (s.onCurtain f).inert = s.inert := rfl
@[simp] theorem State.onCurtain_startUp (f : CurtainEnv → Act Curtain → Act Curtain) (s : State) :
    (s.onCurtain f).startUp = s.startUp := rfl
@[simp] theorem State.onCurtain_pins (f : CurtainEnv → Act Curtain → Act Curtain) (s : State) :
    (s.onCurtain f).pins = s.pins := rfl
@[simp] theorem State.onCurtain_params (f : CurtainEnv → Act Curtain → Act Curtain) (s : State) :
    (s.onCurtain f).params = s.params := rfl
@[simp] theorem State.onCurtain_lines (f : CurtainEnv → Act Curtain → Act Curtain) (s : State) :
    (s.onCurtain f).lines = s.lines := rfl
@[simp] theorem State.onCurtain_house (f : CurtainEnv → Act Curtain → Act Curtain) (s : State) :
    (s.onCurtain f).house =
      demoBookkeeping s.curtain.state (f s.curtainEnv ⟨s.curtain, []⟩).val.state (s.fire.condition == .quiet) s.house := rfl
@[simp] theorem State.onCurtain_intervalUpDue (f : CurtainEnv → Act Curtain → Act Curtain) (s : State) :
    (s.onCurtain f).intervalUpDue = s.intervalUpDue := rfl
@[simp] theorem State.onCurtain_fire (f : CurtainEnv → Act Curtain → Act Curtain) (s : State) :
    (s.onCurtain f).fire = s.fire := rfl
@[simp] theorem State.onCurtain_curtain (f : CurtainEnv → Act Curtain → Act Curtain) (s : State) :
    (s.onCurtain f).curtain = (f s.curtainEnv ⟨s.curtain, []⟩).val := rfl
@[simp] theorem State.onCurtain_lights (f : CurtainEnv → Act Curtain → Act Curtain) (s : State) :
    (s.onCurtain f).lights = s.lights := rfl
@[simp] theorem State.onCurtain_calls (f : CurtainEnv → Act Curtain → Act Curtain) (s : State) :
    (s.onCurtain f).calls = s.calls := rfl
@[simp] theorem State.onCurtain_links (f : CurtainEnv → Act Curtain → Act Curtain) (s : State) :
    (s.onCurtain f).links = s.links.post s.clock (f s.curtainEnv ⟨s.curtain, []⟩).out := rfl
@[simp] theorem State.onCurtain_pending (f : CurtainEnv → Act Curtain → Act Curtain) (s : State) :
    (s.onCurtain f).pending = s.pending := rfl

/-! ## The Lighting Controller acts -/

@[simp] theorem State.onLights_clock (f : LightEnv → Act Lights → Act Lights) (s : State) :
    (s.onLights f).clock = s.clock := rfl
@[simp] theorem State.onLights_inert (f : LightEnv → Act Lights → Act Lights) (s : State) :
    (s.onLights f).inert = s.inert := rfl
@[simp] theorem State.onLights_startUp (f : LightEnv → Act Lights → Act Lights) (s : State) :
    (s.onLights f).startUp = s.startUp := rfl
@[simp] theorem State.onLights_pins (f : LightEnv → Act Lights → Act Lights) (s : State) :
    (s.onLights f).pins = s.pins := rfl
@[simp] theorem State.onLights_params (f : LightEnv → Act Lights → Act Lights) (s : State) :
    (s.onLights f).params = s.params := rfl
@[simp] theorem State.onLights_lines (f : LightEnv → Act Lights → Act Lights) (s : State) :
    (s.onLights f).lines = s.lines := rfl
@[simp] theorem State.onLights_house (f : LightEnv → Act Lights → Act Lights) (s : State) :
    (s.onLights f).house = s.house := rfl
@[simp] theorem State.onLights_intervalUpDue (f : LightEnv → Act Lights → Act Lights) (s : State) :
    (s.onLights f).intervalUpDue = s.intervalUpDue := rfl
@[simp] theorem State.onLights_fire (f : LightEnv → Act Lights → Act Lights) (s : State) :
    (s.onLights f).fire = s.fire := rfl
@[simp] theorem State.onLights_curtain (f : LightEnv → Act Lights → Act Lights) (s : State) :
    (s.onLights f).curtain = s.curtain := rfl
@[simp] theorem State.onLights_lights (f : LightEnv → Act Lights → Act Lights) (s : State) :
    (s.onLights f).lights = (f s.lightEnv ⟨s.lights, []⟩).val := rfl
@[simp] theorem State.onLights_calls (f : LightEnv → Act Lights → Act Lights) (s : State) :
    (s.onLights f).calls = s.calls := rfl
@[simp] theorem State.onLights_links (f : LightEnv → Act Lights → Act Lights) (s : State) :
    (s.onLights f).links = s.links.post s.clock (f s.lightEnv ⟨s.lights, []⟩).out := rfl
@[simp] theorem State.onLights_pending (f : LightEnv → Act Lights → Act Lights) (s : State) :
    (s.onLights f).pending = s.pending := rfl

/-! ## The zone table acts -/

@[simp] theorem State.onZones_clock (f : ZoneEvent) (s : State) : ((s.onZones f).1).clock = s.clock := rfl
@[simp] theorem State.onZones_inert (f : ZoneEvent) (s : State) : ((s.onZones f).1).inert = s.inert := rfl
@[simp] theorem State.onZones_startUp (f : ZoneEvent) (s : State) : ((s.onZones f).1).startUp = s.startUp := rfl
@[simp] theorem State.onZones_pins (f : ZoneEvent) (s : State) : ((s.onZones f).1).pins = s.pins := rfl
@[simp] theorem State.onZones_params (f : ZoneEvent) (s : State) : ((s.onZones f).1).params = s.params := rfl
@[simp] theorem State.onZones_lines (f : ZoneEvent) (s : State) : ((s.onZones f).1).lines = s.lines := rfl
@[simp] theorem State.onZones_house (f : ZoneEvent) (s : State) : ((s.onZones f).1).house = s.house := rfl
@[simp] theorem State.onZones_intervalUpDue (f : ZoneEvent) (s : State) :
    ((s.onZones f).1).intervalUpDue = s.intervalUpDue := rfl
@[simp] theorem State.onZones_fire (f : ZoneEvent) (s : State) :
    ((s.onZones f).1).fire = (f s.fireEnv ⟨s.fire, []⟩).1.val := rfl
@[simp] theorem State.onZones_curtain (f : ZoneEvent) (s : State) : ((s.onZones f).1).curtain = s.curtain := rfl
@[simp] theorem State.onZones_lights (f : ZoneEvent) (s : State) : ((s.onZones f).1).lights = s.lights := rfl
@[simp] theorem State.onZones_calls (f : ZoneEvent) (s : State) : ((s.onZones f).1).calls = s.calls := rfl
@[simp] theorem State.onZones_links (f : ZoneEvent) (s : State) :
    ((s.onZones f).1).links = s.links.post s.clock (f s.fireEnv ⟨s.fire, []⟩).1.out := rfl
@[simp] theorem State.onZones_pending (f : ZoneEvent) (s : State) : ((s.onZones f).1).pending = s.pending := rfl

/-! ## The lights are written -/

@[simp] theorem State.withLights_clock (l : Lights) (s : State) : (s.withLights l).clock = s.clock := rfl
@[simp] theorem State.withLights_inert (l : Lights) (s : State) : (s.withLights l).inert = s.inert := rfl
@[simp] theorem State.withLights_startUp (l : Lights) (s : State) : (s.withLights l).startUp = s.startUp := rfl
@[simp] theorem State.withLights_pins (l : Lights) (s : State) : (s.withLights l).pins = s.pins := rfl
@[simp] theorem State.withLights_params (l : Lights) (s : State) : (s.withLights l).params = s.params := rfl
@[simp] theorem State.withLights_lines (l : Lights) (s : State) : (s.withLights l).lines = s.lines := rfl
@[simp] theorem State.withLights_house (l : Lights) (s : State) : (s.withLights l).house = s.house := rfl
@[simp] theorem State.withLights_intervalUpDue (l : Lights) (s : State) :
    (s.withLights l).intervalUpDue = s.intervalUpDue := rfl
@[simp] theorem State.withLights_fire (l : Lights) (s : State) : (s.withLights l).fire = s.fire := rfl
@[simp] theorem State.withLights_curtain (l : Lights) (s : State) : (s.withLights l).curtain = s.curtain := rfl
@[simp] theorem State.withLights_lights (l : Lights) (s : State) : (s.withLights l).lights = l := rfl
@[simp] theorem State.withLights_calls (l : Lights) (s : State) : (s.withLights l).calls = s.calls := rfl
@[simp] theorem State.withLights_links (l : Lights) (s : State) : (s.withLights l).links = s.links := rfl
@[simp] theorem State.withLights_pending (l : Lights) (s : State) : (s.withLights l).pending = s.pending := rfl

/-! ## A line is read again -/

@[simp] theorem State.reread_clock (l : Line) (s : State) : (s.reread l).clock = s.clock := rfl
@[simp] theorem State.reread_inert (l : Line) (s : State) : (s.reread l).inert = s.inert := rfl
@[simp] theorem State.reread_startUp (l : Line) (s : State) : (s.reread l).startUp = s.startUp := rfl
@[simp] theorem State.reread_pins (l : Line) (s : State) : (s.reread l).pins = s.pins := rfl
@[simp] theorem State.reread_params (l : Line) (s : State) : (s.reread l).params = s.params := rfl
@[simp] theorem State.reread_lines (l : Line) (s : State) :
    (s.reread l).lines = s.lines.set l (s.lines[l].update (s.raw l)) := rfl
@[simp] theorem State.reread_house (l : Line) (s : State) : (s.reread l).house = s.house := rfl
@[simp] theorem State.reread_intervalUpDue (l : Line) (s : State) :
    (s.reread l).intervalUpDue = s.intervalUpDue := rfl
@[simp] theorem State.reread_fire (l : Line) (s : State) : (s.reread l).fire = s.fire := rfl
@[simp] theorem State.reread_curtain (l : Line) (s : State) : (s.reread l).curtain = s.curtain := rfl
@[simp] theorem State.reread_lights (l : Line) (s : State) : (s.reread l).lights = s.lights := rfl
@[simp] theorem State.reread_calls (l : Line) (s : State) : (s.reread l).calls = s.calls := rfl
@[simp] theorem State.reread_links (l : Line) (s : State) : (s.reread l).links = s.links := rfl
@[simp] theorem State.reread_pending (l : Line) (s : State) : (s.reread l).pending = s.pending := rfl

/-! ## The encoder is read -/

@[simp] theorem State.readEncoder_clock (raw : BitVec 17) (s : State) : (s.readEncoder raw).clock = s.clock := rfl
@[simp] theorem State.readEncoder_inert (raw : BitVec 17) (s : State) : (s.readEncoder raw).inert = s.inert := rfl
@[simp] theorem State.readEncoder_startUp (raw : BitVec 17) (s : State) :
    (s.readEncoder raw).startUp = s.startUp := rfl
@[simp] theorem State.readEncoder_pins (raw : BitVec 17) (s : State) :
    (s.readEncoder raw).pins = { s.pins with encoder := raw } := rfl
@[simp] theorem State.readEncoder_params (raw : BitVec 17) (s : State) : (s.readEncoder raw).params = s.params := rfl
@[simp] theorem State.readEncoder_lines (raw : BitVec 17) (s : State) : (s.readEncoder raw).lines = s.lines := rfl
@[simp] theorem State.readEncoder_house (raw : BitVec 17) (s : State) : (s.readEncoder raw).house = s.house := rfl
@[simp] theorem State.readEncoder_intervalUpDue (raw : BitVec 17) (s : State) :
    (s.readEncoder raw).intervalUpDue = s.intervalUpDue := rfl
@[simp] theorem State.readEncoder_fire (raw : BitVec 17) (s : State) : (s.readEncoder raw).fire = s.fire := rfl
@[simp] theorem State.readEncoder_curtain (raw : BitVec 17) (s : State) :
    (s.readEncoder raw).curtain = s.curtain := rfl
@[simp] theorem State.readEncoder_lights (raw : BitVec 17) (s : State) : (s.readEncoder raw).lights = s.lights := rfl
@[simp] theorem State.readEncoder_calls (raw : BitVec 17) (s : State) : (s.readEncoder raw).calls = s.calls := rfl
@[simp] theorem State.readEncoder_links (raw : BitVec 17) (s : State) : (s.readEncoder raw).links = s.links := rfl
@[simp] theorem State.readEncoder_pending (raw : BitVec 17) (s : State) :
    (s.readEncoder raw).pending = s.pending := rfl

/-! ## A PLAYING line moves -/

@[simp] theorem State.setPlaying_clock (ch : Channel) (level : Bool) (s : State) :
    (s.setPlaying ch level).clock = s.clock := rfl
@[simp] theorem State.setPlaying_inert (ch : Channel) (level : Bool) (s : State) :
    (s.setPlaying ch level).inert = s.inert := rfl
@[simp] theorem State.setPlaying_startUp (ch : Channel) (level : Bool) (s : State) :
    (s.setPlaying ch level).startUp = s.startUp := rfl
@[simp] theorem State.setPlaying_pins (ch : Channel) (level : Bool) (s : State) :
    (s.setPlaying ch level).pins = s.pins.setPlaying ch level := rfl
@[simp] theorem State.setPlaying_params (ch : Channel) (level : Bool) (s : State) :
    (s.setPlaying ch level).params = s.params := rfl
@[simp] theorem State.setPlaying_lines (ch : Channel) (level : Bool) (s : State) :
    (s.setPlaying ch level).lines = s.lines := rfl
@[simp] theorem State.setPlaying_house (ch : Channel) (level : Bool) (s : State) :
    (s.setPlaying ch level).house = s.house := rfl
@[simp] theorem State.setPlaying_intervalUpDue (ch : Channel) (level : Bool) (s : State) :
    (s.setPlaying ch level).intervalUpDue = s.intervalUpDue := rfl
@[simp] theorem State.setPlaying_fire (ch : Channel) (level : Bool) (s : State) :
    (s.setPlaying ch level).fire = s.fire := rfl
@[simp] theorem State.setPlaying_curtain (ch : Channel) (level : Bool) (s : State) :
    (s.setPlaying ch level).curtain = s.curtain := rfl
@[simp] theorem State.setPlaying_lights (ch : Channel) (level : Bool) (s : State) :
    (s.setPlaying ch level).lights = s.lights := rfl
@[simp] theorem State.setPlaying_calls (ch : Channel) (level : Bool) (s : State) :
    (s.setPlaying ch level).calls = s.calls := rfl
@[simp] theorem State.setPlaying_links (ch : Channel) (level : Bool) (s : State) :
    (s.setPlaying ch level).links = s.links := rfl
@[simp] theorem State.setPlaying_pending (ch : Channel) (level : Bool) (s : State) :
    (s.setPlaying ch level).pending = s.pending := rfl

/-! ## The phase is recorded by the calls -/

@[simp] theorem recordPhase_clock (s : State) : (recordPhase s).clock = s.clock := rfl
@[simp] theorem recordPhase_inert (s : State) : (recordPhase s).inert = s.inert := rfl
@[simp] theorem recordPhase_startUp (s : State) : (recordPhase s).startUp = s.startUp := rfl
@[simp] theorem recordPhase_pins (s : State) : (recordPhase s).pins = s.pins := rfl
@[simp] theorem recordPhase_params (s : State) : (recordPhase s).params = s.params := rfl
@[simp] theorem recordPhase_lines (s : State) : (recordPhase s).lines = s.lines := rfl
@[simp] theorem recordPhase_house (s : State) : (recordPhase s).house = s.house := rfl
@[simp] theorem recordPhase_intervalUpDue (s : State) : (recordPhase s).intervalUpDue = s.intervalUpDue := rfl
@[simp] theorem recordPhase_fire (s : State) : (recordPhase s).fire = s.fire := rfl
@[simp] theorem recordPhase_curtain (s : State) : (recordPhase s).curtain = s.curtain := rfl
@[simp] theorem recordPhase_lights (s : State) : (recordPhase s).lights = s.lights := rfl
@[simp] theorem recordPhase_calls (s : State) :
    (recordPhase s).calls = { s.calls with phaseSeen := s.house.phase } := rfl
@[simp] theorem recordPhase_links (s : State) : (recordPhase s).links = s.links := rfl
@[simp] theorem recordPhase_pending (s : State) : (recordPhase s).pending = s.pending := rfl

end Sys2Proof.Machine
end

