-- ==== Sys2Proof/Laws/Links.lean ====
section
/-! SUPPORT. The ports read and written by name, what raising notices can do to a port (R176), and everything that
taking a request can do (R172, R173). -/
namespace Sys2Proof.Machine

/-! ## Reading and writing by name -/

@[simp] theorem Links.get_set_self (l : Links) (p : Port) (r : PortRecord) : (l.set p r).get p = r := by
  cases p <;> rfl

theorem Links.get_set_of_ne (l : Links) {p q : Port} (r : PortRecord) (h : q ≠ p) : (l.set p r).get q = l.get q := by
  cases p <;> cases q <;> first | rfl | exact absurd rfl h

theorem Links.get_set (l : Links) (p q : Port) (r : PortRecord) :
    (l.set p r).get q = if q = p then r else l.get q := by
  split
  · next h => subst h; simp
  · next h => exact l.get_set_of_ne r h

@[simp] theorem Links.set_get_self (l : Links) (p : Port) : l.set p (l.get p) = l := by cases p <;> rfl

@[simp] theorem State.setPort_get_self (s : State) (p : Port) : s.setPort p (s.links.get p) = s := by
  simp [State.setPort]

@[simp] theorem Calls.chan_setChan_self (c : Calls) (ch : Channel) (r : ChannelRecord) :
    (c.setChan ch r).chan ch = r := by cases ch <;> rfl

theorem Calls.chan_setChan_of_ne (c : Calls) {ch k : Channel} (r : ChannelRecord) (h : k ≠ ch) :
    (c.setChan ch r).chan k = c.chan k := by cases ch <;> cases k <;> first | rfl | exact absurd rfl h

@[simp] theorem Calls.setChan_chan_self (c : Calls) (ch : Channel) : c.setChan ch (c.chan ch) = c := by
  cases ch <;> rfl

/-! ## Notices at one port -/

/-- The notices that have joined a port, as a list at the tail of its queue. -/
theorem PortRecord.onlyNotices_iff (r r' : PortRecord) :
    r.onlyNotices r' ↔
      r'.present = r.present ∧ r'.timer = r.timer ∧ r'.rx = r.rx ∧ r'.changedAt = r.changedAt ∧
        r'.lastValid = r.lastValid ∧ r'.receiver = r.receiver ∧
        (∃ ns : List TxFrame, r'.tx = r.tx ++ ns ∧ ns.all TxFrame.isNotice = true) ∧
        (r.overrun.isSome = true → r'.overrun = r.overrun) := by
  constructor
  · rintro ⟨h1, h2, h3, h4, h5, h6, h7, h8, h9⟩
    refine ⟨h1, h2, h3, h4, h5, h6, ⟨r'.tx.drop r.tx.length, ?_, h8⟩, h9⟩
    conv_lhs => rw [← List.take_append_drop r.tx.length r'.tx]
    rw [h7]
  · rintro ⟨h1, h2, h3, h4, h5, h6, ⟨ns, h7, h8⟩, h9⟩
    refine ⟨h1, h2, h3, h4, h5, h6, ?_, ?_, h9⟩ <;> simp [h7, h8]

theorem PortRecord.onlyNotices_refl (r : PortRecord) : r.onlyNotices r := by
  rw [PortRecord.onlyNotices_iff]
  exact ⟨rfl, rfl, rfl, rfl, rfl, rfl, ⟨[], by simp, rfl⟩, fun _ => rfl⟩

theorem PortRecord.onlyNotices_trans {a b c : PortRecord} (h : a.onlyNotices b) (k : b.onlyNotices c) :
    a.onlyNotices c := by
  rw [PortRecord.onlyNotices_iff] at *
  obtain ⟨h1, h2, h3, h4, h5, h6, ⟨ns, h7, h8⟩, h9⟩ := h
  obtain ⟨k1, k2, k3, k4, k5, k6, ⟨ms, k7, k8⟩, k9⟩ := k
  refine ⟨k1.trans h1, k2.trans h2, k3.trans h3, k4.trans h4, k5.trans h5, k6.trans h6,
    ⟨ns ++ ms, by rw [k7, h7, List.append_assoc], by simp_all⟩, fun ho => ?_⟩
  rw [k9 (by rw [h9 ho]; exact ho), h9 ho]

/-- Everything one copy of a notice can do to a port (R176). -/
theorem PortRecord.queueNotice_cases (now : Nat) (n : Notice) (r : PortRecord) :
    (r.present = false ∧ r.queueNotice now n = r) ∨
      (r.present = true ∧ r.notices < noticeRoom ∧ r.queueNotice now n = { r with tx := r.tx ++ [.notice n] }) ∨
      (r.present = true ∧ noticeRoom ≤ r.notices ∧
        r.queueNotice now n = { r with overrun := some (r.overrun.getD now) }) := by
  unfold PortRecord.queueNotice
  cases hp : r.present
  · simp
  · by_cases hn : r.notices < noticeRoom
    · simp [hn]
    · refine .inr (.inr ⟨rfl, not_lt.mp hn, ?_⟩)
      cases ho : r.overrun <;> simp [hn]
      cases r; simp_all

theorem PortRecord.queueNotice_onlyNotices (now : Nat) (n : Notice) (r : PortRecord) :
    r.onlyNotices (r.queueNotice now n) := by
  rcases r.queueNotice_cases now n with ⟨-, h⟩ | ⟨-, -, h⟩ | ⟨-, -, h⟩ <;> rw [h]
  · exact r.onlyNotices_refl
  · rw [PortRecord.onlyNotices_iff]
    exact ⟨rfl, rfl, rfl, rfl, rfl, rfl, ⟨[.notice n], rfl, rfl⟩, fun _ => rfl⟩
  · rw [PortRecord.onlyNotices_iff]
    exact ⟨rfl, rfl, rfl, rfl, rfl, rfl, ⟨[], by simp, rfl⟩, fun ho => by
      obtain ⟨x, hx⟩ := Option.isSome_iff_exists.mp ho; simp [hx]⟩

/-! ## Notices at every port -/

theorem Links.raise_onlyNotices (now : Nat) (m : Mail) (l : Links) (p : Port) :
    (l.get p).onlyNotices ((l.raise now m).get p) := by
  unfold Links.raise
  generalize m.ports = ps
  induction ps generalizing l with
  | nil => exact PortRecord.onlyNotices_refl _
  | cons q ps ih =>
    refine PortRecord.onlyNotices_trans ?_ (ih _)
    rw [Links.get_set]
    split
    · next h => subst h; exact PortRecord.queueNotice_onlyNotices ..
    · exact PortRecord.onlyNotices_refl _

theorem Links.post_onlyNotices (now : Nat) (ms : List Mail) (l : Links) (p : Port) :
    (l.get p).onlyNotices ((l.post now ms).get p) := by
  unfold Links.post
  induction ms generalizing l with
  | nil => exact PortRecord.onlyNotices_refl _
  | cons m _ ih => exact PortRecord.onlyNotices_trans (l.raise_onlyNotices now m p) (ih _)

theorem KeepsLinks.refl (s : State) : KeepsLinks s s := fun _ => PortRecord.onlyNotices_refl _

theorem KeepsLinks.trans {s t u : State} (h : KeepsLinks s t) (k : KeepsLinks t u) : KeepsLinks s u :=
  fun p => PortRecord.onlyNotices_trans (h p) (k p)

/-- A state whose links are those of another after notices have been raised. -/
theorem KeepsLinks.of_post {s t : State} (now : Nat) (ms : List Mail) (h : t.links = s.links.post now ms) :
    KeepsLinks s t := fun p => h ▸ s.links.post_onlyNotices now ms p

theorem KeepsLinks.of_links {s t : State} (h : t.links = s.links) : KeepsLinks s t :=
  fun _ => h ▸ PortRecord.onlyNotices_refl _

theorem keepsLinks_post (ms : List Mail) (s : State) : KeepsLinks s (s.post ms) := .of_post s.clock ms rfl

/-! ## Taking a request (R172, R173) -/

/-- Everything the first three steps of R173 and the block can answer. -/
theorem answerRequest_cases (p : Port) (kind : Byte) (shape : Bool) (block : State → State × Answer) (s : State) :
    (kindKnown kind = false ∧ answerRequest p kind shape block s = (s, refuse .malformed)) ∨
      (kindKnown kind = true ∧ permitted p kind = false ∧
        answerRequest p kind shape block s = (s, refuse .notPermitted)) ∨
      (kindKnown kind = true ∧ permitted p kind = true ∧ shape = false ∧
        answerRequest p kind shape block s = (s, refuse .malformed)) ∨
      (kindKnown kind = true ∧ permitted p kind = true ∧ shape = true ∧
        answerRequest p kind shape block s = block s) := by
  unfold answerRequest
  cases kindKnown kind <;> cases permitted p kind <;> cases shape <;> simp

/-- The reply of a request whose block raised only notices stands before them (R176). -/
theorem finishRequest_answered (p : Port) (kind : Byte) (a : Answer) {s u : State} (h : KeepsLinks s u) :
    AnsweredWith p kind a s (finishRequest p kind (s.links.get p).tx.length (u, a)) := by
  intro q
  have hq := (PortRecord.onlyNotices_iff _ _).mp (h q)
  obtain ⟨h1, h2, h3, h4, h5, h6, ⟨ns, h7, h8⟩, h9⟩ := hq
  simp only [State.withReply, finishRequest, State.setPort_links, Links.get_set]
  split
  · next hp =>
    subst hp
    rw [PortRecord.onlyNotices_iff]
    refine ⟨h1, h2, by simp [PortRecord.insertReply, h3], h4, h5, h6, ⟨ns, ?_, h8⟩, h9⟩
    simp [PortRecord.insertReply, h7, replyKind]
  · exact h q

/-- A request whose block changed nothing has got its reply and nothing else. -/
theorem finishRequest_unchanged (p : Port) (kind : Byte) (a : Answer) (s : State) :
    finishRequest p kind (s.links.get p).tx.length (s, a) = s.withReply p kind a := by
  simp [finishRequest, State.withReply, PortRecord.insertReply, replyKind]

/-- Every field but the links is what the block left. -/
theorem finishRequest_fields (p : Port) (kind : Byte) (n : Nat) (r : State × Answer) :
    finishRequest p kind n r = { r.1 with links := (finishRequest p kind n r).links } := rfl

/-- Everything a request can do: it waits, it is refused before its block, or its block acts (R172, R173). -/
theorem takeRequest_cases (p : Port) (i : Instr) (block : State → State × Answer) (s : State) :
    (takeable p (requestFrame i) s = false ∧ takeRequest p i block s = .next s) ∨
      (takeable p (requestFrame i) s = true ∧ kindKnown (requestFrame i).kind = false ∧
        takeRequest p i block s = .next (s.withReply p (requestFrame i).kind (refuse .malformed))) ∨
      (takeable p (requestFrame i) s = true ∧ kindKnown (requestFrame i).kind = true ∧
        permitted p (requestFrame i).kind = false ∧
        takeRequest p i block s = .next (s.withReply p (requestFrame i).kind (refuse .notPermitted))) ∨
      (takeable p (requestFrame i) s = true ∧ kindKnown (requestFrame i).kind = true ∧
        permitted p (requestFrame i).kind = true ∧ shapeOk i = false ∧
        takeRequest p i block s = .next (s.withReply p (requestFrame i).kind (refuse .malformed))) ∨
      (takeable p (requestFrame i) s = true ∧ kindKnown (requestFrame i).kind = true ∧
        permitted p (requestFrame i).kind = true ∧ shapeOk i = true ∧
        takeRequest p i block s =
          .next (finishRequest p (requestFrame i).kind (s.links.get p).tx.length (block s))) := by
  unfold takeRequest afterRequest
  cases ht : takeable p (requestFrame i) s
  · exact .inl ⟨rfl, by simp⟩
  · rw [if_pos rfl]
    rcases answerRequest_cases p (requestFrame i).kind (shapeOk i) block s with
      ⟨h1, h⟩ | ⟨h1, h2, h⟩ | ⟨h1, h2, h3, h⟩ | ⟨h1, h2, h3, h⟩ <;> rw [h]
    · exact .inr (.inl ⟨rfl, h1, by rw [finishRequest_unchanged]⟩)
    · exact .inr (.inr (.inl ⟨rfl, h1, h2, by rw [finishRequest_unchanged]⟩))
    · exact .inr (.inr (.inr (.inl ⟨rfl, h1, h2, h3, by rw [finishRequest_unchanged]⟩)))
    · exact .inr (.inr (.inr (.inr ⟨rfl, h1, h2, h3, rfl⟩)))

/-- A request that is taken and whose block changes nothing. -/
theorem takeRequest_unchanged {p : Port} {i : Instr} {block : State → State × Answer} {s : State} {a : Answer}
    (ht : takeable p (requestFrame i) s = true) (hk : kindKnown (requestFrame i).kind = true)
    (hp : permitted p (requestFrame i).kind = true) (hs : shapeOk i = true) (hb : block s = (s, a)) :
    takeRequest p i block s = .next (s.withReply p (requestFrame i).kind a) := by
  simp [takeRequest, afterRequest, answerRequest, ht, hk, hp, hs, hb, finishRequest_unchanged]

/-- A request that is taken and whose block acts. -/
theorem takeRequest_block {p : Port} {i : Instr} {block : State → State × Answer} {s : State}
    (ht : takeable p (requestFrame i) s = true) (hk : kindKnown (requestFrame i).kind = true)
    (hp : permitted p (requestFrame i).kind = true) (hs : shapeOk i = true) :
    takeRequest p i block s =
      .next (finishRequest p (requestFrame i).kind (s.links.get p).tx.length (block s)) := by
  simp [takeRequest, afterRequest, answerRequest, ht, hk, hp, hs]

/-- A step that takes a request answers a next state. -/
theorem takeRequest_next (p : Port) (i : Instr) (block : State → State × Answer) (s : State) :
    ∃ t, takeRequest p i block s = .next t := by
  unfold takeRequest; split <;> exact ⟨_, rfl⟩

end Sys2Proof.Machine
end

