-- ==== Sys2Proof/Laws/Frame.lean ====
section
/-! SUPPORT. What each shared operation leaves as it was: one frame per operation, from the blocks up to a change of
the fire condition and an event at the zones. -/
namespace Sys2Proof.Machine

/-- What no operation inside a request or an event of one block touches: the clock, the lines, the pins, the parameters
and the queue; and the ports get notices alone. -/
def Quietly (s t : State) : Prop := KeepsBase s t ∧ KeepsLinks s t

theorem KeepsBase.refl (s : State) : KeepsBase s s := ⟨⟨rfl, rfl, rfl, rfl, rfl, rfl, rfl⟩, rfl⟩

theorem KeepsBase.trans {s t u : State} (h : KeepsBase s t) (k : KeepsBase t u) : KeepsBase s u := by
  obtain ⟨⟨a1, a2, a3, a4, a5, a6, a7⟩, a8⟩ := h
  obtain ⟨⟨b1, b2, b3, b4, b5, b6, b7⟩, b8⟩ := k
  exact ⟨⟨b1.trans a1, b2.trans a2, b3.trans a3, b4.trans a4, b5.trans a5, b6.trans a6, b7.trans a7⟩, b8.trans a8⟩

theorem Quietly.refl (s : State) : Quietly s s := ⟨.refl s, .refl s⟩

theorem Quietly.trans {s t u : State} (h : Quietly s t) (k : Quietly t u) : Quietly s u :=
  ⟨h.1.trans k.1, h.2.trans k.2⟩

/-! ## The blocks -/

theorem quietly_post (ms : List Mail) (s : State) : Quietly s (s.post ms) := ⟨.refl s, keepsLinks_post ms s⟩

theorem quietly_onCalls (f : CallEnv → Act Calls → Act Calls) (s : State) : Quietly s (s.onCalls f) :=
  ⟨.refl s, .of_post s.clock _ rfl⟩

theorem quietly_onLights (f : LightEnv → Act Lights → Act Lights) (s : State) : Quietly s (s.onLights f) :=
  ⟨.refl s, .of_post s.clock _ rfl⟩

theorem quietly_onCurtain (f : CurtainEnv → Act Curtain → Act Curtain) (s : State) : Quietly s (s.onCurtain f) :=
  ⟨.refl s, .of_post s.clock _ rfl⟩

theorem quietly_onZones (f : ZoneEvent) (s : State) : Quietly s (s.onZones f).1 :=
  ⟨.refl s, .of_post s.clock _ rfl⟩

/-- Writing the records of the blocks themselves. -/
theorem quietly_blocks (s : State) (h : House) (f : Fire) (c : Curtain) (l : Lights) (k : Calls) :
    Quietly s { s with house := h, fire := f, curtain := c, lights := l, calls := k } :=
  ⟨.refl s, .of_links rfl⟩

/-- A calls event touches the calls alone. -/
theorem keepsAllButCalls_onCalls (f : CallEnv → Act Calls → Act Calls) (s : State) :
    KeepsAllButCalls s (s.onCalls f) := ⟨.refl s, rfl, rfl, rfl, rfl⟩

/-! ## Completing a change of the house condition record (R3, R4, R5, R22) -/

theorem quietly_handAnchors (events : List (Anchor × AnchorEvent)) (s : State) : Quietly s (handAnchors events s) := by
  unfold handAnchors
  induction events generalizing s with
  | nil => exact .refl s
  | cons x _ ih => exact (quietly_onCalls _ s).trans (ih _)

theorem handAnchors_others (events : List (Anchor × AnchorEvent)) (s : State) :
    (handAnchors events s).house = s.house ∧ (handAnchors events s).fire = s.fire ∧
      (handAnchors events s).curtain = s.curtain ∧ (handAnchors events s).lights = s.lights := by
  unfold handAnchors
  induction events generalizing s with
  | nil => exact ⟨rfl, rfl, rfl, rfl⟩
  | cons x _ ih => exact ih _

theorem quietly_recordPhase (s : State) : Quietly s (recordPhase s) := ⟨.refl s, .of_links rfl⟩

theorem quietly_handPhase (old : House) (s : State) : Quietly s (handPhase old s) := by
  unfold handPhase
  split
  · exact .refl s
  · exact ((quietly_onLights _ s).trans (quietly_recordPhase _)).trans (quietly_post _ _)

theorem handPhase_others (old : House) (s : State) :
    (handPhase old s).house = s.house ∧ (handPhase old s).fire = s.fire ∧
      (handPhase old s).curtain = s.curtain := by
  unfold handPhase; split <;> exact ⟨rfl, rfl, rfl⟩

theorem quietly_noteClearance (old : House) (cause : ClearanceCause) (s : State) :
    Quietly s (noteClearance old cause s) := by
  unfold noteClearance
  split
  · exact .refl s
  · exact quietly_post _ s

theorem noteClearance_others (old : House) (cause : ClearanceCause) (s : State) :
    noteClearance old cause s = { s with links := (noteClearance old cause s).links } := by
  unfold noteClearance; split <;> rfl

theorem quietly_handShowMode (old : House) (handOff : State → State) (h : ∀ s, Quietly s (handOff s)) (s : State) :
    Quietly s (handShowMode old handOff s) := by
  unfold handShowMode
  split
  · exact .refl s
  · dsimp only
    split
    · exact quietly_post _ s
    · exact (quietly_post _ s).trans (h _)

/-- With show mode as it was, or turned on, the hand-off to the Fire Monitor is not made. -/
theorem handShowMode_others (old : House) (handOff : State → State) (s : State)
    (h : old.showMode = s.house.showMode ∨ s.house.showMode = true) :
    handShowMode old handOff s = { s with links := (handShowMode old handOff s).links } := by
  unfold handShowMode
  split
  · rfl
  · next hne =>
    rcases h with h | h
    · exact absurd h hne
    · have : (s.post [⟨[.prompt, .house], .showMode s.house.showMode⟩]).house.showMode = true := h
      simp only [this, if_true]
      rfl

theorem quietly_completeChange (old : House) (cause : ClearanceCause) (handOff : State → State)
    (h : ∀ s, Quietly s (handOff s)) (s : State) : Quietly s (completeChange old cause handOff s) :=
  (((quietly_handAnchors _ s).trans (quietly_noteClearance _ _ _)).trans (quietly_handPhase _ _)).trans
    (quietly_handShowMode _ _ h _)

/-! ## The fire condition (R47, R56, R57) and the zones -/

theorem quietly_stopShow (s : State) : Quietly s (stopShow s) :=
  (quietly_blocks s s.house.evacuated s.fire s.curtain s.lights s.calls).trans
    (quietly_completeChange _ _ _ (fun t => .refl t) _)

theorem quietly_promoteOnEvacuate (new : Condition) (s : State) : Quietly s (promoteOnEvacuate new s) := by
  unfold promoteOnEvacuate
  split
  · exact quietly_onZones _ s
  · exact .refl s

/-- The promotion of R58 touches the zone table and the transmit queues alone. -/
theorem promoteOnEvacuate_others (new : Condition) (s : State) :
    promoteOnEvacuate new s =
      { s with fire := (promoteOnEvacuate new s).fire, links := (promoteOnEvacuate new s).links } := by
  unfold promoteOnEvacuate; split <;> rfl

theorem quietly_changeCondition (new : Condition) (cause : FireCause) (s : State) :
    Quietly s (changeCondition new cause s) := by
  have h (t : State) (ms : List Mail) (d : Bool) : Quietly t
      (((((t.post ms).onCurtain fun e => curtainFireHandoff e d (some new)).onLights
        (lightsFireHandoff new)).onCalls (schedulerFireHandoff new)).onCalls (arbiterFireHandoff new)) :=
    ((((quietly_post ms t).trans (quietly_onCurtain _ _)).trans (quietly_onLights _ _)).trans
      (quietly_onCalls _ _)).trans (quietly_onCalls _ _)
  have hp := (quietly_blocks s s.house (s.fire.withCondition s.clock s.params.investigation new cause) s.curtain
    s.lights s.calls).trans (quietly_promoteOnEvacuate new _)
  unfold changeCondition
  dsimp only
  split
  · exact hp.trans ((h _ _ _).trans (quietly_stopShow _))
  · exact hp.trans (h _ _ _)

theorem quietly_evaluateDemand (s : State) : Quietly s (evaluateDemand s) := by
  unfold evaluateDemand
  dsimp only
  split
  · exact .refl s
  · exact (quietly_blocks s s.house _ s.curtain s.lights s.calls).trans (quietly_onCurtain _ _)

theorem quietly_climbLadder (entering : List ZoneId) (s : State) : Quietly s (climbLadder entering s) := by
  unfold climbLadder
  split
  · exact quietly_changeCondition _ _ s
  · exact quietly_evaluateDemand s

theorem quietly_zoneEvent (f : ZoneEvent) (s : State) : Quietly s (zoneEvent f s) := by
  unfold zoneEvent
  dsimp only
  split
  · exact quietly_onZones f s
  · exact (quietly_onZones f s).trans (quietly_climbLadder _ _)

/-- Everything an event at the zones can do: nothing entered ALARM, or the ladder is climbed (R47). -/
theorem zoneEvent_cases (f : ZoneEvent) (s : State) :
    ((s.onZones f).2 = [] ∧ zoneEvent f s = (s.onZones f).1) ∨
      ((s.onZones f).2 ≠ [] ∧ zoneEvent f s = climbLadder (s.onZones f).2 (s.onZones f).1) := by
  unfold zoneEvent
  dsimp only
  cases h : (s.onZones f).2 with
  | nil => exact .inl ⟨rfl, by simp⟩
  | cons a as => exact .inr ⟨by simp, by simp⟩

theorem quietly_changeHouse (cause : ClearanceCause) (new : House) (s : State) :
    Quietly s (changeHouse cause new s) :=
  (quietly_blocks s new s.fire s.curtain s.lights s.calls).trans
    (quietly_completeChange _ _ _ (fun t => quietly_zoneEvent _ t) _)

end Sys2Proof.Machine
end

