-- ==== Sys2Proof/Laws/PerInstr.lean ====
section
/-! SUPPORT. What holds of every command as syntax, one lemma per constructor. Family `Kind`: a command arrives on a
port exactly when its frame carries a kind of Table 10-2; an unknown request may carry any kind (R173). -/
namespace Sys2Proof.Laws.Kind

/-- A row of Table 10-2 is carried by a frame of a kind of that table, and an event by none. -/
def Statement (i : Instr) : Prop :=
  (∀ p kind payload, i ≠ .unknownRequest p kind payload) →
    (Machine.requestPort i).isSome = Machine.kindKnown (Machine.requestFrame i).kind

theorem powerOn : Statement .powerOn := fun _ => rfl
theorem resetAsserted : Statement .resetAsserted := fun _ => rfl
theorem startUpSettleEnd : Statement .startUpSettleEnd := fun _ => rfl
theorem lineRawChange (line : Line) (sound closed : Bool) :
    Statement (.lineRawChange line sound closed) := fun _ => rfl
theorem settleExpiry (line : Line) : Statement (.settleExpiry line) := fun _ => rfl
theorem receiveFrame (port : Port) (bytes : List Byte) : Statement (.receiveFrame port bytes) := fun _ => rfl
theorem frameAbandoned (port : Port) : Statement (.frameAbandoned port) := fun _ => rfl
theorem supervisionExpiry (port : Port) : Statement (.supervisionExpiry port) := fun _ => rfl
theorem frameSent (port : Port) : Statement (.frameSent port) := fun _ => rfl
theorem unknownRequest (port : Port) (kind : Byte) (payload : List Byte) :
    Statement (.unknownRequest port kind payload) := fun h => absurd rfl (h _ _ _)
theorem configureZone (port : Port) (zone cls area curtainRelease delayEligible : Byte) :
    Statement (.configureZone port zone cls area curtainRelease delayEligible) := fun _ => rfl
theorem configureCurtain (port : Port) (T C S Tf Ts B D Vs W stall creep : Half) :
    Statement (.configureCurtain port T C S Tf Ts B D Vs W stall creep) := fun _ => rfl
theorem configureCircuit (port : Port) (circuit slot escapeLit masked park : Byte) :
    Statement (.configureCircuit port circuit slot escapeLit masked park) := fun _ => rfl
theorem configureSlot (port : Port) (slot code : Byte) : Statement (.configureSlot port slot code) := fun _ => rfl
theorem configurePreset (port : Port) (preset : Byte) (levels : Vector Byte 48) (slot inUse : Byte) :
    Statement (.configurePreset port preset levels slot inUse) := fun _ => rfl
theorem configurePagingZone (port : Port) (zone staff evac : Byte) :
    Statement (.configurePagingZone port zone staff evac) := fun _ => rfl
theorem configureBuiltInCall (port : Port) (descriptor message : Byte) (length gap : Half) :
    Statement (.configureBuiltInCall port descriptor message length gap) := fun _ => rfl
theorem configureTiming (port : Port) (investigation showDelay : Half) (interval escapeMin parkSlot restoreSlot supP
    supH supF supC : Byte) :
    Statement (.configureTiming port investigation showDelay interval escapeMin parkSlot restoreSlot supP supH supF
      supC) := fun _ => rfl
theorem configureLine (port : Port) (line polarity settle : Byte) :
    Statement (.configureLine port line polarity settle) := fun _ => rfl
theorem configureOption (port : Port) (demoRequired : Byte) :
    Statement (.configureOption port demoRequired) := fun _ => rfl
theorem configurationComplete (port : Port) : Statement (.configurationComplete port) := fun _ => rfl
theorem openPerformance (port : Port) : Statement (.openPerformance port) := fun _ => rfl
theorem closePerformance (port : Port) : Statement (.closePerformance port) := fun _ => rfl
theorem openHouse (port : Port) : Statement (.openHouse port) := fun _ => rfl
theorem houseClosed (port : Port) : Statement (.houseClosed port) := fun _ => rfl
theorem goAct (port : Port) : Statement (.goAct port) := fun _ => rfl
theorem endAct (port : Port) (final : Byte) : Statement (.endAct port final) := fun _ => rfl
theorem showStop (port : Port) : Statement (.showStop port) := fun _ => rfl
theorem resume (port : Port) : Statement (.resume port) := fun _ => rfl
theorem endPerformance (port : Port) : Statement (.endPerformance port) := fun _ => rfl
theorem giveClearance (port : Port) : Statement (.giveClearance port) := fun _ => rfl
theorem withdrawClearance (port : Port) : Statement (.withdrawClearance port) := fun _ => rfl
theorem setPlannedUp (port : Port) (seconds : Half) : Statement (.setPlannedUp port seconds) := fun _ => rfl
theorem delayUp (port : Port) (seconds : Half) : Statement (.delayUp port seconds) := fun _ => rfl
theorem extendInterval (port : Port) (minutes : Byte) : Statement (.extendInterval port minutes) := fun _ => rfl
theorem showModeOn (port : Port) : Statement (.showModeOn port) := fun _ => rfl
theorem showModeOff (port : Port) : Statement (.showModeOff port) := fun _ => rfl
theorem intervalCountdownExpiry : Statement .intervalCountdownExpiry := fun _ => rfl
theorem zoneReport (port : Port) (pairs : List (Byte × Byte)) : Statement (.zoneReport port pairs) := fun _ => rfl
theorem panelResetZone (port : Port) (zone : Byte) : Statement (.panelResetZone port zone) := fun _ => rfl
theorem resetZone (port : Port) (zone : Byte) : Statement (.resetZone port zone) := fun _ => rfl
theorem isolateZone (port : Port) (zone : Byte) : Statement (.isolateZone port zone) := fun _ => rfl
theorem restoreZone (port : Port) (zone : Byte) : Statement (.restoreZone port zone) := fun _ => rfl
theorem acknowledgeZones (port : Port) (zone : Byte) : Statement (.acknowledgeZones port zone) := fun _ => rfl
theorem showDelayExpiry (zone : Fin 32) : Statement (.showDelayExpiry zone) := fun _ => rfl
theorem investigationExpiry : Statement .investigationExpiry := fun _ => rfl
theorem evacuateNow (port : Port) : Statement (.evacuateNow port) := fun _ => rfl
theorem panelEvacuate (port : Port) : Statement (.panelEvacuate port) := fun _ => rfl
theorem standDown (port : Port) : Statement (.standDown port) := fun _ => rfl
theorem restore (port : Port) : Statement (.restore port) := fun _ => rfl
theorem dropCurtain (port : Port) : Statement (.dropCurtain port) := fun _ => rfl
theorem demonstrateCurtain (port : Port) : Statement (.demonstrateCurtain port) := fun _ => rfl
theorem raiseHold (port : Port) : Statement (.raiseHold port) := fun _ => rfl
theorem stopRaise (port : Port) : Statement (.stopRaise port) := fun _ => rfl
theorem resetManualRelease (port : Port) : Statement (.resetManualRelease port) := fun _ => rfl
theorem clearCurtainFaults (port : Port) : Statement (.clearCurtainFaults port) := fun _ => rfl
theorem leaseExpiry : Statement .leaseExpiry := fun _ => rfl
theorem raiseSample (raw : BitVec 17) : Statement (.raiseSample raw) := fun _ => rfl
theorem creepSample (raw : BitVec 17) : Statement (.creepSample raw) := fun _ => rfl
theorem descentSample (raw : BitVec 17) : Statement (.descentSample raw) := fun _ => rfl
theorem lights (port : Port) (slot : Byte) (pairs : List (Byte × Byte)) :
    Statement (.lights port slot pairs) := fun _ => rfl
theorem goPreset (port : Port) (preset slot : Byte) : Statement (.goPreset port preset slot) := fun _ => rfl
theorem holdFades (port : Port) : Statement (.holdFades port) := fun _ => rfl
theorem fadeStep (circuit : Fin 48) : Statement (.fadeStep circuit) := fun _ => rfl
theorem takeLights (port : Port) : Statement (.takeLights port) := fun _ => rfl
theorem giveBackLights (port : Port) : Statement (.giveBackLights port) := fun _ => rfl
theorem reclaimLights (port : Port) : Statement (.reclaimLights port) := fun _ => rfl
theorem panicLightsOn (port : Port) : Statement (.panicLightsOn port) := fun _ => rfl
theorem panicLightsOff (port : Port) : Statement (.panicLightsOff port) := fun _ => rfl
theorem dimmerFrame : Statement .dimmerFrame := fun _ => rfl
theorem createCall (port : Port) (kind message : Byte) (length zones : Half) (repeatCount : Byte) (gap lifetime :
    Half) (notify : Byte) (timing : Option (Byte × BitVec 32)) :
    Statement (.createCall port kind message length zones repeatCount gap lifetime notify timing) := fun _ => rfl
theorem cancelCall (port : Port) (descriptor : Byte) : Statement (.cancelCall port descriptor) := fun _ => rfl
theorem dueTimerExpiry : Statement .dueTimerExpiry := fun _ => rfl
theorem callDeadline (call : CallId) : Statement (.callDeadline call) := fun _ => rfl
theorem collectCompletions (port : Port) : Statement (.collectCompletions port) := fun _ => rfl
theorem zoneGate (port : Port) (zone muted held : Byte) : Statement (.zoneGate port zone muted held) := fun _ => rfl
theorem resetChannel (port : Port) (channel : Byte) : Statement (.resetChannel port channel) := fun _ => rfl
theorem playingRises (channel : Channel) : Statement (.playingRises channel) := fun _ => rfl
theorem playingFalls (channel : Channel) : Statement (.playingFalls channel) := fun _ => rfl
theorem startTimerExpiry (channel : Channel) : Statement (.startTimerExpiry channel) := fun _ => rfl
theorem guardTimerExpiry (channel : Channel) : Statement (.guardTimerExpiry channel) := fun _ => rfl
theorem stopTimerExpiry (channel : Channel) : Statement (.stopTimerExpiry channel) := fun _ => rfl
theorem builtInGapExpiry (call : BuiltIn) : Statement (.builtInGapExpiry call) := fun _ => rfl
theorem readHouse (port : Port) : Statement (.readHouse port) := fun _ => rfl
theorem readZones (port : Port) (first : Byte) : Statement (.readZones port first) := fun _ => rfl
theorem readAlarmList (port : Port) (first : Byte) : Statement (.readAlarmList port first) := fun _ => rfl
theorem readCurtain (port : Port) (part : Byte) : Statement (.readCurtain port part) := fun _ => rfl
theorem readCircuits (port : Port) (selector first count : Byte) :
    Statement (.readCircuits port selector first count) := fun _ => rfl
theorem readCall (port : Port) (descriptor : Byte) : Statement (.readCall port descriptor) := fun _ => rfl
theorem readQueues (port : Port) : Statement (.readQueues port) := fun _ => rfl
theorem readChannels (port : Port) : Statement (.readChannels port) := fun _ => rfl
theorem readLinks (port : Port) : Statement (.readLinks port) := fun _ => rfl
theorem performanceClockTick (raw : BitVec 17) : Statement (.performanceClockTick raw) := fun _ => rfl
theorem lengthAbove120 (port : Port) (length : Byte) : Statement (.lengthAbove120 port length) := fun _ => rfl

end Sys2Proof.Laws.Kind
end

