-- ==== Sys2Proof/Laws/Tables.lean ====
section
/-! SUPPORT. Entries of the tables after a change of every entry, the ordered insertions of the call lists, and the
reading of identifiers. -/
namespace Sys2Proof

/-- An entry of a table after a change of every entry. -/
@[simp] theorem vmap_get {α β : Type} {n : Nat} (f : α → β) (v : Vector α n) (i : Fin n) : (vmap f v)[i] = f v[i] := by
  simp [vmap]

theorem mapFrom_get? {α β : Type} (f : Nat → α → β) (k : Nat) (xs : List α) (i : Nat) :
    (mapFrom f k xs)[i]? = xs[i]?.map (f (k + i)) := by
  induction xs generalizing k i with
  | nil => simp [mapFrom]
  | cons x xs ih =>
    cases i with
    | zero => simp [mapFrom]
    | succ i => simp only [mapFrom, List.getElem?_cons_succ, ih]; congr 2; omega

/-- An entry of a table after a change of every entry by its index. -/
@[simp] theorem vmapIdx_get {α β : Type} {n : Nat} (f : Nat → α → β) (v : Vector α n) (i : Fin n) :
    (vmapIdx f v)[i] = f i.val v[i] := by
  have h := mapFrom_get? f 0 v.toList i.val
  have hl : i.val < v.toList.length := by simp
  rw [List.getElem?_eq_getElem hl] at h
  have hm : i.val < (mapFrom f 0 v.toList).length := by rw [length_mapFrom]; exact hl
  rw [List.getElem?_eq_getElem hm] at h
  simpa [vmapIdx] using h

namespace Machine

/-- An ordered insertion holds the entry inserted and those there before. -/
theorem mem_insertBy {α : Type} (r : α → α → Bool) (x y : α) (xs : List α) :
    y ∈ insertBy r x xs ↔ y = x ∨ y ∈ xs := by
  induction xs with
  | nil => simp [insertBy]
  | cons z zs ih =>
    simp only [insertBy]
    split
    · simp
    · simp only [List.mem_cons, ih]; tauto

theorem length_insertBy {α : Type} (r : α → α → Bool) (x : α) (xs : List α) :
    (insertBy r x xs).length = xs.length + 1 := by
  induction xs with
  | nil => rfl
  | cons z zs ih =>
    simp only [insertBy]
    split <;> simp [ih]

/-- An insertion adds one entry and moves no other. -/
theorem insertBy_perm {α : Type} (before : α → α → Bool) (x : α) (l : List α) :
    (insertBy before x l).Perm (x :: l) := by
  induction l with
  | nil => exact .refl _
  | cons y ys ih =>
    unfold insertBy
    split
    · exact .refl _
    · exact (ih.cons y).trans (.swap x y ys)

/-- An insertion keeps an order that `before` decides. -/
theorem insertBy_pairwise {α : Type} {R : α → α → Prop} {before : α → α → Bool} {x : α} {l : List α}
    (htrans : ∀ a b c, R a b → R b c → R a c) (hyes : ∀ y ∈ l, before x y = true → R x y)
    (hno : ∀ y ∈ l, before x y = false → R y x) (h : l.Pairwise R) : (insertBy before x l).Pairwise R := by
  induction l with
  | nil => exact List.pairwise_singleton R x
  | cons y ys ih =>
    obtain ⟨hy, hys⟩ := List.pairwise_cons.1 h
    unfold insertBy
    split
    case isTrue hb =>
      have hxy := hyes y List.mem_cons_self hb
      refine List.pairwise_cons.2 ⟨fun z hz => ?_, h⟩
      rcases List.mem_cons.1 hz with rfl | hz
      · exact hxy
      · exact htrans _ _ _ hxy (hy z hz)
    case isFalse hb =>
      refine List.pairwise_cons.2 ⟨fun z hz => ?_, ih (fun z hz => hyes z (.tail _ hz))
        (fun z hz => hno z (.tail _ hz)) hys⟩
      rcases (mem_insertBy before x z ys).1 hz with rfl | hz
      · exact hno y List.mem_cons_self (by simpa using hb)
      · exact hy z hz

/-- The free pool stays ascending when a number that is not in it returns (R131). -/
theorem joinPool_ascending {c : Calls} {i : CallId} (hi : i ∉ c.pool) (h : c.pool.Pairwise (fun a b => a.val < b.val)) :
    (c.joinPool i).pool.Pairwise (fun a b => a.val < b.val) := by
  refine insertBy_pairwise (fun _ _ _ => Nat.lt_trans) (fun y _ hb => by simpa using hb) (fun y hy hb => ?_) h
  have : i.val ≠ y.val := fun e => hi (Fin.ext e ▸ hy)
  simp only [decide_eq_false_iff_not] at hb
  omega

/-- The timetable stays in the order of due times when a call joins it (R131). -/
theorem joinTimetable_ordered {c : Calls} {i : CallId}
    (h : c.timetable.Pairwise (fun a b => c.table[a].due.getD 0 ≤ c.table[b].due.getD 0)) :
    (c.joinTimetable i).timetable.Pairwise (fun a b => c.table[a].due.getD 0 ≤ c.table[b].due.getD 0) :=
  insertBy_pairwise (fun _ _ _ => Nat.le_trans) (fun y _ hb => by simp only [decide_eq_true_eq] at hb; omega)
    (fun y _ hb => by simp only [decide_eq_false_iff_not] at hb; omega) h

/-- A byte in range names its identifier. -/
theorem identifier_of_lt {n : Nat} {b : Byte} {i : Fin n} (h : b.toNat = i.val) : identifier n b = some i := by
  have : b.toNat < n := h ▸ i.isLt
  simp only [identifier, this, dif_pos]
  exact congrArg some (Fin.ext h)

theorem identifier_of_ge {n : Nat} {b : Byte} (h : n ≤ b.toNat) : identifier n b = none := by
  simp [identifier, not_lt.mpr h]

theorem identifierFrom1_of_lt {n : Nat} {b : Byte} {i : Fin n} (h : b.toNat = i.val + 1) :
    identifierFrom1 n b = some i := by
  have hi := i.isLt
  have : 1 ≤ b.toNat ∧ b.toNat ≤ n := by omega
  simp only [identifierFrom1, this]
  exact congrArg some (Fin.ext (by simp [h]))

theorem identifierFrom1_out {n : Nat} {b : Byte} (h : b.toNat = 0 ∨ n < b.toNat) : identifierFrom1 n b = none := by
  have : ¬ (1 ≤ b.toNat ∧ b.toNat ≤ n) := by omega
  simp [identifierFrom1, this]

@[simp] theorem isFlag_of_bool (x : Bool) : isFlag (if x then 1 else 0) = true := by cases x <;> decide
@[simp] theorem flagOf_of_bool (x : Bool) : flagOf (if x then 1 else 0) = x := by cases x <;> decide

end Machine
end Sys2Proof
end

