-- ==== Sys2Proof/Machine/Wire.lean ====
section
/-! DEFINITION. The frames the part sends, as bytes (R169, R174, R175, R180, Tables 10-3 to 10-6, 10-9 and 10-11): every
reply and notice carries the fields its rule names, in the order named. -/
namespace Sys2Proof.Machine
open Sys2Proof.Config

/-! ## Fields (R180) -/

def bytes1 (n : Nat) : List Byte := [BitVec.ofNat 8 n]
def bytes2 (n : Nat) : List Byte := halfBytes (BitVec.ofNat 16 n)
def bytes3 (n : Nat) : List Byte := BitVec.ofNat 8 (n / 65536) :: bytes2 n
def bytes4 (n : Nat) : List Byte := wordBytes (BitVec.ofNat 32 n)

/-- A signed number whose range three bytes hold, in two's complement (R180). -/
def signedBytes3 (v : Int) : List Byte := bytes3 (BitVec.ofInt 24 v).toNat

/-- A flag: 1 for yes, 0 for no. -/
def flagByte (b : Bool) : List Byte := [if b then 1 else 0]

/-- A field that may be absent (R180). -/
def optional {α : Type} (f : α → List Byte) : Option α → List Byte
  | none => [0]
  | some x => 1 :: f x

/-- A set of paging zones. -/
def zoneSetBytes (z : ZoneSet) : List Byte := halfBytes (z.setWidth 16)

/-! ## Codes that the manual gives -/

/-- Table 10-4. -/
def Result.code : Result → Byte
  | .done => 0x00
  | .clamped => 0x01
  | .refused => 0x02

/-- Table 10-4. -/
def Reason.code : Reason → Byte
  | .notPermitted => 0x01
  | .malformed => 0x02
  | .wrongPhase => 0x03
  | .frozen => 0x04
  | .notAuthority => 0x05
  | .badNumber => 0x06
  | .noDescriptor => 0x07
  | .emptyZoneSet => 0x08
  | .notActive => 0x09
  | .interlock => 0x0A
  | .stillActive => 0x0B
  | .inAlarm => 0x0C
  | .alarmPresent => 0x0D
  | .inMotion => 0x0E
  | .busy => 0x0F

/-- Section 10.8, under Table 10-11. -/
def CurtainState.code : CurtainState → Byte
  | .stowed => 0
  | .raising => 1
  | .halted => 2
  | .descending => 3
  | .secondary => 4
  | .jammed => 5
  | .landed => 6

def CurtainReason.code : CurtainReason → Byte
  | .demand => 0
  | .raise => 1
  | .leaseExpired => 2
  | .stopRaise => 3
  | .topLimit => 4
  | .overTravel => 5
  | .raiseStall => 6
  | .fireChange => 7
  | .creep => 8
  | .bottomLimit => 9
  | .position => 10
  | .lag => 11
  | .jam => 12
  | .powerOn => 13

/-- A fault by the bit that Table 10-11 gives it. DESIGN CHOICE (log 24): a CURTAIN FAULT notice names its one fault by
the number of that bit, 0 to 7; R180 gives the bits of the fault set alone. -/
def CurtainFault.code : CurtainFault → Byte
  | .lag => 0
  | .overspeed => 1
  | .jammed => 2
  | .raiseStall => 3
  | .overTravel => 4
  | .creep => 5
  | .encoderDisagree => 6
  | .limitSwitch => 7

/-- The cause set (Table 10-11). -/
def CauseSet.bytes (c : CauseSet) : List Byte :=
  bytes1 (bitsToNat [c.fire, c.hardLine, c.manual, c.drop, c.demonstration, c.powerOn])

/-- The occurrence times of the faults in the order of their bits. -/
def FaultSet.times (f : FaultSet) : List (Option Nat) :=
  [f.lag, f.overspeed, f.jammed, f.raiseStall, f.overTravel, f.creep, f.encoderDisagree, f.limitSwitch]

/-- The fault set (Table 10-11). -/
def FaultSet.bytes (f : FaultSet) : List Byte := bytes1 (bitsToNat (f.times.map Option.isSome))

/-- Table 10-9. -/
def Life.code : Life → Byte
  | .free => 0
  | .waiting => 1
  | .timed => 2
  | .ready => 3
  | .playing => 4
  | .finished => 5

/-- The kind of a call: Table 10-9 for a general one. -/
def CallKind.code : CallKind → Byte
  | .scheduled => 1
  | .immediate => 2
  | .evacuation => builtInKindCode .evacuation
  | .staffAlert => builtInKindCode .staffAlert

def Anchor.code : Anchor → Byte
  | .plannedUp => 0
  | .houseOpen => 1
  | .actStart => 2
  | .intervalStart => 3
  | .intervalEnd => 4
  | .curtainDown => 5

/-- Table 10-12, RESET CHANNEL. -/
def channelCode : Channel → Byte
  | .a => 0
  | .b => 1

/-! ## Records -/

def StopRecord.bytes (r : StopRecord) : List Byte := [phaseCode r.origin, stopCauseCode r.cause]

def House.bytes (h : House) : List Byte :=
  phaseCode h.phase :: (bytes1 h.actNumber ++ optional StopRecord.bytes h.stop ++ [clearanceCode h.clearance] ++
    flagByte h.demoMark ++ flagByte h.curtainShown ++ flagByte h.showMode ++
    (Anchor.all.flatMap fun a => optional bytes4 (h.anchors.get a)) ++ bytes2 h.countdown)

def Zone.bytes (r : Zone) : List Byte :=
  bytes1 r.cls.code ++ bytes1 r.area.code ++ flagByte r.curtainRelease ++ flagByte r.delayEligible ++
    [zoneStateCode r.state, readingCode r.input] ++ bytes1 r.suppressed ++ optional bytes4 r.alarmTime ++
    optional bytes2 r.delayRemaining ++ flagByte r.activeWhileIsolated ++ flagByte r.pendingPrompt ++
    flagByte r.pendingHouse

def AlarmEntry.bytes (e : AlarmEntry) : List Byte :=
  bytes1 e.zone.val ++ bytes1 e.cls.code ++ bytes1 e.area.code ++ bytes4 (e.alarmTime.getD 0) ++
    [readingCode e.input] ++ flagByte e.firstAlarm

/-- READ ALARM LIST in the order of Table 10-7: the record of R46, the count of R60, the list length, the entries
(log 24). -/
def AlarmReport.bytes (r : AlarmReport) : List Byte :=
  [conditionCode r.condition] ++ optional (fun c => [conditionCode c]) r.previous ++
    optional (fun c => [fireCauseCode c]) r.cause ++ bytes4 r.enteredAt ++ optional bytes2 r.investigation ++
    flagByte r.demand ++ bytes1 r.delayed ++ bytes1 r.length ++ r.entries.flatMap AlarmEntry.bytes

/-- The four outputs (Table 4-2). DESIGN CHOICE (log 24): on and off, which no rule codes, are 1 and 0. -/
def CurtainOutputs.bytes (o : CurtainOutputs) : List Byte :=
  flagByte o.holdOff ++ flagByte o.hoist ++ flagByte o.secondary ++ flagByte o.retard

/-- A settled line, absent before its baseline (R86). -/
def settledBytes (r : Option Reading) : List Byte := optional (fun x => [readingCode x]) r

/-- A settled limit switch, absent before its baseline (R86): `active` is closed (Table 11-3). No rule codes open and
closed, and their codes are free values of their own (log 14). -/
def limitBytes (r : Option Reading) : List Byte := optional (fun x => [limitCode (x == .active)]) r

def CurtainReport.bytes (r : CurtainReport) : List Byte :=
  [r.state.code] ++ bytes4 r.enteredAt ++ [r.reason.code] ++ bytes4 r.position ++ bytes3 r.raw ++ bytes3 r.count ++
    bytes3 r.homeOffset ++ limitBytes r.topLimit ++ limitBytes r.bottomLimit ++ settledBytes r.fireLine ++
    settledBytes r.manualButton ++ flagByte r.fireDemand ++ flagByte r.hardLine ++ flagByte r.manual ++
    r.causes.bytes ++ optional bytes4 r.leaseExpiry ++ optional bytes1 r.lowCount ++ r.faults.bytes ++
    (r.faults.times.flatMap (optional bytes4)) ++ optional bytes4 r.faults.correction ++ r.outputs.bytes

def Descent.bytes (d : Descent) : List Byte :=
  bytes4 d.startTime ++ bytes2 d.travel ++ bytes2 d.slowHeight ++ bytes1 d.fastAllowance ++ bytes1 d.slowAllowance ++
    bytes4 d.startPosition ++ bytes2 d.p0 ++ bytes1 d.fastLeg ++ bytes2 d.s0 ++ bytes1 d.slowLeg ++ bytes4 d.sample ++
    optional bytes2 d.allowed ++ bytes1 d.lagCount ++ optional bytes4 d.secondaryStart ++
    optional signedBytes3 d.speed ++ bytes1 d.overspeedCount ++ flagByte d.retard

def Fade.bytes (f : Fade) : List Byte :=
  bytes1 f.start ++ bytes1 f.target ++ bytes2 f.duration ++ bytes2 f.elapsed ++ bytes4 f.startedAt ++ bytes1 f.slot

def circuitBytes (x : Circuit × Nat) : List Byte :=
  bytes1 x.1.slot ++ flagByte x.1.escapeLit ++ flagByte x.1.masked ++ bytes1 x.1.park ++ bytes1 x.1.base ++
    optional Fade.bytes x.1.fade ++ bytes1 x.2

def LightsReport.bytes (r : LightsReport) : List Byte :=
  r.slots.toList.flatMap bytes1 ++ (r.presets.flatMap fun p => flagByte p.1 ++ bytes1 p.2) ++
    [authorityCode r.authority] ++ bytes4 r.authorityAt ++ optional (fun c => [authorityCauseCode c]) r.authorityCause ++
    flagByte r.panic ++ [conditionCode r.fireSeen, phaseCode r.phaseSeen] ++ optional StopRecord.bytes r.stopSeen ++
    [presenceCode r.consoleSeen] ++ [readingCode r.blackoutLine] ++ flagByte r.override ++ flagByte r.blackout

def Completion.bytes (e : Completion) : List Byte :=
  bytes1 e.number ++ bytes1 e.message ++ [callOutcomeCode e.outcome] ++ bytes1 e.plays ++ zoneSetBytes e.missed ++
    bytes4 e.finishTime ++ bytes1 e.runs

/-- A call descriptor (R147), in the order of Table 8-1. Every field but the number and the life state may be absent
and has its own flag byte (R180); of a FREE one no other field is present. -/
def descriptorBytes (number : Nat) (d : Descriptor) (anchorValue place : Option Nat) : List Byte :=
  let d := if d.life = .free then Descriptor.free else d
  let unlessFree : List Byte → List Byte := fun field => if d.life = .free then [0] else 1 :: field
  bytes1 number ++ unlessFree [d.kind.code] ++ unlessFree [deskCode d.creator] ++ unlessFree (bytes1 d.message) ++
    unlessFree (bytes2 d.length) ++ unlessFree (zoneSetBytes d.zones) ++ unlessFree (bytes1 d.repeatCount) ++
    unlessFree (bytes2 d.gap) ++ unlessFree (bytes2 d.lifetime) ++ optional (fun a => [Anchor.code a]) d.anchor ++
    optional (fun _ => signedBytes3 d.offset) d.anchor ++ unlessFree (flagByte d.notify) ++ [d.life.code] ++
    unlessFree (bytes4 d.createdAt) ++ optional bytes4 d.due ++ optional (fun b => [dueBasisCode b]) d.basis ++
    optional bytes4 d.entry ++ optional bytes4 d.deadline ++ unlessFree (bytes1 d.plays) ++
    unlessFree (zoneSetBytes d.missed) ++ optional (fun c => [channelCode c]) d.channel ++
    optional (fun o => [callOutcomeCode o]) d.outcome ++ optional bytes4 d.finishTime ++
    optional bytes4 anchorValue ++ optional bytes1 place

def QueuesReport.bytes (r : QueuesReport) : List Byte :=
  bytes1 r.pool ++ bytes1 r.waiting ++ bytes1 r.timetable ++ bytes1 r.ready ++ bytes1 r.finishedPrompt ++
    bytes1 r.finishedHouse ++ bytes1 r.finishedBuiltIn ++ bytes1 r.promptQueue ++ bytes1 r.houseQueue ++
    optional bytes1 r.callA ++ optional bytes1 r.callB ++ [r.evacuationLife.code, r.staffAlertLife.code]

/-- A channel record; the fields present in STARTING and PLAYING are those of a record with a call, each under its own
flag byte (Table 9-2, R180). DESIGN CHOICE (log 24): the PLAYING line, which no rule codes, is a flag byte, 1 for
high. -/
def channelBytes (r : ChannelRecord) (playing : Bool) : List Byte :=
  [channelStateCode r.state] ++
    optional (fun i => bytes1 (i.val + 1)) r.call ++ optional (fun _ => bytes1 r.message) r.call ++
    optional (fun _ => zoneSetBytes r.live) r.call ++ optional (fun _ => zoneSetBytes r.missedBefore) r.call ++
    optional bytes1 r.startTimer ++ optional bytes2 r.guardTimer ++ optional bytes1 r.stopTimer ++
    optional (fun b => bytes1 (match b with | .evacuation => 1 | .staffAlert => 2)) r.reserved ++
    optional (fun f => [channelFaultCode f]) r.fault ++ flagByte playing

def PagingZone.bytes (z : PagingZone) : List Byte :=
  flagByte z.staff ++ flagByte z.evac ++ flagByte z.muted ++ flagByte z.held ++ [connectionCode z.conn]

def LinkReport.bytes (r : LinkReport) : List Byte :=
  [presenceCode r.present] ++ optional bytes4 r.changedAt ++ optional bytes4 r.lastValid ++ bytes1 r.period ++
    bytes1 r.received ++ bytes1 r.sending ++ flagByte r.overrun

/-! ## Replies (R173, R174) -/

/-- The fields of a CONFIGURE record as stored, each in the fewest whole bytes that hold its range (R180, with
Tables 5-1, 11-1 and R183). -/
def configFields (record : Nat) (fields : List Nat) : List Byte :=
  match record, fields with
  | 1, [travel, perMetre, slow, fast, slowAllowance, lag, persistence, speed, window, stall, creep] =>
    bytes2 travel ++ bytes2 perMetre ++ bytes2 slow ++ bytes1 fast ++ bytes1 slowAllowance ++ bytes2 lag ++
      bytes1 persistence ++ bytes2 speed ++ bytes1 window ++ bytes1 stall ++ bytes2 creep
  | 6, m :: fs => bytes1 m ++ fs.flatMap bytes2
  | 7, a :: b :: fs => bytes2 a ++ bytes2 b ++ fs.flatMap bytes1
  | _, fs => fs.flatMap bytes1

/-- What follows the result of a reply. The identifier in a CONFIGURE reply has no flag byte: the record kind before it
says whether there is one (log 24). DESIGN CHOICE (log 24): neither has the due time in a CREATE CALL reply, which
follows the life state where that is TIMED. -/
def Body.bytes : Body → List Byte
  | .empty => []
  | .refusal r => [r.code]
  | .interlock failed => Reason.interlock.code :: halfBytes (interlockSet failed)
  | .alarmPresent entries delayed => Reason.alarmPresent.code :: (bytes1 entries ++ bytes1 delayed)
  | .config record ident fields =>
    bytes1 record ++ (match ident with | some n => bytes1 n | none => []) ++ configFields record fields
  | .number n => bytes1 n
  | .clockValue v => bytes4 v
  | .countdown ds intervalEnd => bytes2 ds ++ bytes4 (intervalEnd.getD 0)
  | .condition c => [conditionCode c]
  | .curtainState c => [c.code]
  | .presetStarted n d => bytes1 n ++ bytes2 d
  | .panic on override => flagByte on ++ flagByte override
  | .callCreated n life due => bytes1 n ++ [life.code] ++ (match due with | some t => bytes4 t | none => [])
  | .lifeBefore life => [life.code]
  | .completions entries left => entries.flatMap Completion.bytes ++ bytes1 left
  | .gate muted held => flagByte muted ++ flagByte held
  | .house r clock act required => r.bytes ++ bytes4 clock ++ optional bytes4 act ++ flagByte required
  | .zones _ records p h => records.flatMap Zone.bytes ++ flagByte p ++ flagByte h
  | .alarmList r => r.bytes
  | .curtain r => r.bytes
  | .descent r => optional Descent.bytes r
  | .window ps => optional (fun (l : List Nat) => l.flatMap bytes4) ps
  | .circuits _ cs r => cs.flatMap circuitBytes ++ r.bytes
  | .preset levels slot used => levels.toList.flatMap bytes1 ++ bytes1 slot ++ flagByte used
  | .call n d anchorValue place => descriptorBytes n d anchorValue place
  | .queues r => r.bytes
  | .channels a b pa pb zs => channelBytes a pa ++ channelBytes b pb ++ zs.toList.flatMap PagingZone.bytes
  | .links ports => ports.flatMap fun x => x.2.bytes

/-- The payload of a reply begins with its result (R173). -/
def Answer.bytes (a : Answer) : List Byte := a.result.code :: a.body.bytes

/-! ## Notices (Table 10-3) -/

/-- The kind of a notice. -/
def Notice.kind : Notice → Byte
  | .phase .. => 0xC0
  | .clearance .. => 0xC1
  | .showMode _ => 0xC2
  | .intervalUp .. => 0xC3
  | .zoneChange _ => 0xC4
  | .reportAll => 0xC5
  | .fireCondition _ => 0xC6
  | .curtain _ => 0xC7
  | .curtainFault _ => 0xC8
  | .authority _ => 0xC9
  | .callFinished _ => 0xCA
  | .completionsWaiting _ => 0xCB
  | .channelFault _ => 0xCC
  | .evacuationUnannounced .. => 0xCD
  | .linkState .. => 0xCE
  | .noticesLost _ => 0xCF

def ZoneChange.bytes (n : ZoneChange) : List Byte :=
  bytes1 n.zone.val ++ [zoneStateCode n.previous, zoneStateCode n.state, readingCode n.input, zoneCauseCode n.cause] ++
    bytes1 n.cls.code ++ bytes1 n.area.code ++ bytes1 n.suppressed ++ optional bytes4 n.alarmTime ++
    optional bytes2 n.delayRemaining ++ flagByte n.firstAlarm

def FireNotice.bytes (n : FireNotice) : List Byte :=
  [conditionCode n.condition, conditionCode n.previous, fireCauseCode n.cause] ++ bytes4 n.enteredAt ++
    bytes1 n.entries ++ optional (fun z => bytes1 z.val) n.firstAlarm ++ optional bytes2 n.investigation ++
    flagByte n.demand

/-- Table 10-11. -/
def CurtainNotice.bytes (n : CurtainNotice) : List Byte :=
  [n.state.code, n.previous.code, n.reason.code] ++ bytes4 n.position ++ n.causes.bytes ++ n.faults.bytes

def CurtainFaultNotice.bytes (n : CurtainFaultNotice) : List Byte :=
  optional (fun f => [f.code]) n.fault ++ optional bytes4 n.time ++ optional bytes4 n.correction ++ [n.state.code] ++
    bytes4 n.position ++ n.faults.bytes

def Notice.bytes : Notice → List Byte
  | .phase ph act clock stop =>
    phaseCode ph :: (bytes1 act ++ optional bytes4 clock ++ optional StopRecord.bytes stop)
  | .clearance value cause => [clearanceCode value, clearanceCauseCode cause]
  | .showMode on => flagByte on
  | .intervalUp act intervalEnd => bytes1 act ++ bytes4 (intervalEnd.getD 0)
  | .zoneChange n => n.bytes
  | .reportAll => []
  | .fireCondition n => n.bytes
  | .curtain n => n.bytes
  | .curtainFault n => n.bytes
  | .authority n =>
    [authorityCode n.authority, authorityCode n.previous, authorityCauseCode n.cause] ++ bytes4 n.changedAt ++
      flagByte n.parking
  | .callFinished n =>
    bytes1 n.number ++ bytes1 n.message ++ [callOutcomeCode n.outcome] ++ bytes1 n.plays ++ zoneSetBytes n.missed ++
      bytes4 n.finishTime
  | .completionsWaiting entries => bytes1 entries
  | .channelFault n =>
    [channelCode n.channel, channelFaultCode n.fault] ++ optional bytes1 n.number ++ optional bytes1 n.message ++
      [channelStateCode n.other]
  | .evacuationUnannounced a b zones =>
    optional (fun f => [channelFaultCode f]) a ++ optional (fun f => [channelFaultCode f]) b ++ bytes1 zones
  | .linkState port present lastValid => portCode port :: presenceCode present :: (optional bytes4 lastValid)
  | .noticesLost since => bytes4 since

/-! ## Frames -/

/-- The frame of a queued reply or notice, as it leaves a port (R169, R173, R175). -/
def TxFrame.wire (p : Port) : TxFrame → List Byte
  | .reply kind a => frameBytes (stationByte p) kind a.bytes
  | .notice n => frameBytes (stationByte p) n.kind n.bytes

/-- The frame that a port is sending: the oldest of its transmit queue (R176); every transmitter is idle while the part
is inert (R184). -/
def State.sending (s : State) (p : Port) : Option (List Byte) :=
  if s.inert then none else (s.links.get p).tx.head?.map (TxFrame.wire p)

end Sys2Proof.Machine
end

