-- ==== Sys2Proof/Tests/Slice0.lean ====
section
/-! SUPPORT. Tests: ill-formed commands are refused, worked examples of the spec, and for every statement of
Certificates/Slice0/Obligations.lean concrete states and operands that meet the hypotheses of each of its clauses, at
boundary values where a clause has a range. -/
namespace Sys2Proof.Tests
set_option Elab.async false
set_option synthInstance.maxSize 2000
open Sys2Proof Sys2Proof.Machine

/-! ## Ill-formed commands are refused -/

/-- Table 10-6: a payload of more than 120 bytes fits no frame. -/
theorem test_wellFormed_refuses_long : Instr.wellFormed (.lights .house 0 (List.replicate 60 (0, 0))) = false := by
  decide +kernel
/-- R173: an unknown request is one that no row spells. -/
theorem test_wellFormed_refuses_spelled : Instr.wellFormed (.unknownRequest .prompt 0x07 []) = false := by decide +kernel
/-- R172: a frame of kind 0 is a PRESENCE frame. -/
theorem test_wellFormed_refuses_presence : Instr.wellFormed (.unknownRequest .prompt 0 []) = false := by decide +kernel
/-- R180: a flag byte holds 0 or 1. -/
theorem test_wellFormed_refuses_flag : Instr.wellFormed (.endAct .prompt 2) = false := by decide +kernel
/-- R168: a length above 120 is discarded, 120 is not. -/
theorem test_wellFormed_refuses_length : Instr.wellFormed (.lengthAbove120 .house 120) = false ∧
    Instr.wellFormed (.lengthAbove120 .house 121) = true := by decide +kernel
theorem test_wellFormed_accepts : Instr.wellFormed (.endAct .prompt 1) = true ∧
    Instr.wellFormed (.unknownRequest .prompt 0x39 []) = true := by decide +kernel

/-! ## Worked examples of the spec -/

/-- R169: the check value of "123456789". -/
theorem test_crc : crc [0x31, 0x32, 0x33, 0x34, 0x35, 0x36, 0x37, 0x38, 0x39] = 0x29B1 := by decide +kernel

/-- R105, R104: 100 down to 0 in 30 ds, first step: 100 + trunc(-100 / 30) = 97, not 96. -/
theorem test_fade_rounds_toward_start :
    (100 : Int) + Int.tdiv ((0 - 100) * 1) 30 = 97 := by decide

/-! ## Small states -/

/-- A port that is PRESENT and has nothing queued. -/
def up : PortRecord := { State.reset.links.prompt with present := true, timer := some 50 }

/-- The part after power-on, every link up. -/
def fresh : State := { State.reset with links := ⟨up, up, up, up⟩ }

/-- The part after its start-up settle, at clock 1000, in a phase of the performance, every link up. -/
def st (p : Phase) : State :=
  { fresh with
    startUp := none, clock := 1000
    house := { State.reset.house with phase := p }
    lights := { State.reset.lights with phaseSeen := p, consoleSeen := true }
    calls := { State.reset.calls with phaseSeen := p } }

/-- With a fire condition, seen by every block. -/
def fireIs (c : Condition) (s : State) : State :=
  { s with
    fire := { s.fire with condition := c }
    lights := { s.lights with fireSeen := c }
    calls := { s.calls with fireSeen := c, arbiterFire := c } }

/-- With a zone in a state, with an input. -/
def zoneIs (z : ZoneId) (x : ZoneState) (i : Reading) (s : State) : State :=
  { s with fire := { s.fire with zones := s.fire.zones.set z { s.fire.zones[z] with
      state := x, input := i, delayRemaining := if x = .delayed then some 0 else none } } }

/-- Show mode is on. -/
def showMode (s : State) : State := { s with house := { s.house with showMode := true } }

/-- With zones listed. -/
def listed (zs : List ZoneId) (s : State) : State := { s with fire := { s.fire with alarmList := zs } }

/-- With a class on a zone. -/
def classIs (z : ZoneId) (c : ZoneClass) (s : State) : State :=
  { s with fire := { s.fire with zones := s.fire.zones.set z { s.fire.zones[z] with cls := c } } }

/-- With the curtain in a state, nothing demanding it. -/
def curtainIs (c : CurtainState) (s : State) : State :=
  { s with curtain := { s.curtain with state := c, causes := CauseSet.empty, samplesDue := 1 } }

/-- With a line settled, and a candidate on it. -/
def lineIs (l : Line) (settled : Option Reading) (candidate : Option (Reading × Nat)) (s : State) : State :=
  { s with lines := s.lines.set l { s.lines[l] with settled := settled, candidate := candidate } }

/-- With a port PRESENT. -/
def present (p : Port) (s : State) : State :=
  s.setPort p { s.links.get p with present := true, timer := some 0 }

/-- With the authority at the console. -/
def consoleHolds (s : State) : State :=
  { s with lights := { s.lights with authority := .console, consoleSeen := true } }

/-- With a descriptor taken from the pool. -/
def callIs (x : CallId) (d : Descriptor) (s : State) : State :=
  { s with calls := { s.calls with table := s.calls.table.set x d } }

/-- With a descriptor written and moved from the pool into the collection of its life state. -/
def callIn (x : CallId) (d : Descriptor) (s : State) : State :=
  { s with calls := { s.calls with
      table := s.calls.table.set x d
      creation := s.calls.creation.set x s.calls.nextCreation
      nextCreation := s.calls.nextCreation + 1
      pool := s.calls.pool.erase x
      waiting := if d.life = .waiting then x :: s.calls.waiting else s.calls.waiting
      timetable := if d.life = .timed then x :: s.calls.timetable else s.calls.timetable
      ready := if d.life = .ready then x :: s.calls.ready else s.calls.ready } }

/-- With a built-in call running, at a place of its run; its condition has been seen by every block. -/
def runs (b : BuiltIn) (r : RunPosition) (s : State) : State :=
  let c := if b = .evacuation then Condition.evacuate else Condition.alert
  { s with
    fire := { s.fire with condition := c }
    lights := { s.lights with fireSeen := c }
    calls := { s.calls with
      fireSeen := c, arbiterFire := c
      evacuation := if b = .evacuation then r else .notRunning
      staffAlert := if b = .staffAlert then r else .notRunning } }

/-- With every paging zone MUTED. -/
def mutedAll (s : State) : State :=
  { s with calls := { s.calls with paging := s.calls.paging.map fun z => { z with muted := true } } }

/-- A live call of the prompt desk. -/
def liveCall (l : Life) : Descriptor :=
  { Descriptor.free with
    life := l, message := 7, length := 10, zones := 1, repeatCount := 1, notify := true
    due := some 1000, deadline := some 1000, channel := some .a, entry := some 990 }

/-- With a channel in a state that carries a call, every timer run out. -/
def channelIs (ch : Channel) (x : ChannelState) (c : Option CallId) (s : State) : State :=
  { s with calls := s.calls.setChan ch { ChannelRecord.idle with
      state := x, call := c, message := 7, startTimer := some 0, guardTimer := some 0, stopTimer := some 0 } }

/-- Preset 8 is in use. -/
def presetInUse (s : State) : State :=
  { s with lights := { s.lights with presets := s.lights.presets.set 7 ⟨Vector.replicate 48 33, 1, true⟩ } }

/-- With a general call on a channel. -/
def carried (ch : Channel) (x : ChannelState) (i : CallId) (s : State) : State :=
  callIn i { liveCall .playing with channel := some ch } (channelIs ch x (some i) s)

/-- A request can be taken. -/
abbrev ok (p : Port) (k : Byte) (pl : List Byte) (s : State) : Prop := takeable p ⟨k, pl⟩ s = true

/-! ## Witnesses: the step, the frames and the links -/

/-- The port holds one request. -/
def withRx (p : Port) (s : State) : State := s.setPort p { s.links.get p with rx := [⟨0x36, []⟩] }

theorem witness_StepTakesTheFrontCommand :
    (State.reset.pending = [] ∧ ∀ p : Port, (State.reset.links.get p).rx = []) ∧
    ((withRx .prompt State.reset).links.prompt.rx = [⟨0x36, []⟩] ∧ ok .prompt 0x36 [] (withRx .prompt State.reset)) ∧
    ((withRx .house State.reset).links.house.rx = [⟨0x36, []⟩] ∧ (withRx .house State.reset).links.prompt.rx = [] ∧
      ok .house 0x36 [] (withRx .house State.reset)) ∧
    ((withRx .panel State.reset).links.panel.rx = [⟨0x36, []⟩] ∧ (withRx .panel State.reset).links.house.rx = [] ∧
      (withRx .panel State.reset).links.prompt.rx = [] ∧ ok .panel 0x36 [] (withRx .panel State.reset)) ∧
    ((withRx .console State.reset).links.console.rx = [⟨0x36, []⟩] ∧
      (withRx .console State.reset).links.panel.rx = [] ∧ (withRx .console State.reset).links.house.rx = [] ∧
      (withRx .console State.reset).links.prompt.rx = [] ∧ ok .console 0x36 [] (withRx .console State.reset)) := by
  refine ⟨⟨rfl, fun p => by cases p <;> rfl⟩, ?_⟩
  decide +kernel

theorem witness_RequestReadsBackFromItsFrame :
    (requestPort (.goAct .prompt) = some .prompt ∧ Instr.encodable (.goAct .prompt) = true) ∧
    (requestPort (.unknownRequest .house 0xFF [1]) = some .house ∧
      Instr.encodable (.unknownRequest .house 0xFF [1]) = true) ∧
    Instr.encodable (.zoneReport .panel (List.replicate 255 (8, 1))) = true := by decide +kernel

theorem witness_ValidFrameIsReceived :
    State.reset.inert = false ∧ (State.reset.links.get .house).receiver = [] ∧
    (State.reset.links.get .house).present = false ∧
    ((present .house State.reset).links.get .house).present = true ∧
    ((present .house State.reset).links.get .house).receiver = [] ∧
    ((State.reset.links.get .panel).present = false ∧ (State.reset.links.get .panel).receiver = [] ∧
      (State.reset.links.get .panel).overrun = none ∧
      ((State.reset.links.get .panel).tx.filter TxFrame.isNotice).length < 20) ∧
    (List.replicate 120 (0 : Byte)).length ≤ 120 := by decide +kernel

theorem witness_FramesAreDiscardedAndAbandoned :
    (State.reset.inert = false ∧ (State.reset.links.get .panel).receiver = [] ∧ (0x47 : Byte) ≠ stationByte .panel) ∧
    ((0 : BitVec 16) ≠ crc (stationByte .panel :: 0x36 :: BitVec.ofNat 8 0 :: [])) ∧
    (120 < (121 : Byte).toNat ∧
      ((State.reset.setPort .panel { State.reset.links.panel with receiver := [0xA5, 0x46, 0x13] }).links.get
        .panel).receiver.length = 3) := by decide +kernel

theorem witness_RequestsAreRefusedBeforeTheirBlock :
    (requestPort (.unknownRequest .prompt 0x39 []) = some .prompt ∧ kindKnown 0x39 = false ∧
      ok .prompt 0x39 [] fresh) ∧
    (requestPort (.goAct .house) = some .house ∧ kindKnown 0x07 = true ∧ permitted .house 0x07 = false ∧
      ok .house 0x07 [] fresh) ∧
    (shapeOk (.endAct .prompt 2) = false ∧ permitted .prompt 0x08 = true ∧ ok .prompt 0x08 [2] fresh) ∧
    (decodeRow .prompt 0x39 [] = none ∧ 0x38 < (0x39 : Byte).toNat) ∧
    (decodeRow .prompt 0x07 [1] = none ∧ permitted .prompt 0x07 = true) ∧
    (decodeRow .house 0x07 [1] = none ∧ permitted .house 0x07 = false ∧ ok .house 0x07 [1] fresh) ∧
    (decodeRow .house 1 [10] = none ∧ ok .house 1 [10] fresh ∧ 10 ≤ (10 : Byte).toNat) ∧
    ok .house 1 [] fresh ∧
    (ok .house 1 [0] fresh ∧ ([] : List Byte).length ≠ ([5, 22, 5, 2, 51, 3, 6, 12, 3, 1] : List Nat).getD 0 0) ∧
    (ok .house 1 [9, 0, 0] fresh ∧ (9 : Byte).toNat < 10) ∧
    (takeable .prompt ⟨0x07, []⟩ (withRx .prompt fresh) = false) := by decide +kernel

theorem witness_FrameLeavesTheTransmitQueue :
    (State.reset.links.get .prompt).tx = [] ∧
    ((State.reset.setPort .prompt { State.reset.links.prompt with
      present := true, overrun := some 5, tx := List.replicate 20 (.notice (.showMode true)) }).links.get .prompt).tx =
        .notice (.showMode true) :: List.replicate 19 (.notice (.showMode true)) ∧
    ((List.replicate 19 (TxFrame.notice (.showMode true))).filter TxFrame.isNotice).length < 20 := by decide +kernel

theorem witness_SupervisionExpiryLosesThePort :
    ((present .console (st .act)).links.get .console).present = true ∧
    ((present .console (st .act)).links.get .console).timer = some 0 ∧ (present .console (st .act)).inert = false ∧
    (consoleHolds (present .console (st .act))).lights.authority = .console ∧
    (present .console (st .act)).lights.authority = .house ∧
    (((present .panel (st .act)).links.get .panel).timer = some 0 ∧ (st .act).links.panel.rx = []) := by
  decide +kernel

theorem witness_ReadsAnswerAndChangeNothing :
    ok .prompt 0x30 [] fresh ∧ (ok .panel 0x31 [31] fresh ∧ (31 : Byte).toNat < 32) ∧
    ok .console 0x32 [31] fresh ∧ ok .house 0x33 [2] fresh ∧
    (ok .house 0x34 [0, 40, 8] fresh ∧ (40 : Byte).toNat + (8 : Byte).toNat ≤ 48) ∧
    ok .house 0x34 [1, 8, 0] fresh ∧ ok .prompt 0x35 [48] fresh ∧ ok .prompt 0x36 [] fresh ∧
    ok .prompt 0x37 [] fresh ∧ ok .panel 0x38 [] fresh ∧
    (ok .prompt 0x31 [32] fresh ∧ 32 ≤ (32 : Byte).toNat) ∧ ok .prompt 0x33 [3] fresh ∧
    (ok .prompt 0x34 [0, 41, 8] fresh ∧ 48 < (41 : Byte).toNat + (8 : Byte).toNat) ∧
    ok .prompt 0x34 [1, 9, 0] fresh ∧ ok .prompt 0x35 [49] fresh ∧
    (ok .prompt 0x35 [1] (runs .evacuation .waiting (st .act)) ∧
      (runs .evacuation .waiting (st .act)).calls.evacuation = .waiting) ∧
    (ok .house 0x35 [2] (runs .staffAlert .waiting (st .act)) ∧
      (runs .staffAlert .waiting (st .act)).calls.staffAlert = .waiting) := by decide +kernel

/-! ## Witnesses: the Performance Unit -/

theorem witness_PerformancesOpenAndClose :
    (ok .house 0x02 [] fresh ∧ State.reset.house.phase = .unconfigured) ∧
    (NoneDelayed (st .preset) ∧ ok .prompt 0x04 [] (st .preset)) ∧
    (NoneDelayed (st .emptying) ∧ ok .house 0x06 [] (st .emptying)) ∧
    (NoneDelayed (st .dark) ∧ ok .prompt 0x03 [] (st .dark)) ∧
    (ok .house 0x05 [] (st .preset) ∧ (st .preset).fire.condition = .quiet) ∧
    (ok .house 0x05 [] (fireIs .alert (st .preset)) ∧ (fireIs .alert (st .preset)).fire.condition ≠ .quiet) ∧
    (callIn 2 (liveCall .waiting) (st .preset)).calls.lawful ∧
    (ok .house 0x02 [] (st .dark) ∧ ok .prompt 0x03 [] (st .preset) ∧ ok .prompt 0x04 [] (st .dark) ∧
      ok .house 0x05 [] (st .houseOpen) ∧ ok .house 0x06 [] (st .dark)) := by
  decide +kernel

/-- A house ready for its next act. -/
def readyToGo (p : Phase) : State :=
  { curtainIs .stowed (st p) with
    house := { (st p).house with clearance := .given, curtainShown := true, stop := some ⟨.act, .desk⟩ } }

theorem witness_GoActInterlock :
    (ok .prompt 0x07 [] (readyToGo .interval) ∧ (readyToGo .interval).house.clearance = .given ∧
      (readyToGo .interval).fire.condition = .quiet ∧ (readyToGo .interval).curtain.state = .stowed ∧
      NoneDelayed (readyToGo .interval) ∧ (readyToGo .interval).house.curtainShown = true) ∧
    (ok .prompt 0x07 [] (st .houseOpen) ∧ (st .houseOpen).house.clearance = .withheld) ∧
    (ok .prompt 0x07 [] (st .act) ∧ (st .act).house.phase = .act) ∧
    (ok .prompt 0x0A [] (readyToGo .stopped) ∧ (readyToGo .stopped).house.stop.map (·.origin) = some .act ∧
      (fireIs .alert (readyToGo .stopped)).fire.condition = .alert ∧
      ok .prompt 0x0A [] (fireIs .alert (readyToGo .stopped))) := by decide +kernel

theorem witness_ActsEndAndIntervalsRun :
    (ok .prompt 0x08 [0] (st .act) ∧ (st .act).house.actNumber ≠ 9) ∧
    (ok .prompt 0x08 [1] (st .act) ∧ NoneDelayed (st .act)) ∧
    ({ st .act with house := { (st .act).house with actNumber := 9 } } : State).house.actNumber = 9 ∧
    ok .prompt 0x10 [30] (st .interval) ∧ ok .prompt 0x10 [31] (st .interval) ∧ ok .prompt 0x10 [0] (st .interval) ∧
    ({ st .interval with intervalUpDue := true } : State).house.countdown = 0 ∧
    (st .interval).intervalUpDue = false ∧
    ((st .interval).links.prompt.present = true ∧ ((st .interval).links.prompt.tx.filter TxFrame.isNotice).length < 20) ∧
    (ok .prompt 0x08 [1] (showMode (zoneIs 31 .delayed .active (st .act))) ∧
      (showMode (zoneIs 31 .delayed .active (st .act))).fire.zones[(31 : ZoneId)].state = .delayed) ∧
    (ok .prompt 0x08 [0] (st .interval) ∧ ok .prompt 0x08 [1] (st .interval) ∧ ok .prompt 0x10 [1] (st .act)) := by
  decide +kernel

theorem witness_ShowStopAndResume :
    (ok .prompt 0x09 [] (st .act) ∧ NoneDelayed (st .act)) ∧ ok .prompt 0x09 [] (st .stopped) ∧
    (ok .prompt 0x0A [] (readyToGo .stopped) ∧ (readyToGo .stopped).house.stop = some ⟨.act, .desk⟩ ∧
      (readyToGo .stopped).fire.condition = .quiet ∧ (readyToGo .stopped).house.clearance = .given ∧
      (readyToGo .stopped).curtain.state = .stowed ∧ NoneDelayed (readyToGo .stopped)) ∧
    ({ st .stopped with house := { (st .stopped).house with stop := some ⟨.interval, .fire⟩ } } : State).house.stop =
      some ⟨.interval, .fire⟩ ∧
    (presetInUse (st .act)).lights.presets[(7 : Fin 8)].inUse = true ∧
    (st .act).lights.presets[(7 : Fin 8)].inUse = false ∧
    (ok .prompt 0x09 [] (showMode (zoneIs 0 .delayed .faulty (st .interval))) ∧
      (showMode (zoneIs 0 .delayed .faulty (st .interval))).fire.zones[(0 : ZoneId)].state = .delayed) ∧
    ok .prompt 0x0A [] (st .act) ∧
    (ok .prompt 0x0A [] (fireIs .alert (st .stopped)) ∧ (fireIs .alert (st .stopped)).fire.condition ≠ .quiet) := by
  decide +kernel

theorem witness_EndPerformanceEmptiesTheHouse :
    (ok .prompt 0x0B [] (st .stopped) ∧ (st .stopped).house.phase = .stopped) ∧
    (ok .prompt 0x0B [] (st .act) ∧ (st .act).house.phase ≠ .stopped) := by decide +kernel

theorem witness_ClearanceIsGivenAndWithdrawn :
    ok .house 0x0C [] (st .interval) ∧ (st .interval).house.clearance = .withheld ∧ ok .house 0x0C [] (st .act) ∧
    ok .house 0x0D [] (readyToGo .interval) ∧ (readyToGo .interval).house.clearance = .given := by decide +kernel

/-- A live call timed from an anchor. -/
def liveTimed (l : Life) (a : Anchor) : Descriptor :=
  { liveCall l with kind := .scheduled, anchor := some a, basis := if l = .timed then some .anchor else none }

/-- An interval that ended at 900, a call timed from its end, all ready for act 2. -/
def nextAct : State :=
  let s := callIn 2 (liveTimed .timed .intervalEnd) (readyToGo .interval)
  { s with house := { s.house with actNumber := 1, anchors := { Anchors.none with intervalEnd := some 900 } } }

theorem witness_PlannedUpIsWritten :
    ok .prompt 0x0E [0x38, 0x40] (st .preset) ∧ (14400#16).extractLsb' 8 8 = (0x38 : Byte) ∧
    (14400#16).extractLsb' 0 8 = (0x40 : Byte) ∧ ok .prompt 0x0E [0x38, 0x41] (st .stopped) ∧
    ok .prompt 0x0F [0, 0] (st .houseOpen) ∧ (st .houseOpen).house.anchors.plannedUp = none ∧
    ({ st .preset with house := { (st .preset).house with anchors := { Anchors.none with
      plannedUp := some 4294967295 } } } : State).house.anchors.plannedUp = some 4294967295 ∧
    ((callIn 2 (liveTimed .waiting .plannedUp) (st .preset)).calls.lawful ∧
      (callIn 47 (liveTimed .timed .plannedUp) (st .preset)).calls.lawful ∧
      (callIn 47 (liveTimed .timed .plannedUp) (st .preset)).clock < min (Int.toNat ((1001 : Nat) + 0)) 4294967295) ∧
    (ok .prompt 0x0E [0, 0] (st .act) ∧ ok .prompt 0x0F [0, 0] (st .interval)) ∧
    (ok .prompt 0x07 [] nextAct ∧ nextAct.house.phase = .interval ∧ nextAct.house.actNumber ≠ 0 ∧
      nextAct.house.clearance = .given ∧ nextAct.curtain.state = .stowed ∧ NoneDelayed nextAct ∧
      nextAct.house.anchors.get .intervalEnd ≠ none ∧ nextAct.calls.lawful ∧
      nextAct.calls.table[(2 : CallId)].anchor = some .intervalEnd ∧
      nextAct.calls.table[(2 : CallId)].basis = some .anchor) := by decide +kernel

theorem witness_ShowModeIsSwitched :
    (ok .prompt 0x11 [] (st .act) ∧ (st .act).house.showMode = false) ∧
    (ok .prompt 0x12 [] (showMode (st .interval)) ∧ NoneDelayed (showMode (st .interval))) ∧
    (ok .prompt 0x12 [] (showMode (zoneIs 0 .delayed .active (st .act))) ∧
      (showMode (zoneIs 0 .delayed .active (st .act))).fire.zones[(0 : ZoneId)].state = .delayed ∧
      (showMode (zoneIs 0 .delayed .active (st .act))).fire.zones[(0 : ZoneId)].input = .active) ∧
    (showMode (zoneIs 7 .delayed .faulty (st .act))).fire.zones[(7 : ZoneId)].input = .faulty ∧
    (ok .prompt 0x11 [] (st .houseOpen) ∧ ok .prompt 0x12 [] (st .emptying)) := by decide +kernel

/-! ## Witnesses: the Fire Monitor -/

theorem witness_EvacuationIsHandedToEveryBlock :
    (ok .house 0x1A [] (st .act) ∧ (st .act).fire.condition ≠ .evacuate ∧ NoneDelayed (st .act)) ∧
    ok .panel 0x15 [] (fireIs .alert (st .act)) ∧
    ({ st .act with fire := { (st .act).fire with condition := .alert, investigation := some 0 } } : State).fire =
      { (st .act).fire with condition := .alert, investigation := some 0 } ∧
    (ok .house 0x1A [] (fireIs .evacuate (st .act)) ∧ (fireIs .evacuate (st .act)).fire.condition = .evacuate) ∧
    (ok .house 0x1A [] (showMode (zoneIs 31 .delayed .active (st .act))) ∧
      (showMode (zoneIs 31 .delayed .active (st .act))).house.showMode = true ∧
      (showMode (zoneIs 31 .delayed .active (st .act))).fire.zones[(31 : ZoneId)].state = .delayed ∧
      (st .act).links.house.present = true) ∧
    ((st .act).calls.lawful ∧ (st .act).calls.chanA.state = .idle ∧
      ∃ z : Fin 12, (st .act).calls.paging[z].evac = true) ∧
    ((runs .staffAlert .waiting (st .act)).calls.lawful ∧
      (runs .staffAlert .waiting (st .act)).calls.staffAlert ≠ .notRunning) ∧
    ((carried .b .playing 47 (st .act)).calls.lawful ∧ ((carried .b .playing 47 (st .act)).calls.chan .b).call = some 47) ∧
    ((channelIs .a .faulted none (channelIs .b .faulted none (st .act))).calls.lawful ∧
      (channelIs .a .faulted none (channelIs .b .faulted none (st .act))).calls.chanA.state = .faulted ∧
      (channelIs .a .faulted none (channelIs .b .faulted none (st .act))).calls.chanB.state = .faulted) := by
  decide +kernel

/-- An evacuation with nothing in alarm, both channels FAULTED, and a call that fell due meanwhile. -/
def catchUp : State :=
  callIn 2 (liveCall .timed) (runs .evacuation .waiting
    (channelIs .a .faulted none (channelIs .b .faulted none (st .stopped))))

theorem witness_ReturnToQuiet :
    (ok .house 0x1B [] (fireIs .alert (st .act)) ∧ (fireIs .alert (st .act)).fire.condition = .alert ∧
      (fireIs .alert (st .act)).fire.alarmList = [] ∧ NoneDelayed (fireIs .alert (st .act))) ∧
    (ok .house 0x1C [] (fireIs .evacuate (st .stopped)) ∧ (fireIs .evacuate (st .stopped)).fire.alarmList = []) ∧
    (ok .house 0x1C [] (listed [31] (fireIs .evacuate (st .act))) ∧
      (listed [31] (fireIs .evacuate (st .act))).fire.alarmList ≠ []) ∧
    ok .house 0x1B [] (st .act) ∧ ok .house 0x1B [] (fireIs .evacuate (st .act)) ∧
    ((fireIs .evacuate (st .stopped)).lights.fireSeen = .evacuate ∧ (fireIs .evacuate (st .stopped)).lights.panic = false ∧
      (fireIs .alert (st .act)).lights.fireSeen ≠ .evacuate) ∧
    (ok .house 0x1C [] catchUp ∧ catchUp.fire.alarmList = [] ∧ catchUp.calls.lawful ∧
      catchUp.calls.fireSeen = .evacuate ∧
      (2 : CallId) ∈ catchUp.calls.timetable.takeWhile (fun i => (catchUp.calls.table[i].due).any (· ≤ catchUp.clock)) ∧
      catchUp.calls.table[(2 : CallId)].due = some 1000 ∧ catchUp.calls.table[(2 : CallId)].lifetime = 0 ∧
      catchUp.calls.chanA.state = .faulted ∧ catchUp.calls.chanB.state = .faulted ∧
      catchUp.calls.audible catchUp.calls.table[(2 : CallId)].zones) := by decide +kernel

theorem witness_ZoneReportsReachTheirZones :
    (ok .panel 0x13 (BitVec.ofNat 8 2 :: pairBytes [(8, 1), (8, 2)]) (st .act) ∧
      ([((8 : Byte), (1 : Byte)), (8, 2)].reverse.find? (fun x => x.1.toNat == (8 : ZoneId).val)) = some (8, 2)) ∧
    ok .panel 0x13 (BitVec.ofNat 8 1 :: pairBytes [(7, 1)]) (st .act) ∧
    ok .panel 0x13 (BitVec.ofNat 8 1 :: pairBytes [(32, 1)]) (st .act) ∧
    (ok .panel 0x13 [1, 31, 1] (st .act) ∧ (st .act).fire.zones[(31 : ZoneId)].state = .fault) ∧
    (ok .panel 0x13 [1, 8, 2] (zoneIs 8 .normal .quiet (st .act)) ∧
      (zoneIs 8 .normal .quiet (st .act)).fire.zones[(8 : ZoneId)].state = .normal) ∧
    (ok .panel 0x13 [1, 8, 0] (st .act) ∧ (st .act).fire.zones[(8 : ZoneId)].state = .fault) ∧
    (zoneIs 8 .alarm .active (st .act)).fire.zones[(8 : ZoneId)].state = .alarm ∧
    (zoneIs 8 .isolated .quiet (st .act)).fire.zones[(8 : ZoneId)].state = .isolated := by decide +kernel

/-- Paging zone 11 is a staff zone, and a call plays in it on channel B. -/
def staffed : State :=
  let s := carried .b .playing 2 (st .act)
  let b := s.calls.chanB
  { s with calls := { s.calls with
      chanB := { b with live := 0x800 }
      paging := s.calls.paging.set 11 ⟨true, true, false, false, some .b⟩ } }

theorem witness_LadderOfOneAlarm :
    (ok .panel 0x13 [1, 8, 1] (st .act) ∧ (st .act).fire.zones[(8 : ZoneId)].state = .fault ∧ NoneDelayed (st .act) ∧
      (st .act).fire.condition = .quiet ∧ (st .act).fire.alarmList = [] ∧
      (st .act).fire.zones[(8 : ZoneId)].cls = .detector) ∧
    (listed [9] (st .act)).fire.alarmList ≠ [] ∧ (fireIs .alert (st .act)).fire.condition = .alert ∧
    (classIs 8 .callPoint (st .act)).fire.zones[(8 : ZoneId)].cls = .callPoint ∧
    (classIs 31 .suppression (st .act)).fire.zones[(31 : ZoneId)].cls = .suppression ∧
    (fireIs .evacuate (st .act)).fire.condition = .evacuate ∧
    (staffed.calls.chanA.state = .idle ∧ (∃ z : Fin 12, staffed.calls.paging[z].staff = true) ∧ staffed.calls.lawful ∧
      (staffed.calls.chan .b).call = some 2 ∧ (staffed.calls.chan .b).live &&& staffed.calls.staffZones ≠ 0) := by
  decide +kernel

theorem witness_ResetOfAZone :
    (ok .house 0x16 [7] (listed [7] (zoneIs 7 .alarm .quiet (st .act))) ∧
      (listed [7] (zoneIs 7 .alarm .quiet (st .act))).fire.zones[(7 : ZoneId)].state = .alarm ∧
      (listed [7] (zoneIs 7 .alarm .quiet (st .act))).fire.zones[(7 : ZoneId)].input ≠ .active) ∧
    (ok .panel 0x14 [8] (listed [8] (zoneIs 8 .alarm .faulty (st .act))) ∧
      (listed [8] (zoneIs 8 .alarm .faulty (st .act))).fire.zones[(8 : ZoneId)].state = .alarm) ∧
    (zoneIs 0 .alarm .active (st .act)).fire.zones[(0 : ZoneId)].input = .active ∧
    (st .act).fire.zones[(0 : ZoneId)].state ≠ .alarm ∧
    (ok .house 0x16 [8] (st .act) ∧ 8 ≤ (8 : Byte).toNat) ∧ ok .panel 0x14 [7] (st .act) ∧
    (ok .panel 0x14 [32] (st .act) ∧ 32 ≤ (32 : Byte).toNat) := by decide +kernel

theorem witness_ZonesAreIsolatedAndRestored :
    (ok .house 0x17 [0] (st .act) ∧ (st .act).fire.zones[(0 : ZoneId)].state = .normal) ∧
    (ok .house 0x17 [31] (zoneIs 31 .alarm .active (st .act)) ∧
      (zoneIs 31 .alarm .active (st .act)).fire.zones[(31 : ZoneId)].state = .alarm) ∧
    (ok .house 0x18 [31] (zoneIs 31 .isolated .active (st .act)) ∧
      (zoneIs 31 .isolated .active (st .act)).fire.zones[(31 : ZoneId)].state = .isolated) ∧
    (zoneIs 0 .isolated .quiet (st .act)).fire.zones[(0 : ZoneId)].input = .quiet ∧
    (zoneIs 0 .isolated .faulty (st .act)).fire.zones[(0 : ZoneId)].input = .faulty ∧
    (ok .house 0x18 [0] (st .act) ∧ (st .act).fire.zones[(0 : ZoneId)].state ≠ .isolated) ∧
    ok .house 0x17 [32] (st .act) ∧ ok .house 0x18 [32] (st .act) := by decide +kernel

theorem witness_AcknowledgeClearsOneDesksFlags :
    ok .prompt 0x19 [31] (st .act) ∧ ok .house 0x19 [0] (st .act) ∧ ok .prompt 0x19 [0xFF] (st .act) ∧
    ok .house 0x19 [0xFF] (st .act) ∧ (ok .house 0x19 [32] (st .act) ∧ 32 ≤ (32 : Byte).toNat) ∧
    ok .prompt 0x19 [0xFE] (st .act) := by decide +kernel

/-- Zones 0 and 31 are DELAYED in an act. -/
def bothDelayed : State := showMode (zoneIs 0 .delayed .active (zoneIs 31 .delayed .active (st .act)))

theorem witness_ShowDelayStartsAndRunsOut :
    ((lineIs 7 (some .quiet) (some (.active, 0)) (st .act)).lines[(7 : Line)].candidate = some (.active, 0) ∧
      (lineIs 7 (some .quiet) (some (.active, 0)) (st .act)).fire.zones[(7 : ZoneId)].state = .normal) ∧
    ((lineIs 0 (some .active) (some (.quiet, 0)) (zoneIs 0 .delayed .active (st .act))).lines[(0 : Line)].candidate =
        some (.quiet, 0) ∧
      (lineIs 0 (some .active) (some (.quiet, 0)) (zoneIs 0 .delayed .active (st .act))).fire.zones[(0 : ZoneId)].state =
        .delayed) ∧
    ((zoneIs 0 .delayed .active (st .act)).fire.zones[(0 : ZoneId)].delayRemaining = some 0 ∧
      (zoneIs 0 .delayed .active (st .act)).inert = false) ∧
    (zoneIs 7 .delayed .faulty (st .act)).fire.zones[(7 : ZoneId)].delayRemaining = some 0 ∧
    (bothDelayed.fire.zones[(0 : ZoneId)].delayRemaining = some 0 ∧ bothDelayed.fire.condition = .quiet ∧
      bothDelayed.fire.alarmList = [] ∧ bothDelayed.alarming.filter (· ≠ 0) = [31] ∧
      ∀ y ∈ bothDelayed.alarming, bothDelayed.fire.zones[y].cls = .detector) ∧
    (ok .panel 0x13 [1, 8, 1] bothDelayed ∧ bothDelayed.fire.zones[(8 : ZoneId)].state = .fault ∧
      bothDelayed.fire.zones[(8 : ZoneId)].cls = .detector) := by decide +kernel

/-! ## Witnesses: the curtain -/

theorem witness_CurtainReleaseRequests :
    (ok .prompt 0x1D [] (curtainIs .raising (st .act)) ∧ (curtainIs .raising (st .act)).curtain.state = .raising ∧
      (curtainIs .raising (st .act)).settled bottomLine ≠ some .active) ∧
    (lineIs 11 (some .active) none (curtainIs .stowed (st .act))).settled bottomLine = some .active ∧
    (ok .prompt 0x1D [] (curtainIs .jammed (st .act)) ∧ (curtainIs .jammed (st .act)).curtain.state ≠ .halted) ∧
    (ok .prompt 0x1E [] (curtainIs .stowed (st .houseOpen)) ∧ (st .houseOpen).fire.condition = .quiet ∧
      (curtainIs .stowed (st .houseOpen)).settled bottomLine ≠ some .active) ∧
    ok .prompt 0x1E [] (fireIs .alert (curtainIs .halted (st .interval))) ∧ ok .prompt 0x1E [] (st .act) ∧
    (ok .prompt 0x21 [] ({ st .act with curtain := { (st .act).curtain with manual := true } } : State) ∧
      (st .act).settled manualLine ≠ some .active) ∧
    (lineIs 9 (some .active) none (st .act)).settled manualLine = some .active ∧
    (st .act).curtain.manual = false ∧
    (ok .prompt 0x1E [] (lineIs 11 (some .active) none (curtainIs .stowed (st .interval))) ∧
      (lineIs 11 (some .active) none (curtainIs .stowed (st .interval))).settled bottomLine = some .active ∧
      (st .interval).fire.condition = .quiet) := by decide +kernel

theorem witness_RaiseIsHeldAndHalted :
    (ok .prompt 0x1F [] (curtainIs .landed (st .houseOpen)) ∧
      (curtainIs .landed (st .houseOpen)).curtain.fireDemand = false ∧
      (curtainIs .landed (st .houseOpen)).curtain.hardLine = false ∧
      (curtainIs .landed (st .houseOpen)).curtain.manual = false ∧
      (curtainIs .landed (st .houseOpen)).fire.condition = .quiet ∧
      (curtainIs .landed (st .houseOpen)).curtain.faults.jammed = none) ∧
    ok .prompt 0x1F [] (fireIs .alert (curtainIs .halted (st .act))) ∧
    ok .prompt 0x1F [] (curtainIs .jammed (st .act)) ∧ ok .prompt 0x1F [] (curtainIs .raising (st .act)) ∧
    ok .prompt 0x1F [] (curtainIs .stowed (st .act)) ∧ ok .prompt 0x1F [] (curtainIs .secondary (st .act)) ∧
    ok .prompt 0x20 [] (curtainIs .raising (st .act)) ∧ ok .prompt 0x20 [] (curtainIs .halted (st .act)) ∧
    (⟨1000, 0, []⟩ : RaiseRecord).leaseExpiry ≤ (curtainIs .raising (st .act)).clock ∧
    (curtainIs .raising (st .act)).clock < (⟨1001, 0, []⟩ : RaiseRecord).leaseExpiry := by decide +kernel

theorem witness_ClearCurtainFaults :
    ok .prompt 0x22 [] (curtainIs .jammed (st .act)) ∧
    (curtainIs .jammed (st .act)).curtain.faults = FaultSet.empty ∧
    ok .prompt 0x22 [] ({ st .act with curtain := { (st .act).curtain with
      faults := { FaultSet.empty with jammed := some 3, lag := some 2 } } } : State) := by decide +kernel

/-- A raise at its sample 20 with the curtain at 300 mm throughout. -/
def raised : State :=
  { curtainIs .raising (st .act) with curtain := { (curtainIs .raising (st .act)).curtain with
      raise := some ⟨1005, 19, List.replicate 20 300⟩ } }

/-- R63, R75, R76: 329 mm is a stall and 330 mm is not; 8,200 mm is over-travel and 8,199 mm is not; R77: a
difference of 120 mm creeps and one of 100 mm does not. -/
theorem witness_RaiseAndCreepSamples :
    (raised.curtain.raise = some ⟨1005, 19, List.replicate 20 300⟩ ∧ raised.inert = false ∧
      raised.curtain.state = .raising ∧ 0 < raised.curtain.samplesDue ∧
      (List.replicate 20 300)[19]? = some 300 ∧ raised.params.curtain.stallDistance = 30 ∧
      ((330 : BitVec 17).toNat - raised.curtain.homeOffset) * 1000 / raised.params.curtain.countsPerMetre = 330) ∧
    raised.params.curtain.travel + 200 = 8200 ∧ raised.settled topLine ≠ some .active ∧
    ((curtainIs .stowed (st .act)).inert = false ∧ 0 < (curtainIs .stowed (st .act)).curtain.samplesDue ∧
      ((7880 : BitVec 17).toNat - 0) * 1000 / (st .act).params.curtain.countsPerMetre +
        (st .act).params.curtain.creepLimit < (st .act).params.curtain.travel ∧
      (st .act).params.curtain.travel ≤ ((7900 : BitVec 17).toNat - 0) * 1000 /
        (st .act).params.curtain.countsPerMetre + (st .act).params.curtain.creepLimit) := by decide +kernel

/-- A descent from the top of its travel, at a sample. -/
def falling (c : CurtainState) (sample : Nat) (window : List Nat) : State :=
  { curtainIs c (st .act) with curtain := { (curtainIs c (st .act)).curtain with
      lowCount := some 9
      descent := some { makeDescent (st .act).curtainEnv 8000 with
        sample := sample, window := window, overspeedCount := 1, secondaryStart := some 180 } } }

theorem witness_DescentSampleCountsLag :
    (falling .descending 99 [5000]).curtain.descent.map (·.sample) = some 99 ∧
    (falling .descending 99 [5000]).inert = false ∧ (falling .descending 99 [5000]).curtain.state = .descending ∧
    0 < (falling .descending 99 [5000]).curtain.samplesDue ∧
    (falling .descending 99 [5000]).params.curtain.landingWindow < 21 := by decide +kernel

/-- R95: 1,200 mm before and 1,020 mm now are 360 mm/s, above the limit of 300; R97: a fall of 29 mm jams. -/
theorem witness_DescentSampleEndsAndRetards :
    (20 ≤ (falling .descending 300 [20]).params.curtain.landingWindow ∧
      (falling .descending 300 [20]).settled bottomLine ≠ some .active ∧
      (falling .descending 300 [20]).curtain.lowCount = some 9) ∧
    ((falling .descending 199 (List.replicate 5 1200)).curtain.descent.map fun d =>
      (d.window[4]?, d.overspeedCount, d.retard, decide (1020 ≤ d.slowHeight),
        decide (1020 ≤ d.allowedAt (d.sample + 1) + 150))) = some (some 1200, 1, false, true, true) ∧
    (st .act).params.curtain.slowSpeed < (1200 - 1020) * 2 ∧
    ((falling .descending 4 (List.replicate 5 8000)).curtain.descent.map fun d =>
      (decide (4 ≤ d.sample), d.window[4]?, decide (7888 ≤ d.allowedAt (d.sample + 1) + 150))) =
        some (true, some 8000, true) ∧
    (((8000 : Nat) : Int) - ((7888 : Nat) : Int)) * 2 ≤ (((st .act).params.curtain.slowSpeed * 3 / 4 : Nat) : Int) ∧
    (((st .act).params.curtain.slowSpeed * 3 / 4 : Nat) : Int) < (((8000 : Nat) : Int) - ((7887 : Nat) : Int)) * 2 ∧
    ((falling .secondary 199 (List.replicate 20 3029)).curtain.descent.map fun d =>
      (d.secondaryStart, d.window[19]?, decide (180 + 20 ≤ d.sample + 1))) = some (some 180, some 3029, true) ∧
    3029 < 3000 + (st .act).params.curtain.stallDistance := by decide +kernel

/-- R90: exact and inexact quotients of both legs, a position at the slow height and one on the floor. -/
theorem witness_EnvelopeOfADescent :
    (st .act).curtainEnv.params.slowHeight < (st .act).curtainEnv.params.travel ∧
    (makeDescent (st .act).curtainEnv 8150).p0 = 8000 ∧ 0 < (makeDescent (st .act).curtainEnv 8150).fastLeg ∧
    0 < (makeDescent (st .act).curtainEnv 8150).slowLeg ∧
    ((makeDescent (st .act).curtainEnv 8000).travel - (makeDescent (st .act).curtainEnv 8000).slowHeight ∣
      200 * ((makeDescent (st .act).curtainEnv 8000).p0 - (makeDescent (st .act).curtainEnv 8000).slowHeight)) ∧
    (¬ (makeDescent (st .act).curtainEnv 2001).travel - (makeDescent (st .act).curtainEnv 2001).slowHeight ∣
      200 * ((makeDescent (st .act).curtainEnv 2001).p0 - (makeDescent (st .act).curtainEnv 2001).slowHeight)) ∧
    (makeDescent (st .act).curtainEnv 2001).fastLeg = 1 ∧ (makeDescent (st .act).curtainEnv 2000).fastLeg = 0 ∧
    (makeDescent (st .act).curtainEnv 0).s0 = 0 := by decide +kernel

/-! ## Witnesses: the lights -/

theorem witness_LightsStartsItsFades :
    (ok .house 0x23 (3 :: BitVec.ofNat 8 2 :: pairBytes [(47, 10), (47, 20)]) (st .act) ∧
      (st .act).lights.authority = .house ∧
      [((47 : Byte), (10 : Byte)), (47, 20)].reverse.find? (fun x => x.1.toNat == (47 : Fin 48).val) = some (47, 20) ∧
      0 < (st .act).lights.slotDuration 3 ∧ (st .act).lights.slotDuration 0 = 0) ∧
    (ok .console 0x23 (0xFF :: BitVec.ofNat 8 1 :: pairBytes [(0, 255)]) (consoleHolds (st .act)) ∧
      (consoleHolds (st .act)).lights.authority = .console) ∧
    ok .house 0x23 (4 :: BitVec.ofNat 8 1 :: pairBytes [(0, 1)]) (st .act) ∧
    ok .house 0x23 (0 :: BitVec.ofNat 8 1 :: pairBytes [(48, 1)]) (st .act) ∧
    ok .house 0x23 (0 :: BitVec.ofNat 8 1 :: pairBytes [(0, 1)]) (consoleHolds (st .act)) := by decide +kernel

theorem witness_PresetsAndHolds :
    (ok .house 0x24 [8, 0xFF] (presetInUse (st .act)) ∧
      (presetInUse (st .act)).lights.presets[(7 : Fin 8)].inUse = true) ∧
    (ok .console 0x24 [1, 3] (consoleHolds (st .act)) ∧
      (consoleHolds (st .act)).lights.presets[(0 : Fin 8)].inUse = false) ∧
    ok .house 0x25 [] (st .act) ∧ ok .console 0x25 [] (consoleHolds (st .act)) ∧
    (ok .console 0x24 [1, 0] (st .act) ∧ (st .act).lights.authority = .house) ∧
    (ok .house 0x25 [] (consoleHolds (st .act)) ∧ (consoleHolds (st .act)).lights.authority = .console) ∧
    (ok .house 0x24 [9, 0] (st .act) ∧ 8 < (9 : Byte).toNat) ∧ ok .house 0x24 [0, 0] (st .act) ∧
    (ok .house 0x24 [8, 4] (st .act) ∧ 4 ≤ (4 : Byte).toNat) ∧ ok .house 0x24 [8, 0xFE] (st .act) := by
  decide +kernel

/-- Circuit 47 fades, one step owed. -/
def fading (elapsed : Nat) : State :=
  { st .act with lights := { (st .act).lights with
      circuits := (st .act).lights.circuits.set 47
        { Circuit.powerOn with base := 100, fade := some ⟨100, 0, 30, elapsed, 900, 1⟩ }
      stepsDue := (st .act).lights.stepsDue.set 47 1 } }

theorem witness_FadeStepFollowsItsLine :
    ((fading 0).lights.circuits[(47 : Fin 48)].fade = some ⟨100, 0, 30, 0, 900, 1⟩ ∧ (fading 0).inert = false ∧
      0 < (fading 0).lights.stepsDue[(47 : Fin 48)]) ∧
    ((fading 29).lights.circuits[(47 : Fin 48)].fade.map fun f => (f.elapsed + 1, f.duration)) = some (30, 30) := by
  decide +kernel

/-- R105: that first step stands at 97. -/
theorem test_fade_step : (match execFadeStep 47 (fading 0) with
    | .next t => t.lights.circuits[(47 : Fin 48)].base
    | _ => 0) = 97 := by decide +kernel

theorem witness_AuthorityIsTakenAndReturned :
    (ok .console 0x26 [] ({ st .act with lights := { (st .act).lights with consoleSeen := true } } : State) ∧
      (st .act).lights.phaseSeen = .act ∧ (st .act).lights.fireSeen ≠ .evacuate ∧
      (st .act).lights.authority = .house) ∧
    ok .console 0x26 [] (consoleHolds (st .interval)) ∧
    (ok .console 0x26 [] ({ st .act with lights := { (st .act).lights with consoleSeen := false } } : State) ∧
      ok .console 0x26 [] (fireIs .evacuate (st .act)) ∧ (fireIs .evacuate (st .act)).lights.fireSeen = .evacuate) ∧
    (ok .console 0x26 [] (st .preset) ∧ (st .preset).lights.phaseSeen = .preset) ∧
    ok .console 0x27 [] (consoleHolds (st .act)) ∧ ok .house 0x28 [] (consoleHolds (st .act)) ∧
    ok .console 0x27 [] (st .act) ∧ ok .house 0x28 [] (st .act) := by decide +kernel

/-- Panic is in force. -/
def panicking (s : State) : State := { s with lights := { s.lights with panic := true } }

theorem witness_PanicAndTheDimmerLine :
    ok .house 0x29 [] (st .act) ∧ (ok .house 0x2A [] (st .act) ∧ (st .act).lights.panic = false) ∧
    (ok .house 0x2A [] (panicking (fireIs .evacuate (st .act))) ∧
      (panicking (fireIs .evacuate (st .act))).lights.fireSeen = .evacuate) ∧
    (ok .house 0x2A [] (panicking (st .act)) ∧ (panicking (st .act)).lights.fireSeen ≠ .evacuate) ∧
    ((st .act).inert = false ∧ (st .act).lights.dimmer = none) ∧
    ({ (st .act).lights with dimmer := some (Vector.replicate 48 255) } : Lights).dimmer ≠ none := by decide +kernel

/-- Table 7-2: blackout in ACT leaves a circuit at 0, a masked one at its base, an escape-lit one at 64. -/
theorem test_composition :
    composedLevel { (st .act).lights with blackout := .active } 64 ⟨1, false, false, 200, 90, none⟩ = 0 ∧
    composedLevel { (st .act).lights with blackout := .active } 64 ⟨1, false, true, 200, 90, none⟩ = 90 ∧
    composedLevel { (st .act).lights with blackout := .active } 64 ⟨1, true, false, 200, 90, none⟩ = 64 := by
  decide +kernel

/-! ## Witnesses: calls and channels -/

/-- The frame of a CREATE CALL is the one at the head of its port. -/
abbrev okCreate (p : Port) (i : Instr) (s : State) : Prop := takeable p (requestFrame i) s = true ∧ shapeOk i = true

theorem witness_CreateCallByItsChecks :
    (okCreate .house (.createCall .house 2 7 10 1 1 0 0 0 none) (st .dark) ∧ (st .dark).calls.phaseSeen = .dark) ∧
    okCreate .prompt (.createCall .prompt 3 7 10 1 1 0 0 0 none) (st .act) ∧
    okCreate .prompt (.createCall .prompt 2 0 10 1 1 0 0 0 none) (st .act) ∧
    (okCreate .prompt (.createCall .prompt 2 7 10 0x1000 1 0 0 0 none) (st .act) ∧ 4096 ≤ (0x1000 : Half).toNat) ∧
    okCreate .house (.createCall .house 1 7 10 1 1 0 0 1 (some (6, 0))) (st .act) ∧
    okCreate .house (.createCall .house 1 7 10 0 1 0 0 1 (some (5, 0))) (st .act) ∧
    (okCreate .prompt (.createCall .prompt 2 7 10 0xFFF 1 0 0 0 none)
        ({ st .act with calls := { (st .act).calls with pool := [] } } : State) ∧
      (0xFFF : Half).toNat < 4096) := by decide +kernel

theorem witness_ImmediateCallIsPlaced :
    ((st .act).calls.pool.head? = some 2 ∧
      okCreate .prompt (.createCall .prompt 2 7 601 0xFFF 0 3001 6001 1 none) (st .act) ∧
      (st .act).calls.phaseSeen = .act) ∧
    (okCreate .house (.createCall .house 2 7 1 1 255 0 0 0 none) (st .preset) ∧ (st .preset).calls.ordered) ∧
    (fireIs .evacuate (st .act)).calls.arbiterFire = .evacuate ∧
    (NothingWaits (st .act).calls ∧ (st .act).calls.arbiterFire = .quiet ∧ (st .act).calls.chanA.state = .idle ∧
      (st .act).calls.chanA.reserved = none ∧ ∀ z : Fin 12, (st .act).calls.paging[z].conn = none ∧
        (st .act).calls.paging[z].held = false ∧ (st .act).calls.paging[z].muted = false) ∧
    ((mutedAll (st .act)).calls.pool.head? = some 2 ∧ (mutedAll (st .act)).calls.lawful ∧
      ¬ (mutedAll (st .act)).calls.audible 0xFFF ∧
      okCreate .prompt (.createCall .prompt 2 7 600 0xFFF 1 0 0 0 none) (mutedAll (st .act))) := by decide +kernel

/-- HOUSE_OPEN was set at 900. -/
def houseOpened : State :=
  { st .act with house := { (st .act).house with anchors := { Anchors.none with houseOpen := some 900 } } }

theorem witness_ScheduledCallIsArmed :
    (houseOpened.calls.pool.head? = some 2 ∧
      okCreate .house (.createCall .house 1 7 10 1 1 0 0 1 (some (1, 101))) houseOpened) ∧
    houseOpened.house.anchors.get .curtainDown = none ∧
    (houseOpened.house.anchors.get .houseOpen = some 900 ∧ houseOpened.clock < min (Int.toNat (900 + 101)) 4294967295 ∧
      min (Int.toNat (900 + 100)) 4294967295 ≤ houseOpened.clock ∧ houseOpened.calls.fireSeen ≠ .evacuate) ∧
    (okCreate .prompt (.createCall .prompt 1 7 600 0xFFF 255 3000 99 0 (some (1, 0))) houseOpened ∧
      (0 : Nat) < min 6000 (99 : Half).toNat ∧
      min (Int.toNat ((900 : Nat) + 0)) 4294967295 + min 6000 (99 : Half).toNat < houseOpened.clock ∧
      houseOpened.clock ≤ min (Int.toNat ((900 : Nat) + 0)) 4294967295 + min 6000 (100 : Half).toNat ∧
      houseOpened.calls.lawful) ∧
    ((channelIs .a .faulted none (channelIs .b .faulted none houseOpened)).calls.ready = [] ∧
      (channelIs .a .faulted none (channelIs .b .faulted none houseOpened)).calls.chanA.state ≠ .idle ∧
      (channelIs .a .faulted none (channelIs .b .faulted none houseOpened)).calls.chanB.state ≠ .idle ∧
      houseOpened.calls.audible 0xFFF) := by
  decide +kernel

theorem witness_CancelCallFinishesIt :
    (ok .prompt 0x2C [3] (callIs 2 (liveCall .timed) (st .act)) ∧
      (callIs 2 (liveCall .timed) (st .act)).calls.table[(2 : CallId)].life = .timed ∧
      (callIs 2 (liveCall .timed) (st .act)).calls.finished = [] ∧
      ((callIs 2 (liveCall .timed) (st .act)).calls.queue .prompt).length < 16) ∧
    (ok .house 0x2C [48] (channelIs .a .playing (some 47) (callIs 47 (liveCall .playing) (st .act))) ∧
      (callIs 47 (liveCall .playing) (st .act)).calls.table[(47 : CallId)].channel = some .a ∧
      ({ (st .act).pins with playingA := true } : Pins).playing .a = true) ∧
    (ok .prompt 0x2C [3] (st .act) ∧ (st .act).calls.table[(2 : CallId)].life = .free) ∧
    (ok .prompt 0x2C [2] (st .act) ∧ (1 : CallId).val < 2) ∧
    ((callIn 2 (liveCall .ready) (st .act)).calls.lawful ∧ (carried .a .playing 47 (st .act)).calls.lawful ∧
      (callIn 2 (liveCall .timed) (st .act)).calls.lawful) ∧
    (ok .prompt 0x2C [0] (st .act) ∧ ok .house 0x2C [49] (st .act) ∧ 48 < (49 : Byte).toNat) := by decide +kernel

/-- One call stands alone in the timetable, both channels busy. -/
def dueCall : State :=
  let s := channelIs .a .playing (some 40) (channelIs .b .playing (some 41) (callIs 2 (liveCall .timed) (st .act)))
  { s with calls := { s.calls with timetable := [2] } }

/-- Two calls are due together, no channel IDLE. -/
def twoDue : State :=
  callIn 2 (liveCall .timed) (callIn 47 { liveCall .timed with kind := .immediate }
    (channelIs .a .faulted none (channelIs .b .faulted none (st .act))))

theorem witness_CallsFallDueAndExpire :
    (twoDue.calls.lawful ∧ twoDue.calls.ordered ∧ twoDue.calls.timetable = [2, 47] ∧ twoDue.inert = false ∧
      twoDue.calls.chanA.state ≠ .idle ∧ twoDue.calls.chanB.state ≠ .idle ∧ twoDue.calls.fireSeen ≠ .evacuate ∧
      ∀ x ∈ twoDue.calls.timetable ++ twoDue.calls.ready, twoDue.calls.audible twoDue.calls.table[x].zones) ∧
    (dueCall.calls.timetable = [2] ∧ dueCall.calls.table[(2 : CallId)].due = some 1000 ∧ dueCall.inert = false ∧
      dueCall.calls.fireSeen ≠ .evacuate ∧ 1000 ≤ dueCall.clock ∧ dueCall.calls.ready = [] ∧
      dueCall.calls.chanA.state ≠ .idle ∧ dueCall.calls.chanB.state ≠ .idle ∧
      dueCall.calls.table[(2 : CallId)].zones &&& ~~~dueCall.calls.mutedZones ≠ 0) ∧
    ({ dueCall with clock := 999 } : State).clock < 1000 ∧
    ((callIs 47 (liveCall .ready) (st .act)).calls.table[(47 : CallId)].deadline = some 1000 ∧
      (callIs 47 (liveCall .ready) (st .act)).calls.table[(47 : CallId)].life = .ready) ∧
    dueCall.calls.table[(2 : CallId)].life ≠ .ready ∧ (st .act).calls.table[(47 : CallId)].deadline = none := by
  decide +kernel

/-- A call of zone 0 waits, alone or ahead of one of another set, while zone 0 is HELD; channel A is free. -/
def heldBack (more : List CallId) (zones : ZoneSet) : State :=
  let s := callIs 2 (liveCall .ready) (callIs 3 { liveCall .ready with zones := zones } (st .act))
  { s with calls := { s.calls with
      ready := 2 :: more, paging := s.calls.paging.set 0 { s.calls.paging[0] with held := true } } }

theorem witness_CompletionsGatesAndChannelResets :
    (ok .house 0x2E [0, 0, 0] (heldBack [] 1) ∧ (heldBack [] 1).calls.ready = [2] ∧
      (heldBack [] 1).calls.arbiterFire = .quiet ∧ (heldBack [] 1).calls.evacuation ≠ .waiting ∧
      (heldBack [] 1).calls.staffAlert ≠ .waiting ∧ (heldBack [] 1).calls.chanA.state = .idle ∧
      (heldBack [] 1).calls.chanA.reserved = none ∧
      (heldBack [] 1).calls.paging.set 0 { (heldBack [] 1).calls.paging[0] with muted := false, held := false } ≠
        (heldBack [] 1).calls.paging) ∧
    (ok .house 0x2E [11, 1, 0] (heldBack [3] 2) ∧ (heldBack [3] 2).calls.ready = [2, 3] ∧
      (heldBack [3] 2).calls.paging[(0 : Fin 12)].held = true ∧
      (heldBack [3] 2).calls.table[(2 : CallId)].zones.getLsbD 0 = true ∧
      (heldBack [3] 2).calls.table[(3 : CallId)].zones.getLsbD 1 = true ∧
      (heldBack [3] 2).calls.table[(2 : CallId)].zones.getLsbD 1 = false ∧
      (heldBack [3] 3).calls.table[(3 : CallId)].zones.getLsbD 0 = true) ∧
    (ok .house 0x2E [12, 1, 0] (st .act) ∧ 12 ≤ (12 : Byte).toNat) ∧
    (ok .house 0x2F [2] (st .act) ∧ 2 ≤ (2 : Byte).toNat) ∧
    ok .prompt 0x2D [] (st .act) ∧ ok .house 0x2D [] (st .act) ∧ (st .act).calls.finished = [] ∧
    ok .house 0x2E [11, 1, 0] (st .act) ∧ ok .house 0x2E [0, 0, 1] (fireIs .evacuate (st .act)) ∧
    (ok .house 0x2F [1] (channelIs .b .faulted none (st .act)) ∧
      ((channelIs .b .faulted none (st .act)).calls.chan .b).state = .faulted ∧
      (channelIs .b .faulted none (st .act)).pins.playing .b = false ∧ NothingWaits (st .act).calls) ∧
    ({ (st .act).pins with playingA := true } : Pins).playing .a = true ∧ ok .house 0x2F [0] (st .act) := by
  decide +kernel

/-- A built-in call on a channel, with a gap configured. -/
def onAir (b : BuiltIn) (ch : Channel) (x : ChannelState) (gap : Nat) : State :=
  let i := builtInCall b
  let s := channelIs ch x (some i) (runs b (.onChannel ch) (st .stopped))
  { s with calls := { s.calls with table := s.calls.table.set i { s.calls.table[i] with life := .playing, gap := gap } } }

theorem witness_PlayingLineMovesItsChannel :
    (((channelIs .a .starting (some 2) (st .act)).calls.chan .a).call = some 2 ∧
      ((channelIs .a .starting (some 2) (st .act)).calls.chan .a).state = .starting) ∧
    ((st .act).calls.chan .b).state = .idle ∧
    ((channelIs .b .stopping none (st .act)).calls.chan .b).state = .stopping ∧
    (((channelIs .a .playing (some 2) (callIs 2 (liveCall .playing) (st .act))).calls.chan .a).state = .playing ∧
      NothingWaits (st .act).calls ∧ (liveCall .playing).repeatCount ≠ 255 ∧
      (liveCall .playing).repeatCount ≤ min 255 ((liveCall .playing).plays + 1)) ∧
    (min 255 (({ liveCall .playing with repeatCount := 2, gap := 1 } : Descriptor).plays + 1) < 2 ∧
      (st .act).clock + 1 ≤ 4294967295) ∧
    ((carried .a .playing 2 (st .act)).calls.audible (liveCall .playing).zones ∧
      ({ liveCall .playing with repeatCount := 255 } : Descriptor).gap = 0 ∧
      (carried .a .playing 2 (st .act)).calls.arbiterFire = .quiet ∧
      ∀ u : Fin 12, (carried .a .playing 2 (st .act)).calls.paging[u].held = false) ∧
    ((onAir .evacuation .a .playing 0).calls.lawful ∧ ((onAir .evacuation .a .playing 0).calls.chan .a).call = some 0 ∧
      ((onAir .evacuation .a .playing 0).calls.chan .a).state = .playing ∧
      (onAir .evacuation .a .playing 0).calls.table[(0 : CallId)].gap = 0 ∧
      (onAir .evacuation .a .playing 0).calls.builtInZones .evacuation ≠ 0) ∧
    ((onAir .staffAlert .b .playing 5).calls.lawful ∧ 0 < (onAir .staffAlert .b .playing 5).calls.table[(1 : CallId)].gap ∧
      ((onAir .staffAlert .b .playing 5).calls.chan .b).call = some 1) := by decide +kernel

theorem witness_ChannelTimersAndBuiltInGaps :
    (((channelIs .a .starting (some 2) (st .act)).calls.chan .a).startTimer = some 0 ∧
      ((channelIs .b .playing (some 2) (callIs 2 (liveCall .playing) (st .act))).calls.chan .b).guardTimer = some 0 ∧
      (st .act).calls.finished = [] ∧
      ((channelIs .a .stopping none (st .act)).calls.chan .a).stopTimer = some 0) ∧
    ((carried .a .starting 2 (channelIs .b .faulted none (st .act))).calls.lawful ∧
      ((carried .a .starting 2 (channelIs .b .faulted none (st .act))).calls.chan (otherChannel .a)).state ≠ .idle ∧
      (liveCall .playing).lifetime = 0 ∧
      (carried .a .starting 2 (channelIs .b .faulted none (st .act))).calls.audible (liveCall .playing).zones) ∧
    (onAir .evacuation .a .starting 0).calls.lawful ∧ (onAir .staffAlert .b .starting 0).calls.lawful ∧
    ((channelIs .b .faulted none (runs .evacuation .waiting (st .stopped))).calls.evacuation = .waiting ∧
      ((channelIs .b .faulted none (st .stopped)).calls.chan (otherChannel .a)).state = .faulted ∧
      ∃ z : Fin 12, (st .stopped).calls.paging[z].evac = true) ∧
    ((runs .evacuation (.inGap .a 0) (st .stopped)).calls.lawful ∧
      (runs .evacuation (.inGap .a 0) (st .stopped)).calls.evacuation = .inGap .a 0 ∧
      ((runs .evacuation (.inGap .a 0) (st .stopped)).calls.chan .a).state = .idle ∧
      (runs .evacuation (.inGap .a 0) (st .stopped)).calls.builtInZones .evacuation ≠ 0) ∧
    ((runs .staffAlert (.inGap .b 0) (st .act)).calls.lawful ∧
      (runs .staffAlert (.inGap .b 0) (st .act)).calls.staffAlert = .inGap .b 0 ∧
      (runs .staffAlert (.inGap .b 0) (st .act)).calls.builtInZones .staffAlert = 0) ∧
    ((channelIs .a .faulted none (runs .evacuation (.inGap .a 0) (st .stopped))).calls.lawful ∧
      ((channelIs .a .faulted none (runs .evacuation (.inGap .a 0) (st .stopped))).calls.chan .a).state ≠ .idle ∧
      ((channelIs .a .faulted none (runs .evacuation (.inGap .a 0) (st .stopped))).calls.chan .b).state = .idle) ∧
    (channelIs .a .stopping none (runs .evacuation (.inGap .a 0) (st .stopped))).calls.lawful := by decide +kernel

/-! ## Witnesses: configuration -/

theorem witness_ConfigureChecksComeFirst :
    (requestPort (.configureOption .house 1) = some .house ∧ (requestFrame (.configureOption .house 1)).kind = 1 ∧
      shapeOk (.configureOption .house 1) = true ∧
      takeable .house (requestFrame (.configureOption .house 1)) (st .act) = true) ∧
    (shapeOk (.configureZone .house 32 0 0 0 0) = true ∧
      takeable .house (requestFrame (.configureZone .house 32 0 0 0 0)) (st .dark) = true) ∧
    takeable .house (requestFrame (.configureCircuit .house 48 0 0 0 0)) (st .dark) = true ∧
    takeable .house (requestFrame (.configureSlot .house 3 16)) (st .dark) = true ∧
    takeable .house (requestFrame (.configurePreset .house 9 (Vector.replicate 48 0) 0 0)) (st .dark) = true ∧
    takeable .house (requestFrame (.configurePagingZone .house 12 0 0)) (st .dark) = true ∧
    takeable .house (requestFrame (.configureBuiltInCall .house 3 1 1 1)) (st .dark) = true ∧
    takeable .house (requestFrame (.configureTiming .house 1 1 1 1 4 0 1 1 1 1)) (st .dark) = true ∧
    takeable .house (requestFrame (.configureLine .house 13 0 1)) (st .dark) = true := by decide +kernel

theorem witness_ConfigureZoneWrites :
    (ok .house 0x01 [0, 31, 2, 3, 1, 1] (st .dark) ∧ (31 : ZoneId) ∉ (st .dark).fire.alarmList) ∧
    (ok .house 0x01 [0, 0, 1, 0, 0, 0] (listed [0] (fireIs .alert (st .dark))) ∧
      (0 : ZoneId) ∈ (listed [0] (fireIs .alert (st .dark))).fire.alarmList ∧
      ZoneClass.callPoint ≠ (listed [0] (fireIs .alert (st .dark))).fire.zones[(0 : ZoneId)].cls) ∧
    ok .house 0x01 [0, 0, 0, 0, 1, 0] (listed [0] (fireIs .alert (st .dark))) := by decide +kernel

theorem witness_ParameterRecordsAreClamped :
    takeable .house (requestFrame (.configureCurtain .house 2000 100 2000 10 0 0 1 50 0 5 50)) (st .dark) = true ∧
    takeable .house (requestFrame (.configureTiming .house 99 601 61 255 3 3 4 5 100 101)) (st .dark) = true ∧
    ok .house 0x01 [9, 0] fresh ∧ ok .house 0x01 [9, 1] (st .dark) ∧
    takeable .house (requestFrame (.configureBuiltInCall .house 1 255 601 3001)) (st .dark) = true ∧
    takeable .house (requestFrame (.configureBuiltInCall .house 2 1 0 0)) (st .dark) = true := by decide +kernel

theorem witness_LightingRecordsAreWritten :
    ok .house 0x01 [2, 47, 3, 1, 1, 255] (st .dark) ∧ ok .house 0x01 [3, 3, 15] fresh ∧
    takeable .house (requestFrame (.configurePreset .house 8 (Vector.replicate 48 255) 3 1)) (st .dark) = true := by
  decide +kernel

theorem witness_PagingAndLineRecordsAreWritten :
    (ok .house 0x01 [5, 11, 1, 1] (st .dark) ∧ NothingWaits (st .dark).calls) ∧
    ok .house 0x01 [8, 12, 1, 51] (st .dark) ∧ ok .house 0x01 [8, 0, 0, 0] fresh := by decide +kernel

/-! ## Witnesses: supply, lines and time -/

theorem witness_SupplyAndReset :
    State.reset.pins.playing .a = false ∧ ({ State.reset.pins with playingB := true } : Pins).playing .b = true ∧
    (match exec .resetAsserted State.reset with
      | .next t => t.inert
      | _ => false) = true := by decide +kernel

theorem witness_DecisecondRunsEveryTimer : State.reset.inert = false := by decide +kernel

/-- The start-up settle has run out. -/
def settling : State := { State.reset with startUp := some 0 }

theorem witness_StartUpSettleTakesTheBaselines :
    settling.inert = false ∧ settling.startUp = some 0 ∧ settling.raw bottomLine ≠ .active ∧
    ({ settling with pins := { settling.pins with
      lines := settling.pins.lines.set 11 ⟨true, true⟩ } } : State).raw bottomLine = .active ∧
    settling.curtain.state = .descending := by decide +kernel

theorem witness_LineChangesSettleAndReachTheirBlocks :
    ((st .act).inert = false ∧ (lineIs 12 (some .quiet) (some (.active, 0)) (curtainIs .raising (st .act))).lines[
      (12 : Line)].candidate = some (.active, 0)) ∧
    ((lineIs 8 (some .quiet) (some (.faulty, 0)) (st .act)).lines[(8 : Line)].settled = some .quiet ∧
      (lineIs 8 (some .quiet) (some (.faulty, 0)) (st .act)).lines[(8 : Line)].candidate = some (.faulty, 0)) ∧
    (lineIs 9 (some .quiet) (some (.active, 0)) (st .act)).lines[(9 : Line)].candidate = some (.active, 0) ∧
    (lineIs 10 (some .quiet) (some (.active, 0)) (st .act)).lines[(10 : Line)].candidate = some (.active, 0) ∧
    (lineIs 11 (some .quiet) (some (.active, 0)) (st .act)).lines[(11 : Line)].candidate = some (.active, 0) ∧
    (st .act).curtain.state.falling = true ∧ (st .act).lines[(0 : Line)].candidate = none ∧
    (lineIs 0 (some .quiet) (some (.active, 1)) (st .act)).lines[(0 : Line)].candidate = some (.active, 0 + 1) ∧
    ((lineIs 11 (some .quiet) (some (.active, 0)) (curtainIs .landed (st .act))).lines[(11 : Line)].candidate =
        some (.active, 0) ∧ (curtainIs .landed (st .act)).curtain.state = .landed) ∧
    (curtainIs .stowed (st .act)).curtain.state ≠ .raising := by
  decide +kernel

/-! ## Witnesses: what every step keeps -/

theorem witness_EveryStepKeepsTheQueues :
    (((st .preset).linksLawful ∧ (st .preset).calls.queuesBounded) ∧ ∃ t, step (st .preset) = .next t) ∧
    (onAir .evacuation .a .playing 0).callsLawful ∧ (∃ t, step (onAir .evacuation .a .playing 0) = .next t) ∧
    twoDue.callsLawful := by
  refine ⟨⟨⟨fun p => ?_, by unfold Calls.queuesBounded; decide +kernel⟩, _, rfl⟩, ?_, ⟨_, rfl⟩, ?_⟩
  · cases p <;> unfold PortRecord.lawful <;> decide +kernel
  · unfold State.callsLawful; decide +kernel
  · unfold State.callsLawful; decide +kernel

/-- An alarm in zone 0, the curtain coming down for it in an ALERT. -/
def alerted : State :=
  let s := listed [0] (fireIs .alert (classIs 0 .detector (zoneIs 0 .alarm .active (st .act))))
  { s with
    fire := { s.fire with
      demand := true
      zones := s.fire.zones.set 0 { s.fire.zones[0] with curtainRelease := true } }
    curtain := { s.curtain with
      state := .descending, fireDemand := true, causes := { CauseSet.empty with fire := true } } }

theorem witness_EveryStepKeepsTheCurtainLaw :
    (alerted.curtainLawful ∧ alerted.handedOn) ∧ ∃ t, step alerted = .next t := by
  refine ⟨?_, _, rfl⟩
  unfold State.curtainLawful State.handedOn
  decide +kernel

theorem witness_EveryStepKeepsTheLadderLaw :
    (alerted.fireLawful ∧ alerted.houseLawful ∧ alerted.startUpLawful) ∧ ∃ t, step alerted = .next t := by
  refine ⟨⟨⟨?_, ?_, ?_⟩, ?_, ?_⟩, _, rfl⟩
  · unfold Fire.listLawful; decide +kernel
  · unfold State.delayLawful; decide +kernel
  · unfold Fire.ladderLawful; decide +kernel
  · unfold State.houseLawful; decide +kernel
  · unfold State.startUpLawful; decide +kernel

theorem witness_EveryStepKeepsTheLights :
    ((consoleHolds (st .act)).lights.authorityLawful ∧ (consoleHolds (st .act)).lights.authority = .console) ∧
    (fading 29).levelsLawful ∧ ∃ t, step (fading 29) = .next t := by
  refine ⟨by unfold Lights.authorityLawful; decide +kernel, ?_, _, rfl⟩
  unfold State.levelsLawful Circuit.lawful Fade.lawful
  decide +kernel

/-! ## The evening of chapter 12, event by event -/

/-- What a field of the next state holds. -/
def after {α : Type} (x : Host.Outcome State Fault Refusal) (f : State → α) : Option α :=
  match x with
  | .next t => some (f t)
  | _ => none

/-- "The Demonstration": the descent record from 8,000 mm, and L at samples 100 and 230. -/
theorem test_descent_record :
    (makeDescent (st .act).curtainEnv 8000).fastLeg = 200 ∧ (makeDescent (st .act).curtainEnv 8000).s0 = 2000 ∧
    (makeDescent (st .act).curtainEnv 8000).slowLeg = 100 ∧
    (makeDescent (st .act).curtainEnv 8000).allowedAt 100 = 5000 ∧
    (makeDescent (st .act).curtainEnv 8000).allowedAt 230 = 1400 := by decide +kernel

/-- R63: with 1,250 counts per metre a count of 11,251 is 9,000 mm. -/
theorem test_position : positionOf 11251 0 1250 = 9000 := by decide +kernel

/-- "Delayed Curtain Up": DELAY UP of 300 s moves PLANNED_UP from 56,100 to 59,100. -/
theorem test_delay_up :
    after (exec (.delayUp .prompt 300) { st .houseOpen with
      clock := 50000, house := { (st .houseOpen).house with anchors := { Anchors.none with plannedUp := some 56100 } } })
      (·.house.anchors.plannedUp) = some (some 59100) := by decide +kernel

/-- R6: the STOWED of a demonstration sets curtain shown and clears the mark. -/
theorem test_curtain_shown :
    after (exec (.settleExpiry 12) (lineIs 12 (some .quiet) (some (.active, 0)) { curtainIs .raising (st .houseOpen) with
      house := { (st .houseOpen).house with demoMark := true } }))
      (fun t => (t.curtain.state, t.house.demoMark, t.house.curtainShown)) = some (.stowed, false, true) := by
  decide +kernel

/-- R180, Table 5-1: the CURTAIN record as stored takes one byte for each field whose range ends at 255 or below. -/
theorem test_config_widths :
    configFields 1 [8000, 1000, 2000, 200, 100, 150, 3, 300, 20, 30, 100] =
      [0x1F, 0x40, 0x03, 0xE8, 0x07, 0xD0, 200, 100, 0, 150, 3, 0x01, 0x2C, 20, 30, 0, 100] := by decide +kernel

/-- "The Interval": END ACT at 93,200 ends the interval at 105,200. -/
theorem test_end_act :
    after (exec (.endAct .prompt 0) { st .act with clock := 93200 })
      (fun t => (t.house.phase, t.house.anchors.intervalEnd, t.house.countdown)) =
        some (.interval, some 105200, 12000) := by decide +kernel

/-- "The Interval": EXTEND INTERVAL of 5 minutes takes a countdown of 5,200 to 8,200. -/
theorem test_extend_interval :
    after (exec (.extendInterval .prompt 5) { st .interval with
      house := { (st .interval).house with countdown := 5200 } }) (·.house.countdown) = some 8200 := by decide +kernel

/-- "The Alert": zone 15 in ALARM makes ALERT without a demand, and zone 17 then makes EVACUATE for a further alarm. -/
def firstAlarm : State :=
  (after (exec (.zoneReport .panel [(15, 1)]) (curtainIs .stowed (st .interval))) id).getD State.reset

theorem test_alert :
    (firstAlarm.fire.condition, firstAlarm.fire.investigation, firstAlarm.fire.demand, firstAlarm.curtain.state) =
      (.alert, some 1800, false, .stowed) := by decide +kernel

theorem test_evacuation :
    after (exec (.zoneReport .panel [(17, 1)]) firstAlarm)
      (fun t => (t.fire.condition, t.fire.cause, t.fire.alarmList, t.house.phase, t.curtain.state)) =
      some (.evacuate, some .furtherAlarm, [15, 17], .stopped, .descending) := by decide +kernel

end Sys2Proof.Tests
end

section
/-! SUPPORT. What a notice raised in an event makes of a port (R176), composed over the operations of one event, and the
request as a whole: its block, its reply and the notices behind the reply (R172, R173). -/
namespace Sys2Proof.Machine

/-! ## A notice that reaches a port -/

/-- A notice has joined the transmit queue of a port, or it was dropped there: the port is LOST or marked (R176). -/
def PortRecord.hears (n : Notice) (r r' : PortRecord) : Prop :=
  r.present = true → r'.overrun = none → TxFrame.notice n ∈ r'.tx.drop r.tx.length

theorem reaches_iff_hears (p : Port) (n : Notice) (s t : State) :
    Reaches p n s t ↔ (s.links.get p).hears n (t.links.get p) := Iff.rfl

/-- What joined a queue is behind what stood there: of two stretches of an event, both lie in the whole. -/
theorem PortRecord.mem_drop_of_onlyNotices {a b c : PortRecord} (h : a.onlyNotices b) (k : b.onlyNotices c)
    (f : TxFrame) : (f ∈ b.tx.drop a.tx.length ∨ f ∈ c.tx.drop b.tx.length) → f ∈ c.tx.drop a.tx.length := by
  obtain ⟨-, -, -, -, -, -, ⟨ns, hns, -⟩, -⟩ := (PortRecord.onlyNotices_iff _ _).mp h
  obtain ⟨-, -, -, -, -, -, ⟨ms, hms, -⟩, -⟩ := (PortRecord.onlyNotices_iff _ _).mp k
  rw [hms, hns]
  simp only [List.length_append, List.append_assoc, List.drop_left, List.mem_append]
  rw [← List.length_append, ← List.append_assoc, List.drop_left]
  exact id

theorem PortRecord.overrun_none_of_onlyNotices {a b : PortRecord} (h : a.onlyNotices b) (hb : b.overrun = none) :
    a.overrun = none := by
  obtain ⟨-, -, -, -, -, -, -, ho⟩ := (PortRecord.onlyNotices_iff _ _).mp h
  cases ha : a.overrun with
  | none => rfl
  | some x => exact absurd (ho (by simp [ha])) (by simp [ha, hb])

theorem PortRecord.hears_then {a b c : PortRecord} {n : Notice} (h : a.onlyNotices b) (hn : a.hears n b)
    (k : b.onlyNotices c) : a.hears n c := fun hp ho =>
  mem_drop_of_onlyNotices h k _ (.inl (hn hp (overrun_none_of_onlyNotices k ho)))

theorem PortRecord.hears_after {a b c : PortRecord} {n : Notice} (h : a.onlyNotices b) (k : b.onlyNotices c)
    (hn : b.hears n c) : a.hears n c := fun hp ho =>
  mem_drop_of_onlyNotices h k _ (.inr (hn (h.1.trans hp) ho))

theorem PortRecord.queueNotice_hears (now : Nat) (n : Notice) (r : PortRecord) : r.hears n (r.queueNotice now n) := by
  intro hp ho
  rcases r.queueNotice_cases now n with ⟨hl, -⟩ | ⟨-, -, h⟩ | ⟨-, -, h⟩
  · simp [hl] at hp
  · simp [h]
  · simp [h] at ho

theorem Links.raise_hears (now : Nat) (m : Mail) (l : Links) {p : Port} (hp : p ∈ m.ports) :
    (l.get p).hears m.notice ((l.raise now m).get p) := by
  unfold Links.raise
  generalize m.ports = ps at hp
  have rest (ps : List Port) (l : Links) :
      (l.get p).onlyNotices ((ps.foldl (fun l q => l.set q ((l.get q).queueNotice now m.notice)) l).get p) :=
    Links.raise_onlyNotices now ⟨ps, m.notice⟩ l p
  have first (q : Port) (l : Links) :
      (l.get p).onlyNotices ((l.set q ((l.get q).queueNotice now m.notice)).get p) := rest [q] l
  induction ps generalizing l with
  | nil => simp at hp
  | cons q ps ih =>
    by_cases h : p = q
    · subst h
      refine PortRecord.hears_then (first p l) ?_ (rest ps _)
      rw [Links.get_set_self]
      exact PortRecord.queueNotice_hears now _ _
    · exact PortRecord.hears_after (first q l) (rest ps _) (ih _ (by simpa [h] using hp))

theorem Links.post_hears (now : Nat) {ms : List Mail} {m : Mail} (l : Links) {p : Port} (hm : m ∈ ms)
    (hp : p ∈ m.ports) : (l.get p).hears m.notice ((l.post now ms).get p) := by
  unfold Links.post
  induction ms generalizing l with
  | nil => simp at hm
  | cons m' ms ih =>
    rcases List.mem_cons.mp hm with rfl | hm
    · exact PortRecord.hears_then (l.raise_onlyNotices now m p) (l.raise_hears now m hp)
        (Links.post_onlyNotices now ms _ p)
    · exact PortRecord.hears_after (l.raise_onlyNotices now m' p) (Links.post_onlyNotices now ms _ p) (ih _ hm)

/-- A notice among those raised reaches the ports to which it is routed (R175, R176). -/
theorem Reaches.of_post {s t : State} {ms : List Mail} {m : Mail} {p : Port} (hl : t.links = s.links.post s.clock ms)
    (hm : m ∈ ms) (hp : p ∈ m.ports) : Reaches p m.notice s t := by
  rw [reaches_iff_hears, hl]
  exact Links.post_hears _ _ hm hp

theorem reaches_post_one {p : Port} (s : State) (ps : List Port) (n : Notice) (hp : p ∈ ps) :
    Reaches p n s (s.post [⟨ps, n⟩]) :=
  Reaches.of_post (m := ⟨ps, n⟩) rfl (List.mem_singleton_self _) hp

/-- What was told by then has been told, whatever notices follow. -/
theorem Reaches.then {p : Port} {n : Notice} {s t u : State} (h : Reaches p n s t) (hs : KeepsLinks s t)
    (ht : KeepsLinks t u) : Reaches p n s u :=
  PortRecord.hears_then (hs p) h (ht p)

theorem Reaches.after {p : Port} {n : Notice} {s t u : State} (h : Reaches p n t u) (hs : KeepsLinks s t)
    (ht : KeepsLinks t u) : Reaches p n s u :=
  PortRecord.hears_after (hs p) (ht p) h

/-- A record that says nothing of the links does not count for what has been told. -/
theorem Reaches.congr {p : Port} {n : Notice} {s s' t t' : State} (h : Reaches p n s t) (hs : s'.links = s.links)
    (ht : t'.links = t.links) : Reaches p n s' t' := by
  rw [reaches_iff_hears] at *; rw [hs, ht]; exact h

/-- An empty list of notices changes no port. -/
@[simp] theorem Links.post_nil (now : Nat) (l : Links) : l.post now [] = l := rfl

/-! ## A request that its block answers -/

theorem finishRequest_tx (p : Port) (kind : Byte) (a : Answer) {s u : State} (h : KeepsLinks s u) (q : Port) :
    ∃ ns : List TxFrame, (u.links.get q).tx = (s.links.get q).tx ++ ns ∧
      ((finishRequest p kind (s.links.get p).tx.length (u, a)).links.get q).tx = (s.links.get q).tx ++
        if q = p then .reply (replyKind kind) a :: ns else ns := by
  obtain ⟨-, -, -, -, -, -, ⟨ns, hns, -⟩, -⟩ := (PortRecord.onlyNotices_iff _ _).mp (h q)
  refine ⟨ns, hns, ?_⟩
  simp only [finishRequest, State.setPort_links, Links.get_set]
  split
  · next e => subst e; simp [PortRecord.insertReply, hns]
  · exact hns

theorem finishRequest_overrun (p : Port) (kind : Byte) (n : Nat) (r : State × Answer) (q : Port) :
    ((finishRequest p kind n r).links.get q).overrun = (r.1.links.get q).overrun := by
  simp only [finishRequest, State.setPort_links, Links.get_set]
  split
  · next e => subst e; rfl
  · rfl

/-- The reply stands before the notices of its request and hides none of them (R176). -/
theorem Reaches.finishRequest {p q : Port} {kind : Byte} {a : Answer} {n : Notice} {s u : State} (hl : KeepsLinks s u)
    (h : Reaches q n s u) : Reaches q n s (finishRequest p kind (s.links.get p).tx.length (u, a)) := by
  obtain ⟨ns, hns, ht⟩ := finishRequest_tx p kind a hl q
  intro hp ho
  rw [finishRequest_overrun] at ho
  have hm := h hp ho
  simp only [Told, hns, ht, List.drop_left] at hm ⊢
  split
  · exact .tail _ hm
  · exact hm

/-- A taken request whose block leaves the state `u`: the part answers with the reply, and every block stands as in
`u`. -/
theorem takeRequest_answers {p : Port} {i : Instr} {block : State → State × Answer} {s u : State} {a : Answer}
    (ht : takeable p (requestFrame i) s = true) (hk : kindKnown (requestFrame i).kind = true)
    (hp : permitted p (requestFrame i).kind = true) (hs : shapeOk i = true) (hb : block s = (u, a))
    (hl : KeepsLinks s u) :
    ∃ t, takeRequest p i block s = .next t ∧ AnsweredWith p (requestFrame i).kind a s t ∧
      t = { u with links := t.links } ∧ ∀ q n, Reaches q n s u → Reaches q n s t := by
  refine ⟨_, takeRequest_block ht hk hp hs, ?_, ?_, fun q n h => ?_⟩
  · rw [hb]; exact finishRequest_answered p _ a hl
  · rw [hb]; rfl
  · rw [hb]; exact h.finishRequest hl

end Sys2Proof.Machine
end

section
/-! SUPPORT. What a change of the house condition record does as a whole (R3, R4, R5, R22): the record as written, the
phase as handed on, the notices raised, and the promotion that show mode turning off makes. -/
namespace Sys2Proof.Machine

/-! ## Show mode turning off with nothing DELAYED (R33) -/

theorem delayedWith_eq_nil {f : Fire} (h : ∀ z : ZoneId, f.zones[z].state ≠ .delayed) (r : Reading) :
    f.delayedWith r = [] := by
  simp only [Fire.delayedWith, List.filter_eq_nil_iff]
  intro z _
  simpa using fun hz => absurd hz (h z)

theorem promoteAll_eq_self {f : Fire} (h : ∀ z : ZoneId, f.zones[z].state ≠ .delayed) (e : FireEnv) :
    promoteAll e ⟨f, []⟩ = (⟨f, []⟩, []) := by
  simp [promoteAll, promoteZones, promotionMails, delayedWith_eq_nil h]

theorem showModeOff_of_noneDelayed {s : State} (h : NoneDelayed s) : showModeOff s = s := by
  simp [showModeOff, zoneEvent, State.onZones, promoteAll_eq_self h]

/-! ## The stages of a change -/

/-- A change of the record up to the hand-off of show mode: the anchor events, CLEARANCE and the phase (log 9). -/
def handRecord (old : House) (cause : ClearanceCause) (s : State) : State :=
  handPhase old (noteClearance old cause (handAnchors (anchorEvents old.anchors s.house.anchors) s))

theorem completeChange_eq (old : House) (cause : ClearanceCause) (handOff : State → State) (s : State) :
    completeChange old cause handOff s = handShowMode old handOff (handRecord old cause s) := rfl

@[simp] theorem anchorEvents_self (a : Anchors) : anchorEvents a a = [] := by
  have h (x : Option Nat) : anchorEvent x x = none := by cases x <;> simp [anchorEvent]
  simp [anchorEvents, h]

@[simp] theorem handAnchors_nil (s : State) : handAnchors [] s = s := rfl

theorem handRecord_others (old : House) (cause : ClearanceCause) (s : State) :
    (handRecord old cause s).house = s.house ∧ (handRecord old cause s).fire = s.fire ∧
      (handRecord old cause s).curtain = s.curtain := by
  obtain ⟨h1, h2, h3⟩ := handPhase_others old
    (noteClearance old cause (handAnchors (anchorEvents old.anchors s.house.anchors) s))
  obtain ⟨k1, k2, k3, -⟩ := handAnchors_others (anchorEvents old.anchors s.house.anchors) s
  rw [noteClearance_others] at h1 h2 h3
  unfold handRecord
  rw [noteClearance_others]
  exact ⟨h1.trans k1, h2.trans k2, h3.trans k3⟩

theorem quietly_handRecord (old : House) (cause : ClearanceCause) (s : State) :
    Quietly s (handRecord old cause s) :=
  ((quietly_handAnchors _ s).trans (quietly_noteClearance _ _ _)).trans (quietly_handPhase _ _)

@[simp] theorem noteClearance_house (old : House) (cause : ClearanceCause) (s : State) :
    (noteClearance old cause s).house = s.house := by unfold noteClearance; split <;> rfl

@[simp] theorem noteClearance_lights (old : House) (cause : ClearanceCause) (s : State) :
    (noteClearance old cause s).lights = s.lights := by unfold noteClearance; split <;> rfl

@[simp] theorem noteClearance_calls (old : House) (cause : ClearanceCause) (s : State) :
    (noteClearance old cause s).calls = s.calls := by unfold noteClearance; split <;> rfl

/-- A phase and a stop record that stay are not handed on. -/
theorem handPhase_same {old : House} {s : State} (hp : old.phase = s.house.phase) (hs : old.stop = s.house.stop) :
    handPhase old s = s := by simp [handPhase, hp, hs]

/-- With phase and stop record as they were, the blocks that hear of the phase stand; the anchor events reach the
calls. -/
theorem handRecord_samePhase {old : House} {cause : ClearanceCause} {s : State} (hp : old.phase = s.house.phase)
    (hs : old.stop = s.house.stop) :
    (handRecord old cause s).lights = s.lights ∧
      (handRecord old cause s).calls = (handAnchors (anchorEvents old.anchors s.house.anchors) s).calls := by
  obtain ⟨k1, -, -, k4⟩ := handAnchors_others (anchorEvents old.anchors s.house.anchors) s
  unfold handRecord
  rw [handPhase_same (by simp [k1, hp]) (by simp [k1, hs])]
  simp [k4]

/-- A phase or a stop record that changes is handed on (R4): the lights take it up and the calls record it. -/
theorem handRecord_newPhase {old : House} {cause : ClearanceCause} {s : State}
    (h : ¬ (old.phase = s.house.phase ∧ old.stop = s.house.stop)) :
    (handRecord old cause s).lights =
        (lightsPhaseHandoff s.house.phase s.house.stop s.lightEnv ⟨s.lights, []⟩).val ∧
      (handRecord old cause s).calls =
        { (handAnchors (anchorEvents old.anchors s.house.anchors) s).calls with phaseSeen := s.house.phase } := by
  obtain ⟨k1, -, -, k4⟩ := handAnchors_others (anchorEvents old.anchors s.house.anchors) s
  obtain ⟨⟨⟨kc, -, -, -, kp, -, -⟩, -⟩, -⟩ :=
    (quietly_handAnchors (anchorEvents old.anchors s.house.anchors) s).trans (quietly_noteClearance old cause _)
  simp only [handRecord, handPhase, noteClearance_house, k1, h, if_false, State.post_lights, State.post_calls,
    recordPhase_lights, recordPhase_calls, State.onLights_lights, State.onLights_calls, State.onLights_house,
    noteClearance_lights, noteClearance_calls, k4, State.lightEnv, kc, kp, and_self]

/-- A phase or a stop record that changes is told to the desks (R4). -/
theorem handRecord_tellsPhase {old : House} {cause : ClearanceCause} {s : State}
    (h : ¬ (old.phase = s.house.phase ∧ old.stop = s.house.stop)) {q : Port} (hq : q ≠ .panel) :
    Reaches q (.phase s.house.phase s.house.actNumber (s.house.actClock s.clock) s.house.stop) s
      (handRecord old cause s) := by
  obtain ⟨k1, -⟩ := handAnchors_others (anchorEvents old.anchors s.house.anchors) s
  have ha := (quietly_handAnchors (anchorEvents old.anchors s.house.anchors) s).trans
    (quietly_noteClearance old cause _)
  unfold handRecord
  generalize hu : noteClearance old cause (handAnchors (anchorEvents old.anchors s.house.anchors) s) = u at ha ⊢
  have hh : u.house = s.house := by rw [← hu]; simp [k1]
  have hc : u.clock = s.clock := ha.1.1.1
  have hv : handPhase old u =
      (recordPhase (u.onLights (lightsPhaseHandoff u.house.phase u.house.stop))).post
        [phaseMail (recordPhase (u.onLights (lightsPhaseHandoff u.house.phase u.house.stop)))] := by
    simp [handPhase, hh, h]
  have hl := (quietly_onLights (lightsPhaseHandoff u.house.phase u.house.stop) u).trans (quietly_recordPhase _)
  generalize hw : recordPhase (u.onLights (lightsPhaseHandoff u.house.phase u.house.stop)) = v at hv hl
  have hvh : v.house = s.house ∧ v.clock = s.clock := by rw [← hw]; exact ⟨hh, hc⟩
  rw [hv, ← hvh.1, ← hvh.2]
  exact Reaches.after (reaches_post_one v (phaseMail v).ports (phaseMail v).notice (by cases q <;> simp [phaseMail] at hq ⊢))
    (ha.trans hl).2 (keepsLinks_post _ _)

/-- A change of clearance is told to the two desks (R5). -/
theorem handRecord_tellsClearance {old : House} {cause : ClearanceCause} {s : State}
    (h : old.clearance ≠ s.house.clearance) {q : Port} (hq : q = .prompt ∨ q = .house) :
    Reaches q (.clearance s.house.clearance cause) s (handRecord old cause s) := by
  obtain ⟨k1, -⟩ := handAnchors_others (anchorEvents old.anchors s.house.anchors) s
  have ha := quietly_handAnchors (anchorEvents old.anchors s.house.anchors) s
  unfold handRecord
  generalize handAnchors (anchorEvents old.anchors s.house.anchors) s = u at k1 ha ⊢
  refine Reaches.then (Reaches.after ?_ ha.2 (quietly_noteClearance old cause u).2)
    (ha.trans (quietly_noteClearance old cause u)).2 (quietly_handPhase _ _).2
  rw [← k1] at h ⊢
  unfold noteClearance
  rw [if_neg h]
  exact reaches_post_one u _ _ (by simpa using hq)

/-! ## A change that no zone has a part in -/

/-- Show mode turning off finds no zone DELAYED, or does not turn off: the hand-off to the Fire Monitor does nothing. -/
theorem handShowMode_calm {old : House} {handOff : State → State} {s : State}
    (h : (∀ ms, handOff (s.post ms) = s.post ms) ∨ old.showMode = s.house.showMode ∨ s.house.showMode = true) :
    handShowMode old handOff s = { s with links := (handShowMode old handOff s).links } := by
  rcases h with h | h
  · unfold handShowMode
    dsimp only
    split
    · rfl
    · split
      · rfl
      · rw [h]; rfl
  · exact handShowMode_others old handOff s h

theorem quietly_handShowMode_calm {old : House} {handOff : State → State} {s : State}
    (h : (∀ ms, handOff (s.post ms) = s.post ms) ∨ old.showMode = s.house.showMode ∨ s.house.showMode = true) :
    Quietly s (handShowMode old handOff s) := by
  refine ⟨?_, ?_⟩
  · rw [handShowMode_calm h]; exact .refl s
  · unfold handShowMode
    dsimp only
    split
    · exact .refl s
    · next hne =>
      split
      · exact keepsLinks_post _ s
      · next hf =>
        rcases h with h | h | h
        · rw [h]; exact keepsLinks_post _ s
        · exact absurd h hne
        · exact absurd h hf

/-- The conditions under which a change of the record from `old` reaches no zone (R22, R33). -/
def ReachesNoZone (old : House) (s : State) : Prop :=
  NoneDelayed s ∨ old.showMode = s.house.showMode ∨ s.house.showMode = true

theorem ReachesNoZone.handOff {old : House} {cause : ClearanceCause} {s : State} (h : ReachesNoZone old s) :
    (∀ ms, showModeOff ((handRecord old cause s).post ms) = (handRecord old cause s).post ms) ∨
      old.showMode = (handRecord old cause s).house.showMode ∨ (handRecord old cause s).house.showMode = true := by
  obtain ⟨h1, h2, -⟩ := handRecord_others old cause s
  rw [h1]
  refine h.imp_left fun hn ms => showModeOff_of_noneDelayed fun z => ?_
  rw [State.post_fire, h2]
  exact hn z

/-- A completed change that reaches no zone is the record handed on, and notices. -/
theorem completeChange_calm {old : House} {cause : ClearanceCause} {s : State} (h : ReachesNoZone old s) :
    completeChange old cause showModeOff s =
      { handRecord old cause s with links := (completeChange old cause showModeOff s).links } :=
  handShowMode_calm h.handOff

theorem handRecord_to_completeChange {old : House} {cause : ClearanceCause} {s : State} (h : ReachesNoZone old s) :
    KeepsLinks (handRecord old cause s) (completeChange old cause showModeOff s) :=
  (quietly_handShowMode_calm h.handOff).2

/-- Show mode as changed is told to the two desks (R22). -/
theorem completeChange_tellsShowMode {old : House} {cause : ClearanceCause} {s : State} (h : ReachesNoZone old s)
    (hm : old.showMode ≠ s.house.showMode) {q : Port} (hq : q = .prompt ∨ q = .house) :
    Reaches q (.showMode s.house.showMode) s (completeChange old cause showModeOff s) := by
  obtain ⟨h1, -, -⟩ := handRecord_others old cause s
  refine Reaches.after ?_ (quietly_handRecord old cause s).2 (handRecord_to_completeChange h)
  have ho := h.handOff (cause := cause)
  rw [completeChange_eq]
  generalize handRecord old cause s = u at h1 ho ⊢
  rw [← h1] at hm ⊢
  have hp : Reaches q (.showMode u.house.showMode) u (u.post [⟨[.prompt, .house], .showMode u.house.showMode⟩]) :=
    reaches_post_one u _ _ (by simpa using hq)
  unfold handShowMode
  dsimp only
  rw [if_neg hm]
  split
  · exact hp
  · next hf =>
    rcases ho with ho | ho | ho
    · rw [ho]; exact hp
    · exact absurd ho hm
    · exact absurd ho hf

/-- What a completed change that reaches no zone leaves: the record as written, the fire and curtain records and the
frame, and a phase or a stop record that changed handed on to every block and told to the desks (R4). -/
theorem completeChange_phaseHandedOn {old : House} {cause : ClearanceCause} {s : State} (h : ReachesNoZone old s)
    (hp : ¬ (old.phase = s.house.phase ∧ old.stop = s.house.stop)) :
    PhaseHandedOn s (completeChange old cause showModeOff s) := by
  obtain ⟨h1, -, h3⟩ := handRecord_others old cause s
  obtain ⟨h4, h5⟩ := handRecord_newPhase (cause := cause) hp
  have hc := completeChange_calm (cause := cause) h
  have hq := quietly_handRecord old cause s
  have hl := handRecord_to_completeChange (cause := cause) h
  have hr {q : Port} (hq : q ≠ .panel) := handRecord_tellsPhase (cause := cause) hp hq
  generalize completeChange old cause showModeOff s = t at *
  have seen : (lightsPhaseHandoff s.house.phase s.house.stop s.lightEnv ⟨s.lights, []⟩).val.phaseSeen = s.house.phase ∧
      (lightsPhaseHandoff s.house.phase s.house.stop s.lightEnv ⟨s.lights, []⟩).val.stopSeen = s.house.stop := by
    unfold lightsPhaseHandoff changeAuthority
    dsimp only
    split_ifs <;> exact ⟨rfl, rfl⟩
  refine ⟨by rw [hc]; exact hq.1, by rw [hc]; exact h3, ?_, ?_, ?_, fun q hq' => ?_⟩
  · rw [hc]; dsimp only; rw [h4, h1]; exact seen.1
  · rw [hc]; dsimp only; rw [h4, h1]; exact seen.2
  · rw [hc]; dsimp only; rw [h5, h1]
  · have := (hr hq').then hq.2 hl
    rw [show t.house = s.house by rw [hc]; exact h1, show t.clock = s.clock by rw [hc]; exact hq.1.1.1]
    exact this

theorem completeChange_others {old : House} {cause : ClearanceCause} {s : State} (h : ReachesNoZone old s) :
    (completeChange old cause showModeOff s).house = s.house ∧
      (completeChange old cause showModeOff s).fire = s.fire ∧
      (completeChange old cause showModeOff s).curtain = s.curtain ∧
      (completeChange old cause showModeOff s).lights = (handRecord old cause s).lights ∧
      (completeChange old cause showModeOff s).calls = (handRecord old cause s).calls := by
  obtain ⟨h1, h2, h3⟩ := handRecord_others old cause s
  rw [completeChange_calm h]
  exact ⟨h1, h2, h3, rfl, rfl⟩

/-! ## The hand-off of the phase to the lights (R4, R118, R127) -/

theorem changeAuthority_house (e : LightEnv) (cause : AuthorityCause) (w : Act Lights) :
    (changeAuthority e .house cause w).val.authority = .house := by
  unfold changeAuthority
  split
  · next h => exact h
  · rfl

/-- An authority that changes leaves every circuit as it was. -/
theorem changeAuthority_circuits (e : LightEnv) (a : Authority) (cause : AuthorityCause) (w : Act Lights) :
    (changeAuthority e a cause w).val.circuits = w.val.circuits := by
  unfold changeAuthority; split <;> rfl

end Sys2Proof.Machine
end

section
/-! SUPPORT. The zone table and the alarm list: what each entry into a state writes, what a promotion makes of every
zone (R33, R36), and the laws of list, delays and ladder (R31, R36, R47) under each event at the zones. -/
namespace Sys2Proof.Machine

/-! ## One zone written -/

@[simp] theorem Fire.setZone_zones (z y : ZoneId) (r : Zone) (f : Fire) :
    (f.setZone z r).zones[y] = if y = z then r else f.zones[y] := by
  simp [Fire.setZone, Vector.getElem_set, Fin.ext_iff, eq_comm]

@[simp] theorem Fire.setZone_alarmList (z : ZoneId) (r : Zone) (f : Fire) :
    (f.setZone z r).alarmList = f.alarmList := rfl

@[simp] theorem Fire.setZone_condition (z : ZoneId) (r : Zone) (f : Fire) :
    (f.setZone z r).condition = f.condition := rfl

/-- A zone record on entry into ALARM (R29). -/
def Zone.alarmed (now : Nat) (r : Zone) : Zone :=
  { r.flagged with state := .alarm, alarmTime := some now, delayRemaining := none }

/-- A zone record on entry into FAULT (R30). -/
def Zone.faulted (r : Zone) : Zone := { r.flagged with state := .fault, delayRemaining := none }

/-- A zone record on entry into DELAYED (R29). -/
def Zone.delayedFor (delay : Nat) (r : Zone) : Zone :=
  { r.flagged with state := .delayed, delayRemaining := some delay }

@[simp] theorem enterAlarm_zones (now : Nat) (f : Fire) (z y : ZoneId) :
    (enterAlarm now f z).zones[y] = if y = z then f.zones[z].alarmed now else f.zones[y] :=
  Fire.setZone_zones z y _ f

@[simp] theorem enterAlarm_alarmList (now : Nat) (f : Fire) (z : ZoneId) :
    (enterAlarm now f z).alarmList = f.alarmList ++ [z] := rfl

@[simp] theorem enterFault_zones (f : Fire) (z y : ZoneId) :
    (enterFault f z).zones[y] = if y = z then f.zones[z].faulted else f.zones[y] := Fire.setZone_zones z y _ f

@[simp] theorem enterFault_alarmList (f : Fire) (z : ZoneId) : (enterFault f z).alarmList = f.alarmList := rfl

@[simp] theorem enterDelayed_zones (delay : Nat) (f : Fire) (z y : ZoneId) :
    (enterDelayed delay f z).zones[y] = if y = z then f.zones[z].delayedFor delay else f.zones[y] :=
  Fire.setZone_zones z y _ f

@[simp] theorem enterDelayed_alarmList (delay : Nat) (f : Fire) (z : ZoneId) :
    (enterDelayed delay f z).alarmList = f.alarmList := rfl

@[simp] theorem recordInput_zones (z y : ZoneId) (r : Reading) (f : Fire) :
    (recordInput z r f).zones[y] = if y = z then { f.zones[z] with input := r } else f.zones[y] :=
  Fire.setZone_zones z y _ f

@[simp] theorem recordInput_alarmList (z : ZoneId) (r : Reading) (f : Fire) :
    (recordInput z r f).alarmList = f.alarmList := rfl

/-! ## Promotion (R33) -/

theorem mem_delayedWith {f : Fire} {r : Reading} {z : ZoneId} :
    z ∈ f.delayedWith r ↔ f.zones[z].state = .delayed ∧ f.zones[z].input = r := by
  simp [Fire.delayedWith]

theorem nodup_delayedWith (f : Fire) (r : Reading) : (f.delayedWith r).Nodup := (List.nodup_finRange 32).filter _

theorem foldl_enterAlarm_zones (now : Nat) (zs : List ZoneId) (f : Fire) (y : ZoneId) :
    (zs.foldl (enterAlarm now) f).zones[y] = if y ∈ zs then f.zones[y].alarmed now else f.zones[y] := by
  induction zs generalizing f with
  | nil => simp
  | cons z zs ih =>
    rw [List.foldl_cons, ih, enterAlarm_zones]
    by_cases hz : y = z
    · subst hz
      by_cases hm : y ∈ zs <;> simp [hm, Zone.alarmed, Zone.flagged]
    · simp [hz]

theorem foldl_enterAlarm_others (now : Nat) (zs : List ZoneId) (f : Fire) :
    zs.foldl (enterAlarm now) f =
      { f with zones := (zs.foldl (enterAlarm now) f).zones, alarmList := f.alarmList ++ zs } := by
  induction zs generalizing f with
  | nil => simp
  | cons z zs ih =>
    rw [List.foldl_cons, ih]
    simp [enterAlarm, Fire.setZone]

theorem foldl_enterFault_zones (zs : List ZoneId) (f : Fire) (y : ZoneId) :
    (zs.foldl enterFault f).zones[y] = if y ∈ zs then f.zones[y].faulted else f.zones[y] := by
  induction zs generalizing f with
  | nil => simp
  | cons z zs ih =>
    rw [List.foldl_cons, ih, enterFault_zones]
    by_cases hz : y = z
    · subst hz
      by_cases hm : y ∈ zs <;> simp [hm, Zone.faulted, Zone.flagged]
    · simp [hz]

theorem foldl_enterFault_others (zs : List ZoneId) (f : Fire) :
    zs.foldl enterFault f = { f with zones := (zs.foldl enterFault f).zones } := by
  induction zs generalizing f with
  | nil => rfl
  | cons z zs ih => rw [List.foldl_cons, ih]; rfl

/-- A zone after a promotion (R33): DELAYED on ACTIVE becomes ALARM, DELAYED on FAULTY becomes FAULT. -/
theorem promoteZones_zones (now : Nat) (f : Fire) (y : ZoneId) :
    (promoteZones now f).zones[y] =
      if f.zones[y].state = .delayed ∧ f.zones[y].input = .faulty then f.zones[y].faulted
      else if f.zones[y].state = .delayed ∧ f.zones[y].input = .active then f.zones[y].alarmed now
      else f.zones[y] := by
  simp only [promoteZones, foldl_enterFault_zones, foldl_enterAlarm_zones, mem_delayedWith]
  split
  · next h => simp [-Fin.getElem_fin, h]
  · rfl

/-- A promotion writes the zones and lengthens the list, and nothing else of the fire record. -/
theorem promoteZones_others (now : Nat) (f : Fire) :
    promoteZones now f =
      { f with zones := (promoteZones now f).zones, alarmList := f.alarmList ++ f.delayedWith .active } := by
  have hf := foldl_enterAlarm_others now (f.delayedWith .active) f
  have hx := foldl_enterFault_others (f.delayedWith .faulty) ((f.delayedWith .active).foldl (enterAlarm now) f)
  unfold promoteZones
  generalize (f.delayedWith .active).foldl (enterAlarm now) f = g at hf hx ⊢
  rw [hx, hf]

@[simp] theorem promoteZones_alarmList (now : Nat) (f : Fire) :
    (promoteZones now f).alarmList = f.alarmList ++ f.delayedWith .active := by rw [promoteZones_others]

@[simp] theorem promoteZones_condition (now : Nat) (f : Fire) : (promoteZones now f).condition = f.condition := by
  rw [promoteZones_others]

theorem promoteZones_cls (now : Nat) (f : Fire) (y : ZoneId) : (promoteZones now f).zones[y].cls = f.zones[y].cls := by
  rw [promoteZones_zones]; split_ifs <;> rfl

theorem promoteZones_of_not_delayed {now : Nat} {f : Fire} {y : ZoneId} (h : f.zones[y].state ≠ .delayed) :
    (promoteZones now f).zones[y] = f.zones[y] := by
  simp [-Fin.getElem_fin, promoteZones_zones, h]

/-- A zone in ALARM after a promotion stood in ALARM or was DELAYED on ACTIVE. -/
theorem promoteZones_alarm_iff (now : Nat) (f : Fire) (y : ZoneId) :
    (promoteZones now f).zones[y].state = .alarm ↔ f.zones[y].state = .alarm ∨ y ∈ f.delayedWith .active := by
  rw [promoteZones_zones, mem_delayedWith]
  split_ifs with h1 h2
  · simp [-Fin.getElem_fin, Zone.faulted, h1]
  · simp [-Fin.getElem_fin, Zone.alarmed, h2]
  · simp [-Fin.getElem_fin, h2]

/-! ## The laws of the list and of the delays, of the fire record alone -/

/-- The delay law of a fire record, with show mode as given (R31, R36). -/
def Fire.delaysLawful (on : Bool) (f : Fire) : Prop :=
  ∀ z : ZoneId, f.zones[z].state = .delayed →
    f.zones[z].delayRemaining.isSome = true ∧ f.zones[z].input ≠ .quiet ∧ on = true ∧ f.alarmList = []

theorem delayLawful_iff (s : State) : s.delayLawful ↔ s.fire.delaysLawful s.house.showMode := Iff.rfl

/-- No zone is DELAYED in a fire record. -/
def Fire.noneDelayed (f : Fire) : Prop := ∀ z : ZoneId, f.zones[z].state ≠ .delayed

theorem Fire.noneDelayed.delaysLawful {f : Fire} (h : f.noneDelayed) (on : Bool) : f.delaysLawful on :=
  fun z hz => absurd hz (h z)

/-- Every local zone reads QUIET and is NORMAL or ISOLATED, as until the end of the start-up settle (R27, R185). -/
def Fire.localsAtRest (f : Fire) : Prop :=
  ∀ z : ZoneId, z.val < 8 → f.zones[z].input = .quiet ∧ (f.zones[z].state = .normal ∨ f.zones[z].state = .isolated)

/-- After a promotion no zone is DELAYED. -/
theorem promoteZones_noneDelayed {now : Nat} {f : Fire} (h : ∀ z : ZoneId, f.zones[z].state = .delayed →
    f.zones[z].input ≠ .quiet) : (promoteZones now f).noneDelayed := by
  intro z hz
  rw [promoteZones_zones] at hz
  split_ifs at hz with h1 h2
  · simp [Zone.faulted] at hz
  · simp [Zone.alarmed] at hz
  · have := h z hz
    cases hi : f.zones[z].input <;> simp_all

theorem promoteZones_listLawful {now : Nat} {f : Fire} (h : f.listLawful) : (promoteZones now f).listLawful := by
  obtain ⟨hn, hm⟩ := h
  refine ⟨?_, fun z => ?_⟩
  · rw [promoteZones_alarmList, List.nodup_append']
    refine ⟨hn, nodup_delayedWith f _, fun z hz hd => ?_⟩
    have := (hm z).mp hz
    rw [(mem_delayedWith.mp hd).1] at this
    exact absurd this (by decide)
  · rw [promoteZones_alarmList, List.mem_append, promoteZones_alarm_iff, hm z]

theorem promoteZones_localsAtRest {now : Nat} {f : Fire} (h : f.localsAtRest) :
    (promoteZones now f).localsAtRest := by
  intro z hz
  obtain ⟨hi, hs⟩ := h z hz
  have hd : f.zones[z].state ≠ .delayed := by rcases hs with hs | hs <;> rw [hs] <;> decide
  rw [promoteZones_of_not_delayed hd]
  exact ⟨hi, hs⟩

/-! ## Events at the zones -/

/-- The list and the delays of a fire record are lawful. -/
def Fire.zonesLawful (on : Bool) (f : Fire) : Prop := f.listLawful ∧ f.delaysLawful on

/-- A fire record from which the ladder reaches a lawful one (R47): with no zone entering ALARM its condition is that of
its list; else, short of EVACUATE, the zones listed before the batch are DETECTORs. -/
def Fire.climbable (f : Fire) (entering : List ZoneId) : Prop :=
  (entering = [] → f.ladderLawful) ∧
    (entering ≠ [] → f.condition ≠ .evacuate → ∀ z ∈ f.alarmList, z ∉ entering → f.zones[z].cls = .detector)

/-- A write of one zone that keeps its membership of the alarm list, its class and the condition of its delay. -/
theorem setZone_lawful {on : Bool} {f : Fire} {z : ZoneId} {r : Zone} (h : f.zonesLawful on) (hl : f.ladderLawful)
    (ha : r.state = .alarm ↔ f.zones[z].state = .alarm) (hc : r.cls = f.zones[z].cls)
    (hd : r.state = .delayed → r.delayRemaining.isSome = true ∧ r.input ≠ .quiet ∧ on = true ∧ f.alarmList = []) :
    (f.setZone z r).zonesLawful on ∧ (f.setZone z r).ladderLawful := by
  obtain ⟨⟨hn, hm⟩, hdel⟩ := h
  refine ⟨⟨⟨hn, fun y => ?_⟩, fun y => ?_⟩, fun hq => ⟨(hl.1 hq).1, fun y hy => ?_⟩, hl.2⟩
  · rw [Fire.setZone_alarmList, hm, Fire.setZone_zones]
    split
    · next e => rw [e, ha]
    · rfl
  · rw [Fire.setZone_zones, Fire.setZone_alarmList]
    split
    · exact hd
    · exact hdel y
  · rw [Fire.setZone_zones]
    split
    · next e => rw [hc, ← e]; exact (hl.1 hq).2 y hy
    · exact (hl.1 hq).2 y hy

theorem Fire.climbable_nil {f : Fire} (h : f.ladderLawful) : f.climbable [] := ⟨fun _ => h, fun h => absurd rfl h⟩

/-- A zone that stood outside ALARM enters it and ends every delay (R29, R33, R36). -/
theorem alarmBatch_lawful {on : Bool} {f : Fire} {z : ZoneId} (now : Nat) (previous : ZoneState) (cause : ZoneCause)
    (out : List Mail) (hl : f.listLawful) (hd : ∀ y : ZoneId, y ≠ z → f.zones[y].state = .delayed →
      f.zones[y].input ≠ .quiet) (hz : f.zones[z].state ≠ .alarm) (hr : f.ladderLawful) :
    (alarmBatch now z previous cause ⟨f, out⟩).1.val.zonesLawful on ∧
      (alarmBatch now z previous cause ⟨f, out⟩).1.val.climbable (alarmBatch now z previous cause ⟨f, out⟩).2 := by
  obtain ⟨hn, hm⟩ := hl
  have hlist : (enterAlarm now f z).listLawful := by
    refine ⟨?_, fun y => ?_⟩
    · rw [enterAlarm_alarmList, List.nodup_append']
      exact ⟨hn, List.nodup_singleton z, fun y hy he => hz ((hm z).mp (List.mem_singleton.mp he ▸ hy))⟩
    · rw [enterAlarm_alarmList, List.mem_append, List.mem_singleton, enterAlarm_zones, hm]
      split
      · next e => simp [e, Zone.alarmed]
      · next e => simp [e]
  refine ⟨⟨promoteZones_listLawful hlist, (promoteZones_noneDelayed fun y hy => ?_).delaysLawful on⟩,
    fun h => absurd h (by simp [alarmBatch]), fun _ hq y hy hy' => ?_⟩
  · rw [enterAlarm_zones] at hy ⊢
    split at hy
    · simp [Zone.alarmed] at hy
    · next e => rw [if_neg e]; exact hd y e hy
  · have hc : f.condition ≠ .evacuate := by
      rwa [show (alarmBatch now z previous cause ⟨f, out⟩).1.val.condition = (enterAlarm now f z).condition from
        promoteZones_condition now _] at hq
    simp only [alarmBatch, promoteZones_alarmList, enterAlarm_alarmList, List.mem_append, List.mem_cons,
      not_or] at hy hy'
    have hold : y ∈ f.alarmList := by tauto
    simp only [alarmBatch, promoteZones_cls, enterAlarm_zones, hy'.1, if_false]
    exact (hr.1 hc).2 y hold

theorem alarmBatch_localsAtRest {f : Fire} {z : ZoneId} (now : Nat) (previous : ZoneState) (cause : ZoneCause)
    (out : List Mail) (hz : 8 ≤ z.val) (h : f.localsAtRest) :
    (alarmBatch now z previous cause ⟨f, out⟩).1.val.localsAtRest := by
  refine promoteZones_localsAtRest fun y hy => ?_
  rw [enterAlarm_zones, if_neg (by rintro rfl; omega)]
  exact h y hy

/-- A write of a panel zone leaves the local ones at rest. -/
theorem setZone_localsAtRest {f : Fire} {z : ZoneId} {r : Zone} (hz : 8 ≤ z.val) (h : f.localsAtRest) :
    (f.setZone z r).localsAtRest := by
  intro y hy
  rw [Fire.setZone_zones, if_neg (by rintro rfl; omega)]
  exact h y hy

/-! ### The events by name -/

/-- What an event at the zones must do to a lawful fire record for the ladder to bring it to a lawful one. -/
def ZoneEvent.keepsLaw (g : ZoneEvent) (e : FireEnv) (f : Fire) : Prop :=
  (g e ⟨f, []⟩).1.val.zonesLawful e.showMode ∧ (g e ⟨f, []⟩).1.val.climbable (g e ⟨f, []⟩).2

theorem ZoneEvent.keepsLaw_of_write {e : FireEnv} {f f' : Fire} {g : ZoneEvent} (out : List Mail)
    (hg : g e ⟨f, []⟩ = (⟨f', out⟩, [])) (h : f'.zonesLawful e.showMode ∧ f'.ladderLawful) : g.keepsLaw e f := by
  unfold ZoneEvent.keepsLaw
  rw [hg]
  exact ⟨h.1, f'.climbable_nil h.2⟩

/-- An ACTIVE input at a zone outside ALARM: DELAYED under the delay conditions, else ALARM (R29). -/
theorem activeArrival_lawful {e : FireEnv} {f : Fire} {z : ZoneId} (previous : ZoneState) (cause : ZoneCause)
    (h : f.zonesLawful e.showMode) (hl : f.ladderLawful) (hz : f.zones[z].state ≠ .alarm)
    (hi : f.zones[z].input = .active) :
    (activeArrival e z previous cause ⟨f, []⟩).1.val.zonesLawful e.showMode ∧
      (activeArrival e z previous cause ⟨f, []⟩).1.val.climbable (activeArrival e z previous cause ⟨f, []⟩).2 := by
  unfold activeArrival
  split
  · next hc =>
    simp only [delayConditions, Bool.and_eq_true, List.isEmpty_iff] at hc
    obtain ⟨⟨⟨-, hon⟩, hempty⟩, -⟩ := hc
    have hw := setZone_lawful (r := f.zones[z].delayedFor e.showDelay) h hl (by simp [-Fin.getElem_fin, Zone.delayedFor, hz]) rfl
      fun _ => ⟨rfl, by simp [-Fin.getElem_fin, Zone.delayedFor, Zone.flagged, hi], hon, hempty⟩
    exact ⟨hw.1, Fire.climbable_nil hw.2⟩
  · exact alarmBatch_lawful _ _ _ _ h.1 (fun y _ hy => (h.2 y hy).2.1) hz hl

theorem activeArrival_localsAtRest {e : FireEnv} {f : Fire} {z : ZoneId} (previous : ZoneState) (cause : ZoneCause)
    (hz : 8 ≤ z.val) (h : f.localsAtRest) :
    (activeArrival e z previous cause ⟨f, []⟩).1.val.localsAtRest := by
  unfold activeArrival
  split
  · exact setZone_localsAtRest hz h
  · exact alarmBatch_localsAtRest _ _ _ _ hz h

end Sys2Proof.Machine
end

section
/-! SUPPORT. What a change of the fire condition and the climb of the ladder write (R46, R47, R56, R57): the condition
record, the promotion of R58, the stop record of R14, and the demonstration marks, which they leave. -/
namespace Sys2Proof.Machine

/-! ## The curtain under the hand-off of the Fire Monitor (R67) -/

theorem releaseDemand_state (e : CurtainEnv) (w : Act Curtain) :
    (releaseDemand e w).val.state = w.val.state ∨ (releaseDemand e w).val.state = .descending ∨
      (releaseDemand e w).val.state = .landed := by
  unfold releaseDemand releaseCurtain
  split <;> try exact .inl rfl
  all_goals
    dsimp only
    split
    · exact .inr (.inr rfl)
    · exact .inr (.inl rfl)

/-- The FIRE demand of a curtain brought to its new value (R56, R67): a rise releases, a fall takes the cause away. -/
def meetDemand (e : CurtainEnv) (demand : Bool) (w : Act Curtain) : Act Curtain :=
  if demand && !w.val.fireDemand then
    releaseDemand e (w.map fun c => { c with fireDemand := true, causes := { c.causes with fire := true } })
  else if !demand && w.val.fireDemand then
    w.map fun c => { c with fireDemand := false, causes := { c.causes with fire := false } }
  else w

/-- The hand-off of R67: the demand first, then a raise halts on a change that leaves QUIET. -/
theorem curtainFireHandoff_eq (e : CurtainEnv) (d : Bool) (c : Option Condition) (w : Act Curtain) :
    curtainFireHandoff e d c w =
      if (meetDemand e d w).val.state = .raising ∧ (c = some .alert ∨ c = some .evacuate) then
        changeState e .halted .fireChange (meetDemand e d w)
      else meetDemand e d w := by
  rcases c with _ | _ | _ | _ <;> simp [curtainFireHandoff, meetDemand]

theorem meetDemand_state (e : CurtainEnv) (d : Bool) (w : Act Curtain) :
    (meetDemand e d w).val.state = w.val.state ∨ (meetDemand e d w).val.state = .descending ∨
      (meetDemand e d w).val.state = .landed := by
  unfold meetDemand
  split_ifs
  · exact releaseDemand_state e _
  · exact .inl rfl
  · exact .inl rfl

/-- The hand-off changes the state to DESCENDING, LANDED or HALTED alone. -/
theorem curtainFireHandoff_state (e : CurtainEnv) (d : Bool) (c : Option Condition) (w : Act Curtain) :
    (curtainFireHandoff e d c w).val.state = w.val.state ∨ (curtainFireHandoff e d c w).val.state = .descending ∨
      (curtainFireHandoff e d c w).val.state = .landed ∨ (curtainFireHandoff e d c w).val.state = .halted := by
  have h := meetDemand_state e d w
  rw [curtainFireHandoff_eq]
  split
  · exact .inr (.inr (.inr rfl))
  · tauto

/-- Without a demand, and with no condition that leaves QUIET, the curtain keeps its state. -/
theorem curtainFireHandoff_state_quiet (e : CurtainEnv) (c : Option Condition)
    (hc : c = none ∨ c = some .quiet) (w : Act Curtain) :
    (curtainFireHandoff e false c w).val.state = w.val.state := by
  rw [curtainFireHandoff_eq, if_neg (by rcases hc with rfl | rfl <;> simp)]
  unfold meetDemand
  split_ifs with h1
  · simp at h1
  · rfl
  · rfl

/-- The marks of the demonstration stay where the curtain is not newly STOWED and a landing finds no QUIET house. -/
theorem demoBookkeeping_eq_self {old new : CurtainState} {calm : Bool} (h : House)
    (hn : new = old ∨ (calm = false ∧ (new = .stowed → old = .stowed))) : demoBookkeeping old new calm h = h := by
  unfold demoBookkeeping
  rcases hn with rfl | ⟨rfl, hs⟩
  · simp
  · split_ifs with h1 h2
    · simp
    · exact absurd (hs h2.1) h2.2
    · rfl

/-- The hand-off of R67 leaves the demonstration marks: while the condition is QUIET it raises no demand, and outside
QUIET a landing sets no mark (R6). -/
theorem demoBookkeeping_fireHandoff (e : CurtainEnv) (d : Bool) (c : Option Condition) (old : Curtain) (calm : Bool)
    (h : House) (hq : calm = true → d = false ∧ (c = none ∨ c = some .quiet)) :
    demoBookkeeping old.state (curtainFireHandoff e d c ⟨old, []⟩).val.state calm h = h := by
  refine demoBookkeeping_eq_self h ?_
  cases calm with
  | true =>
    obtain ⟨rfl, hc⟩ := hq rfl
    exact .inl (curtainFireHandoff_state_quiet e c hc _)
  | false =>
    refine .inr ⟨rfl, fun hs => ?_⟩
    rcases curtainFireHandoff_state e d c ⟨old, []⟩ with hc | hc | hc | hc <;> rw [hc] at hs
    · exact hs
    all_goals exact absurd hs (by decide)

/-! ## A change of condition (R57) -/

/-- The state at the moment of the FIRE CONDITION notice: the condition record as completed, and the DELAYED zones
promoted where the change is to EVACUATE with show mode on (R46, R58, log 31). -/
def conditionRecorded (new : Condition) (cause : FireCause) (s : State) : State :=
  promoteOnEvacuate new { s with fire := s.fire.withCondition s.clock s.params.investigation new cause }

/-- The hand-offs of a change of condition to the curtain, the lights and the calls (Table 3-3, log 37). -/
def handCondition (new : Condition) (d : Bool) (s : State) : State :=
  (((s.onCurtain fun e => curtainFireHandoff e d (some new)).onLights (lightsFireHandoff new)).onCalls
    (schedulerFireHandoff new)).onCalls (arbiterFireHandoff new)

theorem changeCondition_eq (new : Condition) (cause : FireCause) (s : State) :
    changeCondition new cause s =
      let t := handCondition new (s.fire.demandFor new)
        ((conditionRecorded new cause s).post [fireMail (conditionRecorded new cause s).fire s.fire.condition cause])
      if new = .evacuate then stopShow t else t := rfl

theorem conditionRecorded_others (new : Condition) (cause : FireCause) (s : State) :
    conditionRecorded new cause s =
      { s with fire := (conditionRecorded new cause s).fire, links := (conditionRecorded new cause s).links } := by
  have h := promoteOnEvacuate_others new
    { s with fire := s.fire.withCondition s.clock s.params.investigation new cause }
  exact h

/-- The fire record after a change of condition: with show mode on a change to EVACUATE promotes (R58). -/
theorem conditionRecorded_fire (new : Condition) (cause : FireCause) (s : State) :
    (conditionRecorded new cause s).fire =
      if new = .evacuate ∧ s.house.showMode = true then
        promoteZones s.clock (s.fire.withCondition s.clock s.params.investigation new cause)
      else s.fire.withCondition s.clock s.params.investigation new cause := by
  unfold conditionRecorded promoteOnEvacuate
  dsimp only
  split <;> rfl

@[simp] theorem conditionRecorded_condition (new : Condition) (cause : FireCause) (s : State) :
    (conditionRecorded new cause s).fire.condition = new := by
  rw [conditionRecorded_fire]
  split
  · rw [promoteZones_condition]; rfl
  · rfl

theorem handCondition_fire (new : Condition) (d : Bool) (s : State) : (handCondition new d s).fire = s.fire := rfl

/-- The hand-offs of a change of condition leave the house condition record. -/
theorem handCondition_house {new : Condition} {d : Bool} {s : State} (hc : s.fire.condition = new)
    (hd : new = .quiet → d = false) : (handCondition new d s).house = s.house := by
  simp only [handCondition, State.onCalls_house, State.onLights_house, State.onCurtain_house]
  refine demoBookkeeping_fireHandoff _ _ _ _ _ _ fun hq => ?_
  have : new = .quiet := by rw [← hc]; simpa using hq
  exact ⟨hd this, .inr (by rw [this])⟩

/-- EVACUATE handed to the Performance Unit (R14): the record as evacuated, and nothing of the fire record. -/
theorem stopShow_others (s : State) :
    (stopShow s).house = s.house.evacuated ∧ (stopShow s).fire = s.fire ∧ (stopShow s).curtain = s.curtain := by
  have h := handRecord_others s.house .cleared { s with house := s.house.evacuated }
  unfold stopShow
  rw [completeChange_eq, handShowMode_calm (.inl fun _ => rfl)]
  exact h

theorem changeCondition_house (new : Condition) (cause : FireCause) (s : State) :
    (changeCondition new cause s).house = if new = .evacuate then s.house.evacuated else s.house := by
  rw [changeCondition_eq]
  dsimp only
  have h : (handCondition new (s.fire.demandFor new)
      ((conditionRecorded new cause s).post [fireMail (conditionRecorded new cause s).fire s.fire.condition cause])).house =
        s.house := by
    rw [handCondition_house (by simp) (fun h => by rw [h]; rfl), State.post_house, conditionRecorded_others]
  split
  · rw [(stopShow_others _).1, h]
  · exact h

theorem changeCondition_fire (new : Condition) (cause : FireCause) (s : State) :
    (changeCondition new cause s).fire = (conditionRecorded new cause s).fire := by
  rw [changeCondition_eq]
  dsimp only
  split
  · rw [(stopShow_others _).2.1, handCondition_fire, State.post_fire]
  · rw [handCondition_fire, State.post_fire]

/-! ## The demand without a change of condition, and the ladder (R47, R56) -/

theorem evaluateDemand_fire (s : State) :
    (evaluateDemand s).fire = { s.fire with demand := s.fire.demandFor s.fire.condition } := by
  unfold evaluateDemand
  dsimp only
  split
  · next h => rw [h]
  · rfl

/-- The demand brought to its value leaves the house condition record: in QUIET there is none (R56). -/
theorem evaluateDemand_house (s : State) : (evaluateDemand s).house = s.house := by
  unfold evaluateDemand
  dsimp only
  split
  · rfl
  · rw [State.onCurtain_house]
    refine demoBookkeeping_fireHandoff _ _ _ _ _ _ fun hq => ⟨?_, .inl rfl⟩
    have hc : s.fire.condition = .quiet := by simpa using hq
    rw [hc]; rfl

/-- A climb changes the condition, or leaves one that stands at EVACUATE (R47). -/
theorem climbLadder_cases (entering : List ZoneId) (s : State) :
    (s.fire.condition = .evacuate ∧ climbLadder entering s = evaluateDemand s) ∨
      (s.fire.condition ≠ .evacuate ∧ ∃ cause, climbLadder entering s = changeCondition .evacuate cause s) ∨
      (s.fire.condition = .quiet ∧ s.fire.hasClass entering .callPoint = false ∧
        s.fire.hasClass entering .suppression = false ∧ s.fire.alarmList.length < 2 ∧
        climbLadder entering s = changeCondition .alert .detectorAlarm s) := by
  unfold climbLadder Fire.climb
  by_cases he : s.fire.condition = .evacuate
  · exact .inl ⟨he, by simp [he]⟩
  · cases hp : s.fire.hasClass entering .callPoint with
    | true => exact .inr (.inl ⟨he, .callPoint, by simp [he]⟩)
    | false =>
      cases hs : s.fire.hasClass entering .suppression with
      | true => exact .inr (.inl ⟨he, .suppression, by simp [he]⟩)
      | false =>
        by_cases ha : s.fire.condition = .alert
        · exact .inr (.inl ⟨he, .furtherAlarm, by simp [ha]⟩)
        · by_cases hn : 2 ≤ s.fire.alarmList.length
          · exact .inr (.inl ⟨he, .coincidentAlarms, by simp [he, ha, hn]⟩)
          · refine .inr (.inr ⟨?_, rfl, rfl, by omega, by simp [he, ha, hn]⟩)
            cases hq : s.fire.condition <;> simp_all

/-- After a climb the condition is not QUIET (R47). -/
theorem climbLadder_condition (entering : List ZoneId) (s : State) :
    (climbLadder entering s).fire.condition ≠ .quiet := by
  rcases climbLadder_cases entering s with ⟨h, k⟩ | ⟨-, cause, k⟩ | ⟨-, -, -, -, k⟩ <;> rw [k]
  · rw [evaluateDemand_fire]; simp [h]
  · simp [changeCondition_fire]
  · simp [changeCondition_fire]

/-- With show mode off a climb leaves the zones and the list. -/
theorem climbLadder_zones {entering : List ZoneId} {s : State} (hm : s.house.showMode = false) :
    (climbLadder entering s).fire.zones = s.fire.zones ∧
      (climbLadder entering s).fire.alarmList = s.fire.alarmList := by
  rcases climbLadder_cases entering s with ⟨-, k⟩ | ⟨-, cause, k⟩ | ⟨-, -, -, -, k⟩ <;> rw [k]
  · rw [evaluateDemand_fire]; exact ⟨rfl, rfl⟩
  · rw [changeCondition_fire, conditionRecorded_fire]; simp [hm, Fire.withCondition]
  · rw [changeCondition_fire, conditionRecorded_fire]; simp [Fire.withCondition]

/-- What a climb can make of the house condition record (R14). -/
theorem climbLadder_house (entering : List ZoneId) (s : State) :
    (climbLadder entering s).house = s.house ∨ (climbLadder entering s).house = s.house.evacuated := by
  rcases climbLadder_cases entering s with ⟨-, k⟩ | ⟨-, cause, k⟩ | ⟨-, -, -, -, k⟩ <;> rw [k]
  · exact .inl (evaluateDemand_house s)
  · exact .inr (by rw [changeCondition_house, if_pos rfl])
  · exact .inl (by rw [changeCondition_house, if_neg (by decide)])

/-! ## Show mode turning off with zones DELAYED (R33) -/

theorem promoteAll_apply (e : FireEnv) (f : Fire) (out : List Mail) :
    promoteAll e ⟨f, out⟩ =
      (⟨promoteZones e.now f, out ++ promotionMails f (promoteZones e.now f)⟩, f.delayedWith .active) := rfl

/-- Show mode off: the promoted zones, and the ladder where some entered ALARM. -/
theorem showModeOff_zones {s : State} (hm : s.house.showMode = false) :
    (showModeOff s).fire.zones = (promoteZones s.clock s.fire).zones ∧
      (showModeOff s).fire.alarmList = s.fire.alarmList ++ s.fire.delayedWith .active := by
  unfold showModeOff
  rcases zoneEvent_cases promoteAll s with ⟨-, k⟩ | ⟨-, k⟩ <;> rw [k]
  · exact ⟨rfl, promoteZones_alarmList _ _⟩
  · obtain ⟨hz, hl⟩ := climbLadder_zones (entering := (s.onZones promoteAll).2) (s := (s.onZones promoteAll).1) hm
    rw [hz, hl]
    exact ⟨rfl, promoteZones_alarmList _ _⟩

theorem showModeOff_house (s : State) :
    (showModeOff s).house = s.house ∨ (showModeOff s).house = s.house.evacuated := by
  unfold showModeOff
  rcases zoneEvent_cases promoteAll s with ⟨-, k⟩ | ⟨-, k⟩ <;> rw [k]
  · exact .inl rfl
  · exact climbLadder_house _ _

end Sys2Proof.Machine
end

section
/-! SUPPORT. What each event at the zones can do (R27, R29 to R35, R37 to R39, R43), and that each keeps the laws of the
alarm list, the delays and the ladder, up to the climb that follows it. -/
namespace Sys2Proof.Machine

theorem Fire.setZone_setZone (z : ZoneId) (q r : Zone) (f : Fire) : (f.setZone z q).setZone z r = f.setZone z r := by
  simp [Fire.setZone]

/-- A write of one zone by an event at which no zone enters ALARM. -/
theorem keepsLaw_of_setZone {e : FireEnv} {f : Fire} {g : ZoneEvent} {z : ZoneId} {r : Zone} {out : List Mail}
    (hg : g e ⟨f, []⟩ = (⟨f.setZone z r, out⟩, [])) (h : f.zonesLawful e.showMode) (hl : f.ladderLawful)
    (ha : r.state = .alarm ↔ f.zones[z].state = .alarm) (hc : r.cls = f.zones[z].cls)
    (hd : r.state = .delayed → f.zones[z].state = .delayed ∧ r.delayRemaining = f.zones[z].delayRemaining ∧
      r.input ≠ .quiet) : g.keepsLaw e f :=
  ZoneEvent.keepsLaw_of_write out hg (setZone_lawful h hl ha hc fun hr => by
    obtain ⟨h1, h2, h3⟩ := hd hr
    obtain ⟨k1, -, k3, k4⟩ := h.2 z h1
    exact ⟨h2 ▸ k1, h3, k3, k4⟩)

/-! ## Arrivals (R29, R30, R31, R34, R38) -/

/-- Everything an arrival can do: an ACTIVE input at a zone in NORMAL or FAULT raises the alarm or starts a delay; any
other is recorded, in a state that is ALARM or DELAYED only where it was before. -/
theorem zoneArrival_cases (z : ZoneId) (r : Reading) (e : FireEnv) (f : Fire) (out : List Mail) :
    ((f.zones[z].state = .normal ∨ f.zones[z].state = .fault) ∧ r = .active ∧
        zoneArrival z r e ⟨f, out⟩ =
          activeArrival e z f.zones[z].state .input ⟨f.setZone z { f.zones[z] with input := r }, out⟩) ∨
      ∃ (q : Zone) (ms : List Mail), zoneArrival z r e ⟨f, out⟩ = (⟨f.setZone z q, ms⟩, []) ∧ q.input = r ∧
        q.cls = f.zones[z].cls ∧ (q.state = .alarm ↔ f.zones[z].state = .alarm) ∧
        (q.state = .delayed → f.zones[z].state = .delayed ∧ q.delayRemaining = f.zones[z].delayRemaining ∧
          q.input ≠ .quiet) := by
  have hz : (f.setZone z { f.zones[z] with input := r }).zones[z] = { f.zones[z] with input := r } := by
    rw [Fire.setZone_zones, if_pos rfl]
  unfold zoneArrival
  simp only [Act.map, recordInput, hz, Fire.setZone_setZone, changeZone, enterFault]
  cases hx : f.zones[z].state <;> cases r
  case normal.active => exact .inl ⟨.inl rfl, rfl, rfl⟩
  case fault.active => exact .inl ⟨.inr rfl, rfl, rfl⟩
  all_goals
    refine .inr ⟨_, _, rfl, ?_⟩
    simp [-Fin.getElem_fin, Zone.flagged, Zone.cleared]

theorem zoneArrival_keepsLaw {e : FireEnv} {f : Fire} (z : ZoneId) (r : Reading) (h : f.zonesLawful e.showMode)
    (hl : f.ladderLawful) : (zoneArrival z r).keepsLaw e f := by
  rcases zoneArrival_cases z r e f [] with ⟨hs, rfl, hg⟩ | ⟨q, ms, hg, -, hc, ha, hd⟩
  · have hna : f.zones[z].state ≠ .alarm ∧ f.zones[z].state ≠ .delayed := by rcases hs with hs | hs <;> simp [-Fin.getElem_fin, hs]
    have hw := setZone_lawful (r := { f.zones[z] with input := .active }) h hl Iff.rfl rfl
      fun hd => absurd hd hna.2
    unfold ZoneEvent.keepsLaw
    rw [hg]
    exact activeArrival_lawful _ _ hw.1 hw.2 (by rw [Fire.setZone_zones, if_pos rfl]; exact hna.1)
      (by rw [Fire.setZone_zones, if_pos rfl])
  · exact keepsLaw_of_setZone hg h hl ha hc hd

theorem zoneArrival_localsAtRest {e : FireEnv} {f : Fire} {z : ZoneId} (r : Reading) (hz : 8 ≤ z.val)
    (h : f.localsAtRest) : (zoneArrival z r e ⟨f, []⟩).1.val.localsAtRest := by
  rcases zoneArrival_cases z r e f [] with ⟨-, -, hg⟩ | ⟨q, ms, hg, -⟩ <;> rw [hg]
  · exact activeArrival_localsAtRest _ _ hz (setZone_localsAtRest hz h)
  · exact setZone_localsAtRest hz h

/-! ## The show delay runs out (R32) -/

theorem delayExpiry_keepsLaw {e : FireEnv} {f : Fire} (z : ZoneId) (h : f.zonesLawful e.showMode)
    (hl : f.ladderLawful) : (delayExpiry z).keepsLaw e f := by
  have same (hg : delayExpiry z e ⟨f, []⟩ = (⟨f, []⟩, [])) : (delayExpiry z).keepsLaw e f :=
    ZoneEvent.keepsLaw_of_write [] hg ⟨h, hl⟩
  by_cases hd : f.zones[z].state = .delayed ∧ timerDone f.zones[z].delayRemaining = true
  · have hna : f.zones[z].state ≠ .alarm := by rw [hd.1]; decide
    cases hi : f.zones[z].input with
    | quiet => exact same (by simp only [delayExpiry, hd.1, hd.2, hi, and_self, if_true])
    | faulty =>
      exact keepsLaw_of_setZone (r := f.zones[z].faulted)
        (by simp only [delayExpiry, hd.1, hd.2, hi, and_self, if_true, changeZone]; rfl) h hl
        (by simp [-Fin.getElem_fin, hna, Zone.faulted]) rfl (by simp [Zone.faulted])
    | active =>
      have hg : delayExpiry z e ⟨f, []⟩ = alarmBatch e.now z .delayed .delayExpiry ⟨f, []⟩ := by
        simp only [delayExpiry, hd.1, hd.2, hi, and_self, if_true]
      unfold ZoneEvent.keepsLaw
      rw [hg]
      exact alarmBatch_lawful _ _ _ _ h.1 (fun y _ hy => (h.2 y hy).2.1) hna hl
  · exact same (by simp only [delayExpiry, hd, if_false])

theorem delayExpiry_localsAtRest {e : FireEnv} {f : Fire} (z : ZoneId) (h : f.localsAtRest) :
    (delayExpiry z e ⟨f, []⟩).1.val.localsAtRest := by
  by_cases hd : f.zones[z].state = .delayed ∧ timerDone f.zones[z].delayRemaining = true
  · have hz : 8 ≤ z.val := by
      by_contra hz
      rcases (h z (by omega)).2 with hs | hs <;> rw [hd.1] at hs <;> exact absurd hs (by decide)
    cases hi : f.zones[z].input <;> simp only [delayExpiry, hd.1, hd.2, hi, and_self, if_true]
    · exact h
    · exact alarmBatch_localsAtRest _ _ _ _ hz h
    · exact setZone_localsAtRest hz h
  · simpa only [delayExpiry, hd, if_false] using h

/-! ## Isolation and its end (R37, R39) -/

theorem restoreIsolated_cases (z : ZoneId) (e : FireEnv) (f : Fire) :
    (f.zones[z].input = .active ∧ restoreIsolated z e ⟨f, []⟩ = activeArrival e z .isolated .restore
        ⟨f.setZone z { f.zones[z] with state := .normal, activeWhileIsolated := false }, []⟩) ∨
      ∃ (q : Zone) (ms : List Mail), restoreIsolated z e ⟨f, []⟩ = (⟨f.setZone z q, ms⟩, []) ∧
        q.input = f.zones[z].input ∧ q.cls = f.zones[z].cls ∧ (q.state = .normal ∨ q.state = .fault) ∧
        (f.zones[z].input = .quiet → q.state = .normal) := by
  have hz : (f.setZone z { f.zones[z] with state := .normal, activeWhileIsolated := false }).zones[z] =
      { f.zones[z] with state := .normal, activeWhileIsolated := false } := by rw [Fire.setZone_zones, if_pos rfl]
  unfold restoreIsolated
  simp only [Act.map, hz, changeZone, enterFault, Fire.setZone_setZone]
  cases hi : f.zones[z].input
  case active => exact .inl ⟨rfl, rfl⟩
  all_goals
    refine .inr ⟨_, _, rfl, ?_⟩
    simp [-Fin.getElem_fin, Zone.flagged]

theorem restoreIsolated_keepsLaw {e : FireEnv} {f : Fire} {z : ZoneId} (hz : f.zones[z].state = .isolated)
    (h : f.zonesLawful e.showMode) (hl : f.ladderLawful) : (restoreIsolated z).keepsLaw e f := by
  have hna : f.zones[z].state ≠ .alarm := by rw [hz]; decide
  rcases restoreIsolated_cases z e f with ⟨hi, hg⟩ | ⟨q, ms, hg, -, hc, hs, -⟩
  · have hw := setZone_lawful (r := { f.zones[z] with state := .normal, activeWhileIsolated := false }) h hl
      (by simp [-Fin.getElem_fin, hna]) rfl (by simp)
    unfold ZoneEvent.keepsLaw
    rw [hg]
    exact activeArrival_lawful _ _ hw.1 hw.2 (by rw [Fire.setZone_zones, if_pos rfl]; simp)
      (by rw [Fire.setZone_zones, if_pos rfl]; exact hi)
  · refine keepsLaw_of_setZone hg h hl ?_ hc ?_ <;> rcases hs with hs | hs <;> simp [-Fin.getElem_fin, hs, hna]

theorem restoreIsolated_localsAtRest {e : FireEnv} {f : Fire} (z : ZoneId) (h : f.localsAtRest) :
    (restoreIsolated z e ⟨f, []⟩).1.val.localsAtRest := by
  by_cases hz : 8 ≤ z.val
  · rcases restoreIsolated_cases z e f with ⟨-, hg⟩ | ⟨q, ms, hg, -⟩ <;> rw [hg]
    · exact activeArrival_localsAtRest _ _ hz (setZone_localsAtRest hz h)
    · exact setZone_localsAtRest hz h
  · have hq := (h z (by omega)).1
    rcases restoreIsolated_cases z e f with ⟨hi, -⟩ | ⟨q, ms, hg, hi, -, -, hn⟩
    · rw [hq] at hi; exact absurd hi (by decide)
    · rw [hg]
      intro y hy
      rw [Fire.setZone_zones]
      split
      · exact ⟨hi.trans hq, .inl (hn hq)⟩
      · exact h y hy

/-! ## The panel link is lost (R43) -/

/-- One panel zone of the loss (R43). -/
def losePanelZone (w : Act Fire) (z : ZoneId) : Act Fire :=
  if w.val.zones[z].state = .normal then (changeZone z .normal .linkLoss (enterFault w.val z) w).1 else w

theorem panelLoss_eq (e : FireEnv) (w : Act Fire) :
    panelLoss e w =
      (panelZones.foldl losePanelZone (w.map fun f => panelZones.foldl (fun f z => recordInput z .faulty f) f), []) :=
  rfl

theorem losePanelZone_lawful {on : Bool} {w : Act Fire} (z : ZoneId)
    (h : w.val.zonesLawful on ∧ w.val.ladderLawful) :
    (losePanelZone w z).val.zonesLawful on ∧ (losePanelZone w z).val.ladderLawful := by
  unfold losePanelZone
  split
  · next hz => exact setZone_lawful h.1 h.2 (by simp [-Fin.getElem_fin, hz]) rfl (by simp)
  · exact h

theorem mem_panelZones {z : ZoneId} (h : z ∈ panelZones) : 8 ≤ z.val := by
  revert h; revert z; decide

theorem panelLoss_keepsLaw {e : FireEnv} {f : Fire} (h : f.zonesLawful e.showMode) (hl : f.ladderLawful) :
    panelLoss.keepsLaw e f := by
  have reads (zs : List ZoneId) (f : Fire) (h : f.zonesLawful e.showMode ∧ f.ladderLawful) :
      (zs.foldl (fun f z => recordInput z .faulty f) f).zonesLawful e.showMode ∧
        (zs.foldl (fun f z => recordInput z .faulty f) f).ladderLawful := by
    induction zs generalizing f with
    | nil => exact h
    | cons z zs ih =>
      refine ih _ (setZone_lawful h.1 h.2 Iff.rfl rfl fun hd => ?_)
      obtain ⟨h1, -, h3, h4⟩ := h.1.2 z hd
      exact ⟨h1, by simp, h3, h4⟩
  have loses (zs : List ZoneId) (w : Act Fire) (h : w.val.zonesLawful e.showMode ∧ w.val.ladderLawful) :
      (zs.foldl losePanelZone w).val.zonesLawful e.showMode ∧ (zs.foldl losePanelZone w).val.ladderLawful := by
    induction zs generalizing w with
    | nil => exact h
    | cons z zs ih => exact ih _ (losePanelZone_lawful z h)
  have hw := loses panelZones ((⟨f, []⟩ : Act Fire).map fun f => panelZones.foldl (fun f z => recordInput z .faulty f) f)
    (reads panelZones f ⟨h, hl⟩)
  exact ⟨hw.1, Fire.climbable_nil hw.2⟩

theorem panelLoss_localsAtRest {e : FireEnv} {f : Fire} (h : f.localsAtRest) :
    (panelLoss e ⟨f, []⟩).1.val.localsAtRest := by
  rw [panelLoss_eq]
  have reads (zs : List ZoneId) (hz : ∀ z ∈ zs, 8 ≤ z.val) (f : Fire) (h : f.localsAtRest) :
      (zs.foldl (fun f z => recordInput z .faulty f) f).localsAtRest := by
    induction zs generalizing f with
    | nil => exact h
    | cons z zs ih =>
      exact ih (fun y hy => hz y (.tail _ hy)) _ (setZone_localsAtRest (hz z List.mem_cons_self) h)
  have loses (zs : List ZoneId) (hz : ∀ z ∈ zs, 8 ≤ z.val) (w : Act Fire) (h : w.val.localsAtRest) :
      (zs.foldl losePanelZone w).val.localsAtRest := by
    induction zs generalizing w with
    | nil => exact h
    | cons z zs ih =>
      refine ih (fun y hy => hz y (.tail _ hy)) _ ?_
      unfold losePanelZone
      split
      · exact setZone_localsAtRest (hz z List.mem_cons_self) h
      · exact h
  exact loses panelZones (fun _ hz => mem_panelZones hz)
    ((⟨f, []⟩ : Act Fire).map fun f => panelZones.foldl (fun f z => recordInput z .faulty f) f)
    (reads panelZones (fun _ hz => mem_panelZones hz) f h)

/-! ## A zone leaves ALARM by a reset (R35, R36) -/

theorem leaveAlarm_lawful {e : FireEnv} {f : Fire} {z : ZoneId} (hz : f.zones[z].state = .alarm)
    (hi : f.zones[z].input ≠ .active) (h : f.zonesLawful e.showMode) (hl : f.ladderLawful) :
    (leaveAlarm z e ⟨f, []⟩).1.val.zonesLawful e.showMode ∧ (leaveAlarm z e ⟨f, []⟩).1.val.ladderLawful := by
  obtain ⟨⟨hn, hm⟩, hd⟩ := h
  have hmem : z ∈ f.alarmList := (hm z).mpr hz
  have leaves (q : Zone) (hq : q.state = .normal ∨ q.state = .fault) (out : List Mail)
      (hg : leaveAlarm z e ⟨f, []⟩ = (⟨({ f with alarmList := f.alarmList.erase z } : Fire).setZone z q, out⟩, [])) :
      (leaveAlarm z e ⟨f, []⟩).1.val.zonesLawful e.showMode ∧ (leaveAlarm z e ⟨f, []⟩).1.val.ladderLawful := by
    rw [hg]
    have hna : q.state ≠ .alarm ∧ q.state ≠ .delayed := by rcases hq with hq | hq <;> simp [hq]
    have hsub : ∀ y ∈ f.alarmList.erase z, y ∈ f.alarmList ∧ y ≠ z := fun y hy => by
      rw [hn.mem_erase_iff] at hy; exact ⟨hy.2, hy.1⟩
    refine ⟨⟨⟨hn.erase z, fun y => ?_⟩, fun y hy => ?_⟩, fun hc => ⟨?_, fun y hy => ?_⟩, fun hc => ?_⟩
    · rw [Fire.setZone_alarmList, Fire.setZone_zones, hn.mem_erase_iff]
      split
      · next e => simp [e, hna.1]
      · next e => simp only [ne_eq, e, not_false_iff, true_and]; exact hm y
    · rw [Fire.setZone_zones] at hy
      split at hy
      · exact absurd hy hna.2
      · rw [(hd y hy).2.2.2] at hmem
        simp at hmem
    · exact (List.length_erase_le ..).trans (hl.1 hc).1
    · obtain ⟨hy1, hy2⟩ := hsub y hy
      rw [Fire.setZone_zones, if_neg hy2]
      exact (hl.1 hc).2 y hy1
    · have hnil : f.alarmList = [] := hl.2 hc
      simp [hnil] at hmem
  cases hr : f.zones[z].input with
  | active => exact absurd hr hi
  | quiet => exact leaves _ (.inl rfl) _ (by unfold leaveAlarm; simp only [hr]; rfl)
  | faulty => exact leaves _ (.inr rfl) _ (by unfold leaveAlarm; simp only [hr]; rfl)

theorem leaveAlarm_localsAtRest {e : FireEnv} {f : Fire} {z : ZoneId} (hz : f.zones[z].state = .alarm)
    (h : f.localsAtRest) : (leaveAlarm z e ⟨f, []⟩).1.val.localsAtRest := by
  have hp : 8 ≤ z.val := by
    by_contra hp
    rcases (h z (by omega)).2 with hs | hs <;> rw [hz] at hs <;> exact absurd hs (by decide)
  unfold leaveAlarm
  dsimp only
  split
  · exact setZone_localsAtRest hp h
  · exact setZone_localsAtRest hp h
  · exact h

/-! ## The promotion of show mode turning off (R33) -/

/-- The promotion ends every delay, whatever show mode is afterwards. -/
theorem promoteAll_lawful {on on' : Bool} {e : FireEnv} {f : Fire} (h : f.zonesLawful on) (hl : f.ladderLawful) :
    (promoteAll e ⟨f, []⟩).1.val.zonesLawful on' ∧
      (promoteAll e ⟨f, []⟩).1.val.climbable (promoteAll e ⟨f, []⟩).2 := by
  rw [promoteAll_apply]
  refine ⟨⟨promoteZones_listLawful h.1, (promoteZones_noneDelayed fun y hy => (h.2 y hy).2.1).delaysLawful on'⟩, ?_, ?_⟩
  · intro hnil
    have hnil : f.delayedWith .active = [] := hnil
    refine ⟨fun hc => ?_, fun hc => ?_⟩
    · rw [promoteZones_condition] at hc
      rw [promoteZones_alarmList, hnil, List.append_nil]
      exact ⟨(hl.1 hc).1, fun y hy => by rw [promoteZones_cls]; exact (hl.1 hc).2 y hy⟩
    · rw [promoteZones_condition] at hc
      rw [promoteZones_alarmList, hnil, List.append_nil]
      exact hl.2 hc
  · intro _ hc y hy hy'
    rw [promoteZones_condition] at hc
    rw [promoteZones_alarmList, List.mem_append] at hy
    rw [promoteZones_cls]
    exact (hl.1 hc).2 y (hy.resolve_right hy')

end Sys2Proof.Machine
end

section
/-! SUPPORT. The law of the alarm list, the delays, the ladder, the house record and the start-up (R1, R22, R27, R31, R36,
R47, R185) as one property of a state: what it depends on, and that a change of the fire condition, an event at the zones
and a change of the house record keep it. -/
namespace Sys2Proof.Machine

/-- The law that every step keeps of the zones, the ladder, the house record and the start-up. -/
def State.ladderLaw (s : State) : Prop := s.fireLawful ∧ s.houseLawful ∧ s.startUpLawful

/-! ## What the law depends on -/

/-- The law of a house condition record (R1, R22). -/
def House.lawful (h : House) : Prop :=
  (h.stop.isSome = true ↔ h.phase = .stopped) ∧ (∀ r ∈ h.stop, r.origin.stoppable = true) ∧
    (h.showMode = true → h.phase = .act ∨ h.phase = .interval)

theorem houseLawful_iff (s : State) : s.houseLawful ↔ s.house.lawful := Iff.rfl

/-- No line has a settled state or a candidate. -/
def State.linesBare (s : State) : Prop := ∀ l : Line, s.lines[l].settled = none ∧ s.lines[l].candidate = none

theorem startUpLawful_iff (s : State) :
    s.startUpLawful ↔ (s.startUp.isSome = true → s.linesBare ∧ s.fire.localsAtRest) := Iff.rfl

theorem House.lawful.congr {h k : House} (hl : h.lawful) (hp : k.phase = h.phase) (hs : k.stop = h.stop)
    (hm : k.showMode = h.showMode) : k.lawful := by
  unfold House.lawful
  rw [hp, hs, hm]
  exact hl

/-- The law looks at the fire record, the start-up, the lines, and three fields of the house record. -/
theorem State.ladderLaw.congr {s t : State} (h : s.ladderLaw) (hf : t.fire = s.fire)
    (hp : t.house.phase = s.house.phase) (hs : t.house.stop = s.house.stop)
    (hm : t.house.showMode = s.house.showMode) (hu : t.startUp = s.startUp) (hl : t.lines = s.lines) :
    t.ladderLaw := by
  obtain ⟨⟨h1, h2, h3⟩, h4, h5⟩ := h
  refine ⟨⟨hf ▸ h1, ?_, hf ▸ h3⟩, House.lawful.congr h4 hp hs hm, ?_⟩
  · rw [delayLawful_iff, hf, hm]; exact h2
  · rw [startUpLawful_iff, State.linesBare, hu, hl, hf]; exact h5

/-- What a block of the part that is neither the Fire Monitor nor the Performance Unit does keeps the law. -/
theorem State.ladderLaw.of_quietly {s t : State} (h : s.ladderLaw) (hq : Quietly s t) (hf : t.fire = s.fire)
    (hh : t.house = s.house) : t.ladderLaw :=
  h.congr hf (by rw [hh]) (by rw [hh]) (by rw [hh]) hq.1.1.2.2.1 hq.1.2

theorem demoBookkeeping_lawful_fields (old new : CurtainState) (calm : Bool) (h : House) :
    (demoBookkeeping old new calm h).phase = h.phase ∧ (demoBookkeeping old new calm h).stop = h.stop ∧
      (demoBookkeeping old new calm h).showMode = h.showMode := by
  unfold demoBookkeeping; split_ifs <;> exact ⟨rfl, rfl, rfl⟩

theorem State.ladderLaw.onCurtain {s : State} (h : s.ladderLaw) (f : CurtainEnv → Act Curtain → Act Curtain) :
    (s.onCurtain f).ladderLaw := by
  obtain ⟨hp, hs, hm⟩ := demoBookkeeping_lawful_fields s.curtain.state (f s.curtainEnv ⟨s.curtain, []⟩).val.state
    (s.fire.condition == .quiet) s.house
  exact h.congr rfl hp hs hm rfl rfl

theorem State.ladderLaw.onCalls {s : State} (h : s.ladderLaw) (f : CallEnv → Act Calls → Act Calls) :
    (s.onCalls f).ladderLaw := h.congr rfl rfl rfl rfl rfl rfl

theorem State.ladderLaw.onLights {s : State} (h : s.ladderLaw) (f : LightEnv → Act Lights → Act Lights) :
    (s.onLights f).ladderLaw := h.congr rfl rfl rfl rfl rfl rfl

theorem State.ladderLaw.setPort {s : State} (h : s.ladderLaw) (p : Port) (r : PortRecord) :
    (s.setPort p r).ladderLaw := h.congr rfl rfl rfl rfl rfl rfl

theorem State.ladderLaw.post {s : State} (h : s.ladderLaw) (ms : List Mail) : (s.post ms).ladderLaw :=
  h.congr rfl rfl rfl rfl rfl rfl

/-! ## A change of condition and the climb of the ladder (R47, R57) -/

theorem House.lawful.evacuated {h : House} (hl : h.lawful) : h.evacuated.lawful := by
  obtain ⟨h1, h2, h3⟩ := hl
  unfold House.evacuated
  split
  · next hp => exact ⟨by simp [House.stopped], by simpa [House.stopped] using hp, by simp [House.stopped]⟩
  · refine ⟨?_, ?_, by simp⟩
    · dsimp only
      split <;> simp_all
    · dsimp only
      split
      · intro r hr
        obtain ⟨q, hq, rfl⟩ := Option.map_eq_some_iff.mp hr
        exact h2 q hq
      · exact h2

theorem withCondition_zonesLawful {on : Bool} {f : Fire} (now period : Nat) (new : Condition) (cause : FireCause)
    (h : f.zonesLawful on) : (f.withCondition now period new cause).zonesLawful on := h

/-- A change of condition keeps the law where the new condition is one that the list allows (R47). -/
theorem changeCondition_ladderLaw {new : Condition} {cause : FireCause} {s : State}
    (hz : s.fire.zonesLawful s.house.showMode) (hh : s.houseLawful) (hu : s.startUpLawful)
    (hl : new ≠ .evacuate → s.fire.alarmList.length ≤ 1 ∧ ∀ z ∈ s.fire.alarmList, s.fire.zones[z].cls = .detector)
    (hq : new = .quiet → s.fire.alarmList = []) : (changeCondition new cause s).ladderLaw := by
  have hbase := (quietly_changeCondition new cause s).1
  have hf := (changeCondition_fire new cause s).trans (conditionRecorded_fire new cause s)
  have hhouse := changeCondition_house new cause s
  generalize changeCondition new cause s = t at *
  have hrest (hr : s.fire.localsAtRest → t.fire.localsAtRest) : t.startUpLawful := by
    rw [startUpLawful_iff, State.linesBare, hbase.1.2.2.1, hbase.2]
    exact fun hs => ⟨(hu hs).1, hr (hu hs).2⟩
  by_cases he : new = .evacuate
  · subst he
    have hhl : t.houseLawful := by rw [houseLawful_iff, hhouse, if_pos rfl]; exact House.lawful.evacuated hh
    by_cases hm : s.house.showMode = true
    · rw [if_pos ⟨rfl, hm⟩] at hf
      have hw := withCondition_zonesLawful s.clock s.params.investigation .evacuate cause hz
      refine ⟨⟨?_, ?_, ?_⟩, hhl, hrest fun h => by rw [hf]; exact promoteZones_localsAtRest h⟩
      · rw [hf]; exact promoteZones_listLawful hw.1
      · rw [delayLawful_iff, hf]
        exact (promoteZones_noneDelayed fun y hy => (hw.2 y hy).2.1).delaysLawful _
      · rw [hf]
        have hc : (promoteZones s.clock (s.fire.withCondition s.clock s.params.investigation .evacuate cause)).condition =
            .evacuate := promoteZones_condition _ _
        exact ⟨fun h => absurd hc h, fun h => by rw [hc] at h; exact absurd h (by decide)⟩
    · rw [if_neg (fun h => hm h.2)] at hf
      refine ⟨⟨hf ▸ hz.1, ?_, ?_⟩, hhl, hrest fun h => hf ▸ h⟩
      · rw [delayLawful_iff, hf]
        exact Fire.noneDelayed.delaysLawful (fun z hd => hm (hz.2 z hd).2.2.1) _
      · rw [hf]; exact ⟨fun h => absurd rfl h, fun h => absurd h (show Condition.evacuate ≠ .quiet by decide)⟩
  · rw [if_neg (fun h => he h.1)] at hf
    rw [if_neg he] at hhouse
    refine ⟨⟨hf ▸ hz.1, ?_, ?_⟩, ?_, hrest fun h => hf ▸ h⟩
    · rw [delayLawful_iff, hf, hhouse]; exact hz.2
    · rw [hf]; exact ⟨fun _ => hl he, hq⟩
    · rw [houseLawful_iff, hhouse]; exact hh

/-- The FIRE demand counts for nothing in the law. -/
theorem State.ladderLaw.evaluateDemand {s : State} (h : s.ladderLaw) : (evaluateDemand s).ladderLaw := by
  have hb := (quietly_evaluateDemand s).1
  have hf := evaluateDemand_fire s
  have hh := evaluateDemand_house s
  generalize Sys2Proof.Machine.evaluateDemand s = t at *
  have hs : ({ s with fire := { s.fire with demand := s.fire.demandFor s.fire.condition } } : State).ladderLaw := h
  exact hs.congr hf (by rw [hh]) (by rw [hh]) (by rw [hh]) hb.1.2.2.1 hb.2

/-- A climb after zones have entered ALARM brings the condition to that of the list (R47). -/
theorem climbLadder_ladderLaw {entering : List ZoneId} {s : State} (hne : entering ≠ [])
    (hz : s.fire.zonesLawful s.house.showMode) (hc : s.fire.climbable entering) (hh : s.houseLawful)
    (hu : s.startUpLawful) : (climbLadder entering s).ladderLaw := by
  rcases climbLadder_cases entering s with ⟨he, k⟩ | ⟨-, cause, k⟩ | ⟨hq, hp, hs, hn, k⟩ <;> rw [k]
  · have h : s.ladderLaw := ⟨⟨hz.1, hz.2, fun h => absurd he h, fun h => by rw [he] at h; exact absurd h (by decide)⟩, hh, hu⟩
    exact h.evaluateDemand
  · exact changeCondition_ladderLaw hz hh hu (fun h => absurd rfl h) (fun h => absurd h (by decide))
  · refine changeCondition_ladderLaw hz hh hu (fun _ => ⟨by omega, fun z hz => ?_⟩) (fun h => absurd h (by decide))
    by_cases hm : z ∈ entering
    · simp only [Fire.hasClass, List.any_eq_false] at hp hs
      have h1 := hp z hm
      have h2 := hs z hm
      cases hcls : s.fire.zones[z].cls with
      | detector => rfl
      | callPoint => rw [hcls] at h1; exact absurd rfl h1
      | suppression => rw [hcls] at h2; exact absurd rfl h2
    · exact hc.2 hne (by rw [hq]; decide) z hz hm

/-- An event at the zones keeps the law when the zone table it leaves can be climbed from. -/
theorem zoneEvent_ladderLaw {g : ZoneEvent} {s : State} (hz : (s.onZones g).1.fire.zonesLawful s.house.showMode)
    (hc : (s.onZones g).1.fire.climbable (s.onZones g).2) (hh : s.houseLawful)
    (hu : s.startUp.isSome = true → s.linesBare ∧ (s.onZones g).1.fire.localsAtRest) : (zoneEvent g s).ladderLaw := by
  rcases zoneEvent_cases g s with ⟨hn, k⟩ | ⟨hn, k⟩ <;> rw [k]
  · exact ⟨⟨hz.1, hz.2, hc.1 hn⟩, hh, hu⟩
  · exact climbLadder_ladderLaw hn hz hc hh hu

/-- An event at the zones that keeps the laws of the fire record keeps the law of the state. -/
theorem State.ladderLaw.zoneEvent {g : ZoneEvent} {s : State} (h : s.ladderLaw) (hg : g.keepsLaw s.fireEnv s.fire)
    (hr : s.startUp.isSome = true → s.fire.localsAtRest → (g s.fireEnv ⟨s.fire, []⟩).1.val.localsAtRest) :
    (zoneEvent g s).ladderLaw :=
  zoneEvent_ladderLaw hg.1 hg.2 h.2.1 fun hs => ⟨(h.2.2 hs).1, hr hs (h.2.2 hs).2⟩

theorem State.ladderLaw.zones {s : State} (h : s.ladderLaw) :
    s.fire.zonesLawful s.fireEnv.showMode ∧ s.fire.ladderLawful := ⟨⟨h.1.1, h.1.2.1⟩, h.1.2.2⟩

/-! ## A change of the house record -/

/-- Show mode turns off: the zones that stand DELAYED are promoted, and the ladder climbed (R33). -/
theorem showModeOff_ladderLaw {s : State} (hz : s.fire.zonesLawful true) (hl : s.fire.ladderLawful)
    (hh : s.houseLawful) (hu : s.startUpLawful) : (showModeOff s).ladderLaw := by
  have hp := promoteAll_lawful (on' := s.house.showMode) (e := s.fireEnv) hz hl
  exact zoneEvent_ladderLaw hp.1 hp.2 hh fun hs => ⟨(hu hs).1, promoteZones_localsAtRest (hu hs).2⟩

/-- A change of the house record keeps the law where the record it writes is lawful. -/
theorem completeChange_ladderLaw {old : House} {cause : ClearanceCause} {s : State}
    (hz : s.fire.zonesLawful old.showMode) (hl : s.fire.ladderLawful) (hh : s.houseLawful) (hu : s.startUpLawful) :
    (completeChange old cause showModeOff s).ladderLaw := by
  obtain ⟨h1, h2, -⟩ := handRecord_others old cause s
  have hb := (quietly_handRecord old cause s).1
  have hus (t : State) (hq : Quietly s t) (hf : t.fire = s.fire) : t.startUpLawful := by
    rw [startUpLawful_iff, State.linesBare, hq.1.1.2.2.1, hq.1.2, hf]; exact hu
  by_cases hm : old.showMode = s.house.showMode ∨ s.house.showMode = true
  · have hd : s.fire.delaysLawful s.house.showMode := by
      rcases hm with hm | hm
      · exact hm ▸ hz.2
      · exact fun z hd => ⟨(hz.2 z hd).1, (hz.2 z hd).2.1, hm, (hz.2 z hd).2.2.2⟩
    have hs : s.ladderLaw := ⟨⟨hz.1, hd, hl⟩, hh, hu⟩
    have hq := (quietly_handRecord old cause s).trans
      (quietly_handShowMode_calm (handOff := showModeOff) (.inr (by rw [h1]; exact hm)))
    have hc := handShowMode_calm (handOff := showModeOff) (old := old) (s := handRecord old cause s)
      (.inr (by rw [h1]; exact hm))
    rw [completeChange_eq]
    exact hs.of_quietly hq (by rw [hc]; exact h2) (by rw [hc]; exact h1)
  · obtain ⟨hm1, hm2⟩ := not_or.mp hm
    have ho : old.showMode = true := by
      cases h : old.showMode <;> simp_all
    rw [ho] at hz
    have hq := (quietly_handRecord old cause s).trans
      (quietly_post [⟨[.prompt, .house], .showMode (handRecord old cause s).house.showMode⟩] (handRecord old cause s))
    have he : completeChange old cause showModeOff s =
        showModeOff ((handRecord old cause s).post
          [⟨[.prompt, .house], .showMode (handRecord old cause s).house.showMode⟩]) := by
      rw [completeChange_eq]
      unfold handShowMode
      dsimp only
      rw [if_neg (by rw [h1]; exact hm1), if_neg (by rw [State.post_house, h1]; exact hm2)]
    rw [he]
    refine showModeOff_ladderLaw ?_ ?_ ?_ (hus _ hq h2)
    · rw [State.post_fire, h2]; exact hz
    · rw [State.post_fire, h2]; exact hl
    · rw [houseLawful_iff, State.post_house, h1]; exact hh

theorem State.ladderLaw.changeHouse {s : State} (h : s.ladderLaw) (cause : ClearanceCause) {new : House}
    (hn : new.lawful) : (changeHouse cause new s).ladderLaw :=
  completeChange_ladderLaw (s := { s with house := new }) h.zones.1 h.zones.2 hn h.2.2

end Sys2Proof.Machine
end

section
/-! The law of the alarm list, the delays, the ladder, the house record and the start-up, kept by every command (R1, R22,
R27, R31, R36, R47, R185): the blocks of the requests, the events, power-on and the baselines. -/
namespace Sys2Proof.Machine

/-! ## Requests -/

/-- A request keeps the law where its block does. -/
theorem takeRequest_ladderLaw {p : Port} {i : Instr} {block : State → State × Answer} {s t : State}
    (h : s.ladderLaw) (hb : (block s).1.ladderLaw) (ht : takeRequest p i block s = .next t) : t.ladderLaw := by
  rcases takeRequest_cases p i block s with ⟨-, k⟩ | ⟨-, -, k⟩ | ⟨-, -, -, k⟩ | ⟨-, -, -, -, k⟩ | ⟨-, -, -, -, k⟩ <;>
    rw [k] at ht <;> cases ht
  · exact h
  · exact h.setPort _ _
  · exact h.setPort _ _
  · exact h.setPort _ _
  · exact hb.setPort _ _

theorem inPhase_ladderLaw {accepted : Bool} {block : State → State × Answer} {s : State} (h : s.ladderLaw)
    (hb : accepted = true → (block s).1.ladderLaw) : (inPhase accepted block s).1.ladderLaw := by
  unfold inPhase
  split
  · next ha => exact hb ha
  · exact h

theorem interlocked_ladderLaw {failed : List Interlock} {block : State → State × Answer} {s : State} (h : s.ladderLaw)
    (hb : (block s).1.ladderLaw) : (interlocked failed block s).1.ladderLaw := by
  unfold interlocked; split
  · exact hb
  · exact h

theorem withAuthority_ladderLaw {p : Port} {block : State → State × Answer} {s : State} (h : s.ladderLaw)
    (hb : (block s).1.ladderLaw) : (withAuthority p block s).1.ladderLaw := by
  unfold withAuthority; split
  · exact hb
  · exact h

theorem report_ladderLaw {b : Option Body} {s : State} (h : s.ladderLaw) : (report b s).1.ladderLaw := by
  unfold report; split <;> exact h

theorem onZone_ladderLaw {zone : Byte} {allowed : ZoneId → Bool} {block : ZoneId → State → State × Answer} {s : State}
    (h : s.ladderLaw) (hb : ∀ z, (block z s).1.ladderLaw) : (onZone zone allowed block s).1.ladderLaw := by
  unfold onZone
  split
  · split
    · exact hb _
    · exact h
  · exact h

theorem configure_ladderLaw {write : Option (State → State × Answer)} {s : State} (h : s.ladderLaw)
    (hw : ∀ f, write = some f → (f s).1.ladderLaw) : (configure write s).1.ladderLaw := by
  unfold configure
  split
  · split
    · next f => exact hw f rfl
    · exact h
  · exact h

/-! ### The Performance Unit -/

theorem House.lawful.stop_none {h : House} (hl : h.lawful) (hp : h.phase ≠ .stopped) : h.stop = none := by
  cases hs : h.stop with
  | none => rfl
  | some r => exact absurd (hl.1.mp (by simp [hs])) hp

theorem House.lawful.showMode_off {h : House} (hl : h.lawful) (hp : h.phase ≠ .act ∧ h.phase ≠ .interval) :
    h.showMode = false := by
  cases hm : h.showMode with
  | false => rfl
  | true => exact absurd (hl.2.2 hm) (by tauto)

/-- A record with the phase changed between two phases other than STOPPED is lawful, with show mode as allowed. -/
theorem House.lawful.move {h k : House} (hl : h.lawful) (hp : h.phase ≠ .stopped) (hk : k.phase ≠ .stopped)
    (hs : k.stop = h.stop) (hm : k.showMode = true → k.phase = .act ∨ k.phase = .interval) : k.lawful := by
  have hn := hl.stop_none hp
  refine ⟨by simp [hs, hn, hk], by simp [hs, hn], hm⟩

/-- A record whose phase, stop record and show mode stay is lawful as before. -/
theorem House.lawful.keep {h k : House} (hl : h.lawful) (hp : k.phase = h.phase) (hs : k.stop = h.stop)
    (hm : k.showMode = h.showMode) : k.lawful := hl.congr hp hs hm

theorem enterDark_ladderLaw {s : State} (h : s.ladderLaw) (hp : s.house.phase ≠ .stopped) : (enterDark s).ladderLaw := by
  unfold enterDark
  exact completeChange_ladderLaw (s := ({ s with house := s.house.darkened } : State).onCalls darkCancelAct)
    h.zones.1 h.zones.2 (House.lawful.move h.2.1 hp (by simp [House.darkened]) rfl (by simp [House.darkened])) h.2.2

theorem vmap_clearSuppressed_lawful {s : State} (h : s.ladderLaw) :
    ({ s with fire := s.fire.clearSuppressed } : State).ladderLaw := by
  have hz (z : ZoneId) : s.fire.clearSuppressed.zones[z] = { s.fire.zones[z] with suppressed := 0 } :=
    vmap_get _ _ z
  obtain ⟨⟨⟨h1, h2⟩, h3, h4⟩, h5, h6⟩ := h
  refine ⟨⟨⟨h1, fun z => ?_⟩, fun z => ?_, fun hc => ⟨(h4.1 hc).1, fun z hm => ?_⟩, h4.2⟩, h5, fun hs => ⟨(h6 hs).1, fun z hl => ?_⟩⟩
  · rw [hz]; exact h2 z
  · dsimp only; rw [hz]; exact h3 z
  · rw [hz]; exact (h4.1 hc).2 z hm
  · dsimp only; rw [hz]; exact (h6 hs).2 z hl

theorem openPerformance_ladderLaw {s : State} (h : s.ladderLaw) : (openPerformanceBlock s).1.ladderLaw :=
  inPhase_ladderLaw h fun _ => (vmap_clearSuppressed_lawful h).changeHouse _
    ⟨by simp [House.opened], by simp [House.opened], by simp [House.opened]⟩

theorem configurationComplete_ladderLaw {s : State} (h : s.ladderLaw) : (configurationCompleteBlock s).1.ladderLaw :=
  inPhase_ladderLaw h fun hp => by
    have hp : s.house.phase = .unconfigured := by simpa using hp
    have hm := House.lawful.showMode_off h.2.1 (by rw [hp]; decide)
    exact h.changeHouse _ (House.lawful.move h.2.1 (by rw [hp]; decide) (by simp) rfl (by simp [hm]))

theorem openHouse_ladderLaw {s : State} (h : s.ladderLaw) : (openHouseBlock s).1.ladderLaw :=
  inPhase_ladderLaw h fun hp => interlocked_ladderLaw h (by
    have hp : s.house.phase = .preset := by simpa using hp
    have hm := House.lawful.showMode_off h.2.1 (by rw [hp]; decide)
    exact h.changeHouse _
      (House.lawful.move h.2.1 (by rw [hp]; decide) (by simp [House.openedHouse]) rfl (by simp [House.openedHouse, hm])))

theorem goAct_ladderLaw {s : State} (h : s.ladderLaw) : (goActBlock s).1.ladderLaw :=
  inPhase_ladderLaw h fun hp => interlocked_ladderLaw h (by
    have hp : s.house.phase = .houseOpen ∨ s.house.phase = .interval := by simpa using hp
    exact h.changeHouse _ (House.lawful.move h.2.1 (by rcases hp with hp | hp <;> rw [hp] <;> decide)
      (by simp [House.actBegun]) rfl (by simp [House.actBegun])))

theorem endAct_ladderLaw {s : State} (final : Bool) (h : s.ladderLaw) : (endActBlock final s).1.ladderLaw :=
  inPhase_ladderLaw h fun hp => by
    have hp : s.house.phase ≠ .stopped := by
      have : s.house.phase = .act := by simpa using hp
      rw [this]; decide
    split
    · exact h.changeHouse _ (House.lawful.move h.2.1 hp (by simp [House.closedByAct]) rfl (by simp [House.closedByAct]))
    · split
      · exact h
      · exact h.changeHouse _
          (House.lawful.move h.2.1 hp (by simp [House.intervalBegun]) rfl (by simp [House.intervalBegun]))

theorem showStop_ladderLaw {s : State} (h : s.ladderLaw) : (showStopBlock s).1.ladderLaw :=
  inPhase_ladderLaw h fun hp => h.changeHouse _
    ⟨by simp [House.stopped], by simpa [House.stopped] using hp, by simp [House.stopped]⟩

theorem resume_ladderLaw {s : State} (h : s.ladderLaw) : (resumeBlock s).1.ladderLaw := by
  unfold resumeBlock
  split
  · next r hp hs =>
    have hm := House.lawful.showMode_off h.2.1 (by rw [hp]; decide)
    split
    · exact interlocked_ladderLaw h (h.changeHouse _
        ⟨by simp [House.resumedAct], by simp [House.resumedAct], by simp [House.resumedAct]⟩)
    · have hr : r.origin.stoppable = true := h.2.1.2.1 r hs
      have hns : r.origin ≠ .stopped := by intro e; rw [e] at hr; exact absurd hr (by decide)
      exact interlocked_ladderLaw h (h.changeHouse _
        ⟨by simp [House.resumed, hns], by simp [House.resumed], by simp [House.resumed, hm]⟩)
  · exact h

theorem endPerformance_ladderLaw {s : State} (h : s.ladderLaw) : (endPerformanceBlock s).1.ladderLaw :=
  inPhase_ladderLaw h fun hp => by
    have hp : s.house.phase = .stopped := by simpa using hp
    have hm := House.lawful.showMode_off h.2.1 (by rw [hp]; decide)
    exact h.changeHouse _ ⟨by simp [House.ended], by simp [House.ended], by simp [House.ended, hm]⟩

theorem giveClearance_ladderLaw {s : State} (h : s.ladderLaw) : (giveClearanceBlock s).1.ladderLaw :=
  inPhase_ladderLaw h fun _ => h.changeHouse _ (House.lawful.keep h.2.1 rfl rfl rfl)

theorem setPlannedUp_ladderLaw {s : State} (n : Nat) (h : s.ladderLaw) : (setPlannedUpBlock n s).1.ladderLaw :=
  inPhase_ladderLaw h fun _ => h.changeHouse _ (House.lawful.keep h.2.1 rfl rfl rfl)

theorem delayUp_ladderLaw {s : State} (n : Nat) (h : s.ladderLaw) : (delayUpBlock n s).1.ladderLaw :=
  inPhase_ladderLaw h fun _ => by
    dsimp only
    split
    · exact h
    · exact h.changeHouse _ (House.lawful.keep h.2.1 rfl rfl rfl)

theorem extendInterval_ladderLaw {s : State} (n : Nat) (h : s.ladderLaw) : (extendIntervalBlock n s).1.ladderLaw :=
  inPhase_ladderLaw h fun _ => h.changeHouse _ (House.lawful.keep h.2.1 rfl rfl rfl)

theorem showMode_ladderLaw {s : State} (on : Bool) (h : s.ladderLaw) : (showModeBlock on s).1.ladderLaw :=
  inPhase_ladderLaw h fun hp => by
    have hp : s.house.phase = .act ∨ s.house.phase = .interval := by simpa using hp
    exact h.changeHouse _ ⟨h.2.1.1, h.2.1.2.1, fun _ => hp⟩

theorem closePerformance_ladderLaw {s : State} (h : s.ladderLaw) : (closePerformanceBlock s).1.ladderLaw :=
  inPhase_ladderLaw h fun hp => enterDark_ladderLaw h (by
    have hp : s.house.phase = .preset := by simpa using hp
    rw [hp]; decide)

theorem houseClosed_ladderLaw {s : State} (h : s.ladderLaw) : (houseClosedBlock s).1.ladderLaw :=
  inPhase_ladderLaw h fun hp => enterDark_ladderLaw h (by
    have hp : s.house.phase = .emptying := by simpa using hp
    rw [hp]; decide)

/-! ### The Fire Monitor -/

theorem reportPairs_panel {pairs : List (Byte × Byte)} {ps : List (ZoneId × Reading)} (h : reportPairs pairs = some ps) :
    ∀ p ∈ ps, 8 ≤ p.1.val := by
  induction pairs generalizing ps with
  | nil => cases h; simp
  | cons q rest ih =>
    unfold reportPairs at h
    split at h
    · next z r qs _ _ hq =>
      split at h
      · cases h
      · next hl =>
        cases h
        intro p hp
        rcases List.mem_cons.mp hp with rfl | hp
        · simpa [isLocal] using hl
        · exact ih hq p hp
    · cases h

theorem zoneReport_ladderLaw {s : State} (pairs : List (Byte × Byte)) (h : s.ladderLaw) :
    (zoneReportBlock pairs s).1.ladderLaw := by
  unfold zoneReportBlock
  split
  · exact h
  · next ps hps =>
    have hp := reportPairs_panel hps
    clear hps
    dsimp only
    induction ps generalizing s with
    | nil => exact h
    | cons q qs ih =>
      exact ih (h.zoneEvent (zoneArrival_keepsLaw q.1 q.2 h.zones.1 h.zones.2)
        fun _ hr => zoneArrival_localsAtRest q.2 (hp q List.mem_cons_self) hr) fun x hx => hp x (.tail _ hx)

theorem resetZoneBlock_ladderLaw {s : State} (z : ZoneId) (h : s.ladderLaw) : (resetZoneBlock z s).1.ladderLaw := by
  unfold resetZoneBlock
  dsimp only
  split
  · next hz =>
    split
    · exact h
    · next hi =>
      have hl := leaveAlarm_lawful (e := s.fireEnv) hz hi h.zones.1 h.zones.2
      have hs : (s.onZones (leaveAlarm z)).1.ladderLaw := ⟨⟨hl.1.1, hl.1.2, hl.2⟩, h.2.1, fun hs =>
        ⟨(h.2.2 hs).1, leaveAlarm_localsAtRest hz (h.2.2 hs).2⟩⟩
      exact hs.evaluateDemand
  · exact h

theorem isolateBlock_ladderLaw {s : State} (z : ZoneId) (h : s.ladderLaw) : (isolateBlock z s).1.ladderLaw := by
  have isolates (x : ZoneState) (hx : s.fire.zones[z].state = x) (hxa : x ≠ .alarm) :
      (zoneEvent (fun _ w => changeZone z x .isolate (w.val.setZone z { s.fire.zones[z] with
        state := .isolated, activeWhileIsolated := s.fire.zones[z].input == .active }) w) s).ladderLaw := by
    refine h.zoneEvent (keepsLaw_of_setZone rfl h.zones.1 h.zones.2 ?_ rfl (by simp)) fun _ hr y hy => ?_
    · rw [hx]; simp [hxa]
    · show _ ∧ _
      simp only [changeZone]
      rw [Fire.setZone_zones]
      split
      · next e => exact ⟨(hr z (e ▸ hy)).1, .inr rfl⟩
      · exact hr y hy
  unfold isolateBlock
  dsimp only
  cases hx : s.fire.zones[z].state
  case normal => exact isolates _ hx (by decide)
  case fault => exact isolates _ hx (by decide)
  all_goals exact h

theorem restoreZoneBlock_ladderLaw {s : State} (z : ZoneId) (h : s.ladderLaw) : (restoreZoneBlock z s).1.ladderLaw := by
  unfold restoreZoneBlock
  split
  · next hz =>
    exact h.zoneEvent (restoreIsolated_keepsLaw hz h.zones.1 h.zones.2) fun _ hr => restoreIsolated_localsAtRest z hr
  · exact h

theorem acknowledged_fields (k : Desk) (r : Zone) :
    (r.acknowledged k).state = r.state ∧ (r.acknowledged k).input = r.input ∧ (r.acknowledged k).cls = r.cls ∧
      (r.acknowledged k).delayRemaining = r.delayRemaining := by
  cases k <;> exact ⟨rfl, rfl, rfl, rfl⟩

/-- Zone records whose states, inputs, classes and delays stay keep the law. -/
theorem State.ladderLaw.rezone {s : State} (h : s.ladderLaw) {zs : Vector Zone 32}
    (hz : ∀ z : ZoneId, zs[z].state = s.fire.zones[z].state ∧ zs[z].input = s.fire.zones[z].input ∧
      zs[z].cls = s.fire.zones[z].cls ∧ (zs[z].delayRemaining.isSome = s.fire.zones[z].delayRemaining.isSome)) :
    ({ s with fire := { s.fire with zones := zs } } : State).ladderLaw := by
  obtain ⟨⟨⟨h1, h2⟩, h3, h4⟩, h5, h6⟩ := h
  refine ⟨⟨⟨h1, fun z => ?_⟩, fun z => ?_, fun hc => ⟨(h4.1 hc).1, fun z hm => ?_⟩, h4.2⟩, h5,
    fun hs => ⟨(h6 hs).1, fun z hl => ?_⟩⟩ <;> dsimp only
  · rw [(hz z).1]; exact h2 z
  · rw [(hz z).1, (hz z).2.1, (hz z).2.2.2]; exact h3 z
  · rw [(hz z).2.2.1]; exact (h4.1 hc).2 z hm
  · rw [(hz z).1, (hz z).2.1]; exact (h6 hs).2 z hl

theorem acknowledgeBlock_ladderLaw {s : State} (k : Desk) (zone : Option ZoneId) (h : s.ladderLaw) :
    (acknowledgeBlock k zone s).1.ladderLaw := by
  cases zone with
  | none =>
    refine h.rezone fun z => ?_
    rw [vmap_get]
    obtain ⟨h1, h2, h3, h4⟩ := acknowledged_fields k s.fire.zones[z]
    exact ⟨h1, h2, h3, by rw [h4]⟩
  | some x =>
    refine h.rezone (zs := (s.fire.setZone x (s.fire.zones[x].acknowledged k)).zones) fun z => ?_
    rw [Fire.setZone_zones]
    obtain ⟨h1, h2, h3, h4⟩ := acknowledged_fields k s.fire.zones[x]
    split
    · next e => subst e; exact ⟨h1, h2, h3, by rw [h4]⟩
    · exact ⟨rfl, rfl, rfl, rfl⟩

theorem acknowledgeNamed_ladderLaw {s : State} (k : Desk) (zone : Byte) (h : s.ladderLaw) :
    (acknowledgeNamed k zone s).1.ladderLaw := by
  unfold acknowledgeNamed
  split
  · exact acknowledgeBlock_ladderLaw k none h
  · exact onZone_ladderLaw h fun z => acknowledgeBlock_ladderLaw k (some z) h

theorem State.ladderLaw.evacuate {s : State} (h : s.ladderLaw) (cause : FireCause) :
    (changeCondition .evacuate cause s).ladderLaw :=
  changeCondition_ladderLaw h.zones.1 h.2.1 h.2.2 (fun h => absurd rfl h) (fun h => absurd h (by decide))

theorem evacuateBlock_ladderLaw {s : State} (cause : FireCause) (h : s.ladderLaw) :
    (evacuateBlock cause s).1.ladderLaw := by
  unfold evacuateBlock
  split
  · exact h
  · exact h.evacuate cause

theorem returnToQuiet_ladderLaw {s : State} (required other : Condition) (cause : FireCause) (h : s.ladderLaw) :
    (returnToQuiet required other cause s).1.ladderLaw := by
  unfold returnToQuiet
  split_ifs with h1 h2 h3
  · exact h
  · exact h
  · have hn : s.fire.alarmList = [] := by
      have := h3.2
      simp only [Fire.calm, Bool.and_eq_true, List.isEmpty_iff] at this
      exact this.1
    exact changeCondition_ladderLaw h.zones.1 h.2.1 h.2.2 (fun _ => by simp [hn]) (fun _ => hn)
  · exact h

/-! ### The Configuration Store -/

/-- A rewrite of a zone reaches the ladder where the class of a listed zone changes in ALERT (R48); where it does not, the
law has to hold of the record as written. -/
theorem afterZoneWrite_ladderLaw {s : State} {z : ZoneId} {old : Zone} (hz : s.fire.zonesLawful s.house.showMode)
    (hh : s.houseLawful) (hu : s.startUpLawful)
    (hs : (z ∈ s.fire.alarmList → s.fire.zones[z].cls = .detector ∨ s.fire.condition ≠ .alert ∨
      s.fire.zones[z].cls = old.cls) → s.ladderLaw) : (afterZoneWrite z old s).ladderLaw := by
  unfold afterZoneWrite
  by_cases hm : z ∈ s.fire.alarmList
  · rw [if_pos (by simpa using hm)]
    cases hc : s.fire.zones[z].cls with
    | detector => exact (hs fun _ => .inl hc).evaluateDemand
    | callPoint | suppression =>
      rw [hc] at hs
      simp only [rewriteCause]
      split
      · exact changeCondition_ladderLaw hz hh hu (fun h => absurd rfl h) (fun h => absurd h (by decide))
      · next hne => exact (hs fun _ => .inr (by tauto)).evaluateDemand
  · rw [if_neg (by simpa using hm)]
    exact hs fun h => absurd h hm

theorem writeZone_ladderLaw {s : State} (z : ZoneId) (c : ZoneClass) (a : Area) (r d : Bool) (h : s.ladderLaw) :
    (writeZone z c a r d s).1.ladderLaw := by
  obtain ⟨⟨⟨h1, h2⟩, h3, h4⟩, h5, h6⟩ := h
  have hz (y : ZoneId) : (s.fire.setZone z (s.fire.zones[z].configured c a r d)).zones[y] =
      if y = z then s.fire.zones[z].configured c a r d else s.fire.zones[y] := Fire.setZone_zones _ _ _ _
  have hlaw : (s.fire.setZone z (s.fire.zones[z].configured c a r d)).zonesLawful s.house.showMode := by
    refine ⟨⟨h1, fun y => ?_⟩, fun y => ?_⟩ <;> rw [hz] <;> split
    · next e => rw [e]; exact h2 z
    · exact h2 y
    · exact h3 z
    · exact h3 y
  have hstart : ({ s with fire := s.fire.setZone z (s.fire.zones[z].configured c a r d) } : State).startUpLawful := by
    refine fun hs => ⟨(h6 hs).1, fun y hy => ?_⟩
    dsimp only
    rw [hz]
    split
    · next e => exact (h6 hs).2 z (e ▸ hy)
    · exact (h6 hs).2 y hy
  refine afterZoneWrite_ladderLaw hlaw h5 hstart fun hok => ?_
  refine ⟨⟨hlaw.1, hlaw.2, fun hc => ⟨(h4.1 hc).1, fun y hy => ?_⟩, h4.2⟩, h5, hstart⟩
  dsimp only at hok ⊢
  rw [hz]
  split
  · next e =>
    subst e
    have hy : y ∈ s.fire.alarmList := hy
    have hd := (h4.1 hc).2 y hy
    rw [hz, if_pos rfl] at hok
    rcases hok hy with h | h | h
    · exact h
    · cases hq : s.fire.condition with
      | quiet => rw [h4.2 hq] at hy; simp at hy
      | alert => exact absurd hq h
      | evacuate => exact absurd hq hc
    · exact h.trans hd
  · exact (h4.1 hc).2 y hy

theorem update_bare {raw : Reading} {r : LineRecord} (hs : r.settled = none) : r.update raw = r := by
  simp [LineRecord.update, hs]

/-- Before the baselines a line that is read again, or configured, holds no settled state and no candidate (R185). -/
theorem State.ladderLaw.reread {s : State} (h : s.ladderLaw) (l : Line) : (s.reread l).ladderLaw := by
  obtain ⟨hf, hh, hu⟩ := h
  refine ⟨hf, hh, fun hs => ⟨fun k => ?_, (hu hs).2⟩⟩
  have hl := (hu hs).1
  rw [State.reread_lines, update_bare (hl l).1]
  by_cases hk : k = l
  · subst hk; simpa using hl k
  · have : (s.lines.set l s.lines[l])[k] = s.lines[k] := by simp
    rw [this]; exact hl k

theorem writeLine_ladderLaw {s : State} (l : Line) (nc : Bool) (n : Nat) (h : s.ladderLaw) :
    (writeLine l nc n s).1.ladderLaw := by
  unfold writeLine
  refine State.ladderLaw.reread ?_ l
  obtain ⟨hf, hh, hu⟩ := h
  refine ⟨hf, hh, fun hs => ⟨fun k => ?_, (hu hs).2⟩⟩
  have hl := (hu hs).1
  dsimp only
  by_cases hk : k = l
  · subst hk; simpa using hl k
  · rw [Fin.getElem_fin, Vector.getElem_set_ne _ _ fun e => hk (Fin.ext e.symm)]
    exact hl k

/-! ### The Call Scheduler -/

theorem createCallBlock_ladderLaw {s : State} (k : Desk) (o : CallOrder) (h : s.ladderLaw) :
    (createCallBlock k o s).1.ladderLaw := by
  unfold createCallBlock
  split_ifs <;> try exact h
  split
  · exact h
  · exact h.onCalls _

theorem cancelCallBlock_ladderLaw {s : State} (d : Byte) (h : s.ladderLaw) : (cancelCallBlock d s).1.ladderLaw := by
  unfold cancelCallBlock
  split
  · exact h
  · split_ifs
    · exact h
    · exact h.onCalls _
    · exact h

theorem zoneGateBlock_ladderLaw {s : State} (z : Byte) (m d : Bool) (h : s.ladderLaw) :
    (zoneGateBlock z m d s).1.ladderLaw := by
  unfold zoneGateBlock
  split
  · exact h.onCalls _
  · exact h

theorem resetChannelBlock_ladderLaw {s : State} (c : Byte) (h : s.ladderLaw) : (resetChannelBlock c s).1.ladderLaw := by
  unfold resetChannelBlock
  split
  · exact h
  · split_ifs
    · exact h
    · exact h.onCalls _
    · exact h

theorem callEvent_ladderLaw {f : CallEnv → Act Calls → Act Calls} {s t : State} (h : s.ladderLaw)
    (ht : callEvent f s = .next t) : t.ladderLaw := by
  unfold callEvent at ht
  split at ht <;> cases ht
  · exact h
  · exact h.onCalls f

/-! ### The curtain and the lights -/

theorem demonstrateBlock_ladderLaw {s : State} (h : s.ladderLaw) : (demonstrateBlock s).1.ladderLaw :=
  inPhase_ladderLaw h fun _ => interlocked_ladderLaw h (h.onCurtain _)

theorem raiseHoldBlock_ladderLaw {s : State} (h : s.ladderLaw) : (raiseHoldBlock s).1.ladderLaw := by
  unfold raiseHoldBlock
  split
  case h_1 | h_2 | h_3 => exact interlocked_ladderLaw h (h.onCurtain _)
  · exact h.onCurtain _
  all_goals exact h

theorem resetManualBlock_ladderLaw {s : State} (h : s.ladderLaw) : (resetManualBlock s).1.ladderLaw := by
  unfold resetManualBlock
  split_ifs
  · exact h
  · exact h.onCurtain _
  · exact h

theorem State.ladderLaw.withLights {s : State} (h : s.ladderLaw) (l : Lights) : (s.withLights l).ladderLaw :=
  h.congr rfl rfl rfl rfl rfl rfl

theorem lightsBlock_ladderLaw {s : State} (slot : Byte) (pairs : List (Byte × Byte)) (h : s.ladderLaw) :
    (lightsBlock slot pairs s).1.ladderLaw := by
  unfold lightsBlock
  split
  · exact h.withLights _
  · exact h

theorem goPresetBlock_ladderLaw {s : State} (p slot : Byte) (h : s.ladderLaw) :
    (goPresetBlock p slot s).1.ladderLaw := by
  unfold goPresetBlock
  split
  · split_ifs
    · exact h.withLights _
    · exact h
  · exact h

theorem takeLightsBlock_ladderLaw {s : State} (h : s.ladderLaw) : (takeLightsBlock s).1.ladderLaw :=
  inPhase_ladderLaw h fun _ => interlocked_ladderLaw h (h.onLights _)

/-! ## Events -/

theorem sampleCurtain_ladderLaw {s : State} (raw : BitVec 17) (due : Curtain → Bool)
    (f : CurtainEnv → Act Curtain → Act Curtain) (h : s.ladderLaw) : (sampleCurtain raw due f s).ladderLaw := by
  have hr : (s.readEncoder raw).ladderLaw := h.congr rfl rfl rfl rfl rfl rfl
  unfold sampleCurtain
  dsimp only
  split
  · exact hr.onCurtain f
  · exact hr

theorem handPresence_ladderLaw {s : State} (p : Port) (present : Bool) (h : s.ladderLaw) :
    (handPresence p present s).ladderLaw := by
  unfold handPresence
  split
  · exact h.onLights _
  · split
    · exact h.post _
    · exact h.zoneEvent (panelLoss_keepsLaw h.zones.1 h.zones.2) fun _ hr => panelLoss_localsAtRest hr
  all_goals exact h

theorem completePresence_ladderLaw {s : State} (p : Port) (r : PortRecord) (v : Option Nat) (h : s.ladderLaw) :
    (completePresence p r v s).ladderLaw :=
  handPresence_ladderLaw p _ ((h.setPort p _).post _)

theorem markPresent_ladderLaw {s : State} (p : Port) (h : s.ladderLaw) : (markPresent p s).ladderLaw := by
  unfold markPresent
  dsimp only
  split
  · exact h.setPort _ _
  · exact completePresence_ladderLaw _ _ _ h

theorem receiveOne_ladderLaw {s : State} (p : Port) (b : Byte) (h : s.ladderLaw) : (receiveOne p s b).ladderLaw := by
  unfold receiveOne
  dsimp only
  split
  · exact (markPresent_ladderLaw p (h.setPort p _)).setPort _ _
  · exact h.setPort _ _

theorem receiveFrame_ladderLaw {s : State} (p : Port) (bytes : List Byte) (h : s.ladderLaw) :
    (bytes.foldl (receiveOne p) s).ladderLaw := by
  induction bytes generalizing s with
  | nil => exact h
  | cons b bs ih => exact ih (receiveOne_ladderLaw p b h)

theorem linkLoss_ladderLaw {s : State} (p : Port) (h : s.ladderLaw) : (linkLoss p s).ladderLaw := by
  unfold linkLoss
  dsimp only
  split
  · exact completePresence_ladderLaw _ _ _ h
  · exact h

theorem handLine_ladderLaw {s : State} (l : Line) (old : Option Reading) (new : Reading) (h : s.ladderLaw)
    (hu : s.startUp.isSome = false) : (handLine l old new s).ladderLaw := by
  unfold handLine
  split_ifs
  · exact h.zoneEvent (zoneArrival_keepsLaw _ _ h.zones.1 h.zones.2) fun hs => absurd hs (by simp [hu])
  · exact h.onCurtain _
  · exact h.onCurtain _
  · exact h.withLights _
  · exact h.onCurtain _
  · exact h.onCurtain _

theorem settleLine_ladderLaw {s : State} (l : Line) (h : s.ladderLaw) : (settleLine l s).ladderLaw := by
  unfold settleLine
  dsimp only
  split
  · next c hc =>
    have hu : s.startUp.isSome = false := by
      by_contra hs
      have := ((h.2.2 (by cases hs' : s.startUp.isSome <;> simp_all)).1 l).2
      rw [this] at hc; cases hc
    refine handLine_ladderLaw _ _ _ ?_ hu
    exact ⟨h.1, h.2.1, fun hs => absurd hs (by simp [hu])⟩
  · exact h

theorem House.tick_fields (h : House) :
    h.tick.phase = h.phase ∧ h.tick.stop = h.stop ∧ h.tick.showMode = h.showMode := by
  unfold House.tick; split <;> exact ⟨rfl, rfl, rfl⟩

theorem State.ladderLaw.tick {s : State} (h : s.ladderLaw) : s.tick.ladderLaw := by
  have hz : ({ s with fire := s.fire.tick } : State).ladderLaw := by
    have := h.rezone (zs := s.fire.tick.zones) fun z => by
      rw [show s.fire.tick.zones[z] = { s.fire.zones[z] with delayRemaining := runDown s.fire.zones[z].delayRemaining }
        from vmap_get _ _ z]
      exact ⟨rfl, rfl, rfl, by simp [runDown]⟩
    exact this
  obtain ⟨h1, h2, h3⟩ := s.house.tick_fields
  refine ⟨⟨hz.1.1, ?_, hz.1.2.2⟩, House.lawful.congr h.2.1 h1 h2 h3, fun hs => ?_⟩
  · rw [delayLawful_iff, show s.tick.house.showMode = s.house.showMode from h3]; exact hz.1.2.1
  · have hs' : s.startUp.isSome = true := by simpa [State.tick, runDown] using hs
    refine ⟨fun l => ?_, (hz.2.2 hs').2⟩
    rw [show s.tick.lines[l] = s.lines[l].tick from vmap_get _ _ l]
    obtain ⟨k1, k2⟩ := (h.2.2 hs').1 l
    simp [LineRecord.tick, -Fin.getElem_fin, k1, k2]

/-! ## Power-on -/

theorem powerOn_zone (z : ZoneId) : Fire.powerOn.zones[z] = Zone.powerOn (z.val < 8) := vmapIdx_get _ _ z

theorem powerOn_line (l : Line) : Lines.powerOn[l] = ⟨false, if l.val < 8 then 5 else 2, none, none⟩ :=
  vmapIdx_get _ _ l

theorem powerOn_localsAtRest : Fire.powerOn.localsAtRest := by
  intro z hz
  rw [powerOn_zone]
  simp [Zone.powerOn, hz]

/-- Right after power-on the law holds, whatever levels stand on the pins (R184). -/
theorem atPowerOn_ladderLaw (pins : Pins) : (State.atPowerOn pins).ladderLaw := by
  have hst (z : ZoneId) : Fire.powerOn.zones[z].state = .normal ∨ Fire.powerOn.zones[z].state = .fault := by
    rw [powerOn_zone]
    by_cases hz : z.val < 8 <;> simp [Zone.powerOn, hz]
  refine ⟨⟨⟨List.nodup_nil, fun z => ?_⟩, fun z hz => ?_, fun _ => ⟨Nat.zero_le 1, fun z hz => by cases hz⟩, fun _ => rfl⟩,
    show House.powerOn.lawful from ⟨by decide, fun r hr => (by cases hr), by decide⟩, fun _ => ⟨fun l => ?_, powerOn_localsAtRest⟩⟩
  · show z ∈ [] ↔ Fire.powerOn.zones[z].state = .alarm
    rcases hst z with h | h <;> rw [h] <;> simp
  · rcases hst z with h | h <;> exact absurd (h.symm.trans hz) (by decide)
  · rw [show (State.atPowerOn pins).lines[l] = _ from powerOn_line l]
    exact ⟨rfl, rfl⟩

theorem poweredOn_ladderLaw (s : State) : (poweredOn s).ladderLaw := by
  have check (t : State) (ch : Channel) (h : t.ladderLaw) : (checkPlayer t ch).ladderLaw := by
    unfold checkPlayer
    split
    · exact h.onCalls _
    · exact h
  exact check _ _ (check _ _ ((atPowerOn_ladderLaw s.pins).congr rfl rfl rfl rfl rfl rfl))

end Sys2Proof.Machine
end

section
/-! The baselines at the end of the start-up settle, stage by stage (R27, R86, R124, R185), and the law of the ladder kept
by every step. -/
namespace Sys2Proof.Machine

/-! ## The baselines (R27, R185) -/

/-- Every line settled at its raw reading, the start-up settle over. -/
def State.linesTaken (s : State) : State :=
  { s with
    startUp := none
    lines := vmapIdx (fun i r => { r with
      settled := some (if h : i < 13 then s.raw ⟨i, h⟩ else .quiet), candidate := none }) s.lines }

/-- The blackout line settled at its baseline (R124). -/
def State.blackoutTaken (s : State) : State :=
  { s with lights := { s.lights with blackout := (s.settled blackoutLine).getD .quiet } }

/-- The fire release line settled at its baseline (R65, R86). -/
def State.fireLineTaken (s : State) : State :=
  s.onCurtain fun e => hardLineChange e none ((s.settled fireLine).getD .quiet)

/-- The bottom limit settled at its baseline (R86). -/
def State.bottomTaken (s : State) : State :=
  s.onCurtain fun e => bottomBaseline e ((s.settled bottomLine).getD .quiet)

theorem takeBaselines_eq (s : State) :
    takeBaselines s =
      ((List.finRange 8).foldl zoneLineBaseline s.linesTaken).blackoutTaken.fireLineTaken.bottomTaken := by
  simp only [takeBaselines, State.bottomTaken, State.fireLineTaken, State.blackoutTaken, State.linesTaken]

theorem linesTaken_lines (s : State) (l : Line) :
    s.linesTaken.lines[l] = { s.lines[l] with settled := some (s.raw l), candidate := none } := by
  rw [show s.linesTaken.lines[l] = _ from vmapIdx_get _ s.lines l]
  simp [l.isLt]

theorem linesTaken_settled (s : State) (l : Line) : s.linesTaken.settled l = some (s.raw l) := by
  unfold State.settled; rw [linesTaken_lines]

/-- A local zone after its baseline (R27, log 30). -/
def Zone.baselined (r : Reading) (x : Zone) : Zone := { (if r = .quiet then x else x.faulted) with input := r }

/-- The zone of a local line. -/
def localZone (z : Fin 8) : ZoneId := ⟨z.val, by omega⟩

/-- The line of a local zone. -/
def zoneLine (z : Fin 8) : Line := ⟨z.val, by omega⟩

theorem zoneBaseline_apply (z : ZoneId) (r : Reading) (e : FireEnv) (f : Fire) :
    ∃ ms, zoneBaseline z r e ⟨f, []⟩ = (⟨f.setZone z (f.zones[z].baselined r), ms⟩, []) := by
  have hz : (f.setZone z { f.zones[z] with input := r }).zones[z] = { f.zones[z] with input := r } := by
    rw [Fire.setZone_zones, if_pos rfl]
  unfold zoneBaseline
  simp only [Act.map, recordInput, changeZone, enterFault, hz, Fire.setZone_setZone]
  cases r <;> exact ⟨_, rfl⟩

/-- The baseline of one local zone writes that zone, and its notice. -/
theorem zoneLineBaseline_eq (s : State) (z : Fin 8) :
    zoneLineBaseline s z =
      { s with
        fire := s.fire.setZone (localZone z)
          (s.fire.zones[localZone z].baselined ((s.settled (zoneLine z)).getD .quiet))
        links := (zoneLineBaseline s z).links } := by
  obtain ⟨ms, h⟩ := zoneBaseline_apply (localZone z) ((s.settled (zoneLine z)).getD .quiet) s.fireEnv s.fire
  have hs : (s.onZones (zoneBaseline (localZone z) ((s.settled (zoneLine z)).getD .quiet))).2 = [] := by
    unfold State.onZones; rw [h]
  have he : zoneLineBaseline s z =
      (s.onZones (zoneBaseline (localZone z) ((s.settled (zoneLine z)).getD .quiet))).1 := by
    rcases zoneEvent_cases (zoneBaseline (localZone z) ((s.settled (zoneLine z)).getD .quiet)) s with ⟨-, k⟩ | ⟨k, -⟩
    · exact k
    · exact absurd hs k
  rw [he]
  unfold State.onZones
  rw [h]

/-- The baselines of some local zones, one after another: the zones of the list take the settled state of their line. -/
theorem foldl_zoneLineBaseline (zs : List (Fin 8)) (s : State) :
    let t := zs.foldl zoneLineBaseline s
    t = { s with fire := { s.fire with zones := t.fire.zones }, links := t.links } ∧ KeepsLinks s t ∧
      ∀ y : ZoneId, t.fire.zones[y] =
        if h : y.val < 8 then
          if (⟨y.val, h⟩ : Fin 8) ∈ zs then
            s.fire.zones[y].baselined ((s.settled (zoneLine ⟨y.val, h⟩)).getD .quiet)
          else s.fire.zones[y]
        else s.fire.zones[y] := by
  induction zs generalizing s with
  | nil => exact ⟨rfl, .refl s, fun y => by simp⟩
  | cons z zs ih =>
    obtain ⟨h1, h2, h3⟩ := ih (zoneLineBaseline s z)
    have he := zoneLineBaseline_eq s z
    have hq : KeepsLinks s (zoneLineBaseline s z) := (quietly_zoneEvent _ s).2
    have hset (l : Line) : (zoneLineBaseline s z).settled l = s.settled l := by rw [he]; rfl
    have hzone (y : ZoneId) : (zoneLineBaseline s z).fire.zones[y] =
        if y = localZone z then s.fire.zones[localZone z].baselined ((s.settled (zoneLine z)).getD .quiet)
        else s.fire.zones[y] := by
      rw [he]; exact Fire.setZone_zones _ _ _ _
    simp only [List.foldl_cons]
    refine ⟨?_, hq.trans h2, fun y => ?_⟩
    · generalize zs.foldl zoneLineBaseline (zoneLineBaseline s z) = t at *
      rw [h1, he]
      rfl
    · rw [h3 y]
      by_cases hy : y.val < 8
      · simp only [hy, dif_pos, hset, hzone, List.mem_cons]
        by_cases hz : y = localZone z
        · subst hz
          have hyz : (⟨(localZone z).val, hy⟩ : Fin 8) = z := rfl
          have idem (r : Reading) (x : Zone) : (x.baselined r).baselined r = x.baselined r := by
            cases r <;> rfl
          simp only [hyz, if_true, true_or, idem, ite_self]
        · have hyz : (⟨y.val, hy⟩ : Fin 8) ≠ z := fun e => hz (Fin.ext (by simp [← e, localZone]))
          simp only [hz, hyz, if_false, false_or]
      · simp only [hy, dif_neg, not_false_iff, hzone]
        rw [if_neg (fun e => hy (by rw [e]; exact z.isLt))]

/-- The zones once every local one has taken its baseline. -/
theorem zonesTaken_zones (s : State) (y : ZoneId) :
    ((List.finRange 8).foldl zoneLineBaseline s.linesTaken).fire.zones[y] =
      if h : y.val < 8 then s.fire.zones[y].baselined (s.raw (zoneLine ⟨y.val, h⟩)) else s.fire.zones[y] := by
  rw [(foldl_zoneLineBaseline _ _).2.2 y]
  simp only [List.mem_finRange, if_true, linesTaken_settled, Option.getD_some]
  rfl

/-- The baselines find every local zone NORMAL or ISOLATED (R27), and so break no law. -/
theorem zonesTaken_ladderLaw {s : State} (h : s.ladderLaw) (hu : s.startUp.isSome = true) :
    ((List.finRange 8).foldl zoneLineBaseline s.linesTaken).ladderLaw := by
  obtain ⟨he, -⟩ := foldl_zoneLineBaseline (List.finRange 8) s.linesTaken
  have hz := zonesTaken_zones s
  generalize (List.finRange 8).foldl zoneLineBaseline s.linesTaken = t at he hz
  have hlist : t.fire.alarmList = s.fire.alarmList := by rw [he]; rfl
  have hcond : t.fire.condition = s.fire.condition := by rw [he]; rfl
  have hhouse : t.house = s.house := by rw [he]; rfl
  have hstart : t.startUp = none := by rw [he]; rfl
  have rest := (h.2.2 hu).2
  obtain ⟨⟨⟨h1, h2⟩, h3, h4⟩, h5, -⟩ := h
  have hkeep (y : ZoneId) : t.fire.zones[y].cls = s.fire.zones[y].cls ∧
      (t.fire.zones[y] = s.fire.zones[y] ∨
        t.fire.zones[y].state ≠ .alarm ∧ t.fire.zones[y].state ≠ .delayed ∧ s.fire.zones[y].state ≠ .alarm) := by
    rw [hz]
    split
    · next hy =>
      obtain ⟨-, hs⟩ := rest y hy
      cases s.raw (zoneLine ⟨y.val, hy⟩) <;> refine ⟨rfl, .inr ?_⟩ <;> rcases hs with hs | hs <;>
        simp [-Fin.getElem_fin, Zone.baselined, Zone.faulted, hs]
    · exact ⟨rfl, .inl rfl⟩
  refine ⟨⟨⟨hlist ▸ h1, fun y => ?_⟩, fun y hy => ?_, fun hc => ?_, fun hc => ?_⟩, ?_, ?_⟩
  · rw [hlist, h2]
    rcases (hkeep y).2 with e | ⟨e, -, e'⟩
    · rw [e]
    · simp [-Fin.getElem_fin, e, e']
  · rcases (hkeep y).2 with e | ⟨-, e, -⟩
    · rw [e] at hy ⊢; rw [hlist, hhouse]; exact h3 y hy
    · exact absurd hy e
  · rw [hcond] at hc
    rw [hlist]
    exact ⟨(h4.1 hc).1, fun y hy => by rw [(hkeep y).1]; exact (h4.1 hc).2 y hy⟩
  · rw [hcond] at hc; rw [hlist]; exact h4.2 hc
  · rw [houseLawful_iff, hhouse]; exact h5
  · rw [startUpLawful_iff, hstart]; exact fun h => absurd h (by simp)

theorem takeBaselines_ladderLaw {s : State} (h : s.ladderLaw) (hu : s.startUp.isSome = true) :
    (takeBaselines s).ladderLaw := by
  rw [takeBaselines_eq]
  exact State.ladderLaw.onCurtain (State.ladderLaw.onCurtain ((zonesTaken_ladderLaw h hu).withLights _) _) _

/-! ## Every command and every step -/

theorem ladderLaw_of_next {a t : State} (h : a.ladderLaw) (ht : (Host.Outcome.next a : Answered) = .next t) :
    t.ladderLaw := by cases ht; exact h

theorem ladderLaw_of_ite {c : Prop} [Decidable c] {a b t : State} (ha : c → a.ladderLaw) (hb : b.ladderLaw)
    (ht : (if c then .next a else .next b : Answered) = .next t) : t.ladderLaw := by
  split at ht <;> cases ht
  · next h => exact ha h
  · exact hb

theorem ladderLaw_unless {c : Prop} [Decidable c] {a b t : State} (ha : a.ladderLaw) (hb : b.ladderLaw)
    (ht : (if c then .next a else .next b : Answered) = .next t) : t.ladderLaw := ladderLaw_of_ite (fun _ => ha) hb ht

theorem execUnknownRequest_ladderLaw {p : Port} {k : Byte} {payload : List Byte} {s t : State} (h : s.ladderLaw)
    (ht : execUnknownRequest p k payload s = .next t) : t.ladderLaw := by
  unfold execUnknownRequest at ht
  split at ht
  · cases ht; exact h
  · refine takeRequest_ladderLaw h ?_ ht
    split
    · unfold unknownRecord; split <;> exact h
    · exact h

theorem execStartUpSettleEnd_ladderLaw {s t : State} (h : s.ladderLaw) (ht : execStartUpSettleEnd s = .next t) :
    t.ladderLaw := by
  refine ladderLaw_of_ite (fun hc => takeBaselines_ladderLaw h ?_) h ht
  have hd : timerDone s.startUp = true := by
    simp only [Bool.and_eq_true] at hc; exact hc.2
  cases hs : s.startUp <;> simp_all [timerDone]

/-- Every configuration record that is written keeps the law. -/
theorem execConfigure_ladderLaw {p : Port} {i : Instr} {write : Option (State → State × Answer)} {s t : State}
    (h : s.ladderLaw) (hw : ∀ f, write = some f → (f s).1.ladderLaw)
    (ht : takeRequest p i (configure write) s = .next t) : t.ladderLaw :=
  takeRequest_ladderLaw h (configure_ladderLaw h hw) ht

/-- Every command keeps the law. -/
theorem exec_ladderLaw (i : Instr) {s t : State} (h : s.ladderLaw) (ht : exec i s = .next t) : t.ladderLaw := by
  have params (p : Params) : ({ s with params := p } : State).ladderLaw := h.congr rfl rfl rfl rfl rfl rfl
  have request {p : Port} {block : State → State × Answer} (hb : (block s).1.ladderLaw)
      (ht : takeRequest p i block s = .next t) : t.ladderLaw := takeRequest_ladderLaw h hb ht
  cases i with
  | powerOn => exact ladderLaw_of_next (poweredOn_ladderLaw s) ht
  | resetAsserted =>
    exact ladderLaw_of_next (a := { State.atPowerOn s.pins with inert := true, pending := s.pending })
      ((atPowerOn_ladderLaw s.pins).congr rfl rfl rfl rfl rfl rfl) ht
  | startUpSettleEnd => exact execStartUpSettleEnd_ladderLaw h ht
  | lineRawChange l sound closed =>
    have hp (p : Pins) : ({ s with pins := p } : State).ladderLaw := h.congr rfl rfl rfl rfl rfl rfl
    exact ladderLaw_unless (hp _) ((hp _).reread l) ht
  | settleExpiry l => exact ladderLaw_unless h (settleLine_ladderLaw l h) ht
  | receiveFrame p bytes => exact ladderLaw_unless h (receiveFrame_ladderLaw p bytes h) ht
  | frameAbandoned p => exact ladderLaw_unless h (h.setPort _ _) ht
  | supervisionExpiry p => exact ladderLaw_unless h (linkLoss_ladderLaw p h) ht
  | frameSent p => exact ladderLaw_unless h (h.setPort _ _) ht
  | lengthAbove120 p n => exact ladderLaw_unless h (h.setPort _ _) ht
  | unknownRequest p k payload => exact execUnknownRequest_ladderLaw h ht
  | configureZone p z c a r d =>
    refine execConfigure_ladderLaw h (fun f hf => ?_) ht
    split at hf <;> cases hf
    exact writeZone_ladderLaw _ _ _ _ _ h
  | configureCurtain => exact execConfigure_ladderLaw h (fun f hf => by cases hf; exact params _) ht
  | configureCircuit =>
    refine execConfigure_ladderLaw h (fun f hf => ?_) ht
    split at hf <;> cases hf
    exact h.withLights _
  | configureSlot =>
    refine execConfigure_ladderLaw h (fun f hf => ?_) ht
    split at hf <;> cases hf
    exact h.withLights _
  | configurePreset =>
    refine execConfigure_ladderLaw h (fun f hf => ?_) ht
    split at hf <;> cases hf
    exact h.withLights _
  | configurePagingZone =>
    refine execConfigure_ladderLaw h (fun f hf => ?_) ht
    split at hf <;> cases hf
    exact State.ladderLaw.onCalls (h.congr rfl rfl rfl rfl rfl rfl) afterPagingWrite
  | configureBuiltInCall =>
    refine execConfigure_ladderLaw h (fun f hf => ?_) ht
    split at hf
    · split at hf <;> cases hf
      exact params _
    · cases hf
  | configureTiming =>
    refine execConfigure_ladderLaw h (fun f hf => ?_) ht
    split at hf <;> cases hf
    exact params _
  | configureLine =>
    refine execConfigure_ladderLaw h (fun f hf => ?_) ht
    split at hf <;> cases hf
    exact writeLine_ladderLaw _ _ _ h
  | configureOption => exact execConfigure_ladderLaw h (fun f hf => by cases hf; exact params _) ht
  | configurationComplete => exact request (configurationComplete_ladderLaw h) ht
  | openPerformance => exact request (openPerformance_ladderLaw h) ht
  | closePerformance => exact request (closePerformance_ladderLaw h) ht
  | openHouse => exact request (openHouse_ladderLaw h) ht
  | houseClosed => exact request (houseClosed_ladderLaw h) ht
  | goAct => exact request (goAct_ladderLaw h) ht
  | endAct => exact request (endAct_ladderLaw _ h) ht
  | showStop => exact request (showStop_ladderLaw h) ht
  | resume => exact request (resume_ladderLaw h) ht
  | endPerformance => exact request (endPerformance_ladderLaw h) ht
  | giveClearance => exact request (giveClearance_ladderLaw h) ht
  | withdrawClearance =>
    exact request (h.changeHouse .withdrawn (new := { s.house with clearance := .withheld })
      (House.lawful.keep h.2.1 rfl rfl rfl)) ht
  | setPlannedUp => exact request (setPlannedUp_ladderLaw _ h) ht
  | delayUp => exact request (delayUp_ladderLaw _ h) ht
  | extendInterval => exact request (extendInterval_ladderLaw _ h) ht
  | showModeOn | showModeOff => exact request (showMode_ladderLaw _ h) ht
  | intervalCountdownExpiry =>
    exact ladderLaw_unless (a := ({ s with intervalUpDue := false } : State).post [intervalUpMail s.house])
      (h.congr rfl rfl rfl rfl rfl rfl) h ht
  | zoneReport => exact request (zoneReport_ladderLaw _ h) ht
  | panelResetZone | resetZone => exact request (onZone_ladderLaw h fun z => resetZoneBlock_ladderLaw z h) ht
  | isolateZone => exact request (onZone_ladderLaw h fun z => isolateBlock_ladderLaw z h) ht
  | restoreZone => exact request (onZone_ladderLaw h fun z => restoreZoneBlock_ladderLaw z h) ht
  | acknowledgeZones => exact request (acknowledgeNamed_ladderLaw _ _ h) ht
  | showDelayExpiry z =>
    exact ladderLaw_unless h
      (h.zoneEvent (delayExpiry_keepsLaw z h.zones.1 h.zones.2) fun _ hr => delayExpiry_localsAtRest z hr) ht
  | investigationExpiry => exact ladderLaw_unless (h.evacuate _) h ht
  | evacuateNow | panelEvacuate => exact request (evacuateBlock_ladderLaw _ h) ht
  | standDown | restore => exact request (returnToQuiet_ladderLaw _ _ _ h) ht
  | dropCurtain | stopRaise | clearCurtainFaults => exact request (h.onCurtain _) ht
  | demonstrateCurtain => exact request (demonstrateBlock_ladderLaw h) ht
  | raiseHold => exact request (raiseHoldBlock_ladderLaw h) ht
  | resetManualRelease => exact request (resetManualBlock_ladderLaw h) ht
  | leaseExpiry => exact ladderLaw_unless (h.onCurtain _) h ht
  | raiseSample raw | creepSample raw | descentSample raw =>
    exact ladderLaw_of_next (sampleCurtain_ladderLaw raw _ _ h) ht
  | lights => exact request (withAuthority_ladderLaw h (lightsBlock_ladderLaw _ _ h)) ht
  | goPreset => exact request (withAuthority_ladderLaw h (goPresetBlock_ladderLaw _ _ h)) ht
  | holdFades => exact request (withAuthority_ladderLaw h (h.withLights _)) ht
  | fadeStep => exact ladderLaw_unless h (h.withLights _) ht
  | takeLights => exact request (takeLightsBlock_ladderLaw h) ht
  | giveBackLights | reclaimLights => exact request (h.onLights _) ht
  | panicLightsOn | panicLightsOff => exact request (h.withLights _) ht
  | dimmerFrame => exact ladderLaw_unless h (h.withLights _) ht
  | createCall => exact request (createCallBlock_ladderLaw _ _ h) ht
  | cancelCall => exact request (cancelCallBlock_ladderLaw _ h) ht
  | collectCompletions => exact request (h.onCalls _) ht
  | zoneGate => exact request (zoneGateBlock_ladderLaw _ _ _ h) ht
  | resetChannel => exact request (resetChannelBlock_ladderLaw _ h) ht
  | dueTimerExpiry | callDeadline | startTimerExpiry | guardTimerExpiry | stopTimerExpiry | builtInGapExpiry =>
    exact callEvent_ladderLaw h ht
  | playingRises ch | playingFalls ch =>
    exact callEvent_ladderLaw (s := s.setPlaying ch _) (h.congr rfl rfl rfl rfl rfl rfl) ht
  | readHouse | readZones | readAlarmList | readCurtain | readCircuits | readCall | readQueues | readChannels
  | readLinks => exact request (report_ladderLaw h) ht
  | performanceClockTick raw =>
    have hr : (s.readEncoder raw).ladderLaw := h.congr rfl rfl rfl rfl rfl rfl
    exact ladderLaw_unless hr hr.tick ht

/-- The law holds of a state as it holds of it with other commands waiting, so a step keeps it where every command does:
the step runs a command, or idles. -/
theorem keptByStep_of_exec {Inv : State → Prop} (hp : ∀ s (q : List Instr), Inv s → Inv { s with pending := q })
    (he : ∀ i s t, Inv s → exec i s = .next t → Inv t) : KeptByStep Inv := by
  intro s s' h hs
  unfold step at hs
  split at hs
  · exact he _ _ _ (hp s _ h) hs
  · split at hs
    · exact he _ _ _ h hs
    · cases hs; exact h

/-- Settles O58: every event at the zones leaves a table from which the ladder climbs to a lawful condition, and every
other command leaves the fields that the law reads. -/
theorem everyStepKeepsTheLadderLaw : Obligations.EveryStepKeepsTheLadderLaw :=
  keptByStep_of_exec (Inv := State.ladderLaw) (fun _ _ h => h.congr rfl rfl rfl rfl rfl rfl)
    fun i _ _ h ht => exec_ladderLaw i h ht

end Sys2Proof.Machine
end

section
/-! The requests of the Performance Unit that write the house condition record (chapter 01): END PERFORMANCE, clearance,
show mode, the Go Act interlock, the acts and intervals, SHOW STOP and RESUME. -/
namespace Sys2Proof.Machine

/-! ## A request that changes the house record -/

/-- What a request leaves that changes the house record and reaches no zone (R3, R4, R5, R22). -/
theorem changeHouse_others {cause : ClearanceCause} {new : House} {s : State}
    (h : ReachesNoZone s.house { s with house := new }) :
    (changeHouse cause new s).house = new ∧ (changeHouse cause new s).fire = s.fire ∧
      (changeHouse cause new s).curtain = s.curtain ∧
      (changeHouse cause new s).lights = (handRecord s.house cause { s with house := new }).lights ∧
      (changeHouse cause new s).calls = (handRecord s.house cause { s with house := new }).calls :=
  completeChange_others h

/-- A change that keeps phase, stop record and anchors reaches neither the lights nor the calls. -/
theorem changeHouse_samePhase {cause : ClearanceCause} {new : House} {s : State}
    (h : ReachesNoZone s.house { s with house := new }) (hp : new.phase = s.house.phase)
    (hs : new.stop = s.house.stop) (ha : new.anchors = s.house.anchors) :
    (changeHouse cause new s).lights = s.lights ∧ (changeHouse cause new s).calls = s.calls := by
  obtain ⟨-, -, -, h4, h5⟩ := changeHouse_others (cause := cause) h
  obtain ⟨k1, k2⟩ := handRecord_samePhase (old := s.house) (cause := cause) (s := { s with house := new }) hp.symm hs.symm
  rw [h4, h5, k1, k2]
  simp [ha]

/-- A change that changes nothing hands nothing on. -/
theorem changeHouse_self (cause : ClearanceCause) (s : State) : changeHouse cause s.house s = s := by
  simp [changeHouse, completeChange, handShowMode, handPhase, noteClearance]

theorem changeHouse_phaseHandedOn {cause : ClearanceCause} {new : House} {s : State}
    (h : ReachesNoZone s.house { s with house := new })
    (hp : ¬ (s.house.phase = new.phase ∧ s.house.stop = new.stop)) :
    PhaseHandedOn s (changeHouse cause new s) :=
  completeChange_phaseHandedOn (old := s.house) (s := { s with house := new }) h hp

theorem changeHouse_tellsClearance {cause : ClearanceCause} {new : House} {s : State}
    (h : ReachesNoZone s.house { s with house := new }) (hc : s.house.clearance ≠ new.clearance) {q : Port}
    (hq : q = .prompt ∨ q = .house) : Reaches q (.clearance new.clearance cause) s (changeHouse cause new s) :=
  Reaches.then (handRecord_tellsClearance (old := s.house) (s := { s with house := new }) hc hq)
    (quietly_handRecord _ _ _).2 (handRecord_to_completeChange h)

theorem PhaseHandedOn.relink {s u t : State} (h : PhaseHandedOn s u) (ht : t = { u with links := t.links })
    (hr : ∀ q n, Reaches q n s u → Reaches q n s t) : PhaseHandedOn s t := by
  obtain ⟨h1, h2, h3, h4, h5, h6⟩ := h
  have hh : t.house = u.house := by rw [ht]
  have hc : t.clock = u.clock := by rw [ht]
  refine ⟨?_, ?_, ?_, ?_, ?_, fun q hq => ?_⟩
  · rw [ht]; exact h1
  · rw [ht]; exact h2
  · rw [ht]; exact h3
  · rw [ht]; exact h4
  · rw [ht]; exact h5
  · rw [hh, hc]; exact hr q _ (h6 q hq)

/-- A taken request that changes the house record: what it answers, and every record as the change leaves it. -/
theorem takeRequest_changeHouse {p : Port} {i : Instr} {block : State → State × Answer} {s : State} {a : Answer}
    {cause : ClearanceCause} {new : House} (ht : takeable p (requestFrame i) s = true)
    (hk : kindKnown (requestFrame i).kind = true) (hp : permitted p (requestFrame i).kind = true)
    (hs : shapeOk i = true) (hb : block s = (changeHouse cause new s, a)) :
    ∃ t, takeRequest p i block s = .next t ∧ AnsweredWith p (requestFrame i).kind a s t ∧
      t = { changeHouse cause new s with links := t.links } ∧
      ∀ q n, Reaches q n s (changeHouse cause new s) → Reaches q n s t :=
  takeRequest_answers ht hk hp hs hb (quietly_changeHouse cause new s).2

/-- The same for a change of the phase that reaches no zone (R4). -/
theorem takeRequest_changePhase {p : Port} {i : Instr} {block : State → State × Answer} {s : State} {a : Answer}
    {cause : ClearanceCause} {new : House} (ht : takeable p (requestFrame i) s = true)
    (hk : kindKnown (requestFrame i).kind = true) (hp : permitted p (requestFrame i).kind = true)
    (hs : shapeOk i = true) (hb : block s = (changeHouse cause new s, a))
    (hz : ReachesNoZone s.house { s with house := new })
    (hn : ¬ (s.house.phase = new.phase ∧ s.house.stop = new.stop)) :
    ∃ t, takeRequest p i block s = .next t ∧ AnsweredWith p (requestFrame i).kind a s t ∧ t.house = new ∧
      t.fire = s.fire ∧ PhaseHandedOn s t ∧ t.lights = (changeHouse cause new s).lights ∧
      t.calls = (changeHouse cause new s).calls ∧
      ∀ q n, Reaches q n s (changeHouse cause new s) → Reaches q n s t := by
  obtain ⟨t, hx, ha, hu, hr⟩ := takeRequest_changeHouse ht hk hp hs hb
  obtain ⟨h1, h2, -⟩ := changeHouse_others (cause := cause) hz
  exact ⟨t, hx, ha, by rw [hu]; exact h1, by rw [hu]; exact h2, (changeHouse_phaseHandedOn hz hn).relink hu hr,
    by rw [hu], by rw [hu], hr⟩

/-- The same for a change that keeps the phase, the stop record and the anchors: it is the record's alone. -/
theorem takeRequest_changeRecord {p : Port} {i : Instr} {block : State → State × Answer} {s : State} {a : Answer}
    {cause : ClearanceCause} {new : House} (ht : takeable p (requestFrame i) s = true)
    (hk : kindKnown (requestFrame i).kind = true) (hp : permitted p (requestFrame i).kind = true)
    (hs : shapeOk i = true) (hb : block s = (changeHouse cause new s, a))
    (hz : ReachesNoZone s.house { s with house := new }) (hph : new.phase = s.house.phase)
    (hst : new.stop = s.house.stop) (han : new.anchors = s.house.anchors) :
    ∃ t, takeRequest p i block s = .next t ∧ AnsweredWith p (requestFrame i).kind a s t ∧ t.house = new ∧
      t.fire = s.fire ∧ t.curtain = s.curtain ∧ t.lights = s.lights ∧ t.calls = s.calls ∧ KeepsBase s t ∧
      (new = s.house → t = s.withReply p (requestFrame i).kind a) ∧
      ∀ q n, Reaches q n s (changeHouse cause new s) → Reaches q n s t := by
  obtain ⟨t, hx, ha, hu, hr⟩ := takeRequest_changeHouse ht hk hp hs hb
  obtain ⟨h1, h2, h3, -⟩ := changeHouse_others (cause := cause) hz
  obtain ⟨h4, h5⟩ := changeHouse_samePhase (cause := cause) hz hph hst han
  refine ⟨t, hx, ha, by rw [hu]; exact h1, by rw [hu]; exact h2, by rw [hu]; exact h3, by rw [hu]; exact h4,
    by rw [hu]; exact h5, by rw [hu]; exact (quietly_changeHouse cause new s).1, fun he => ?_, hr⟩
  subst he
  rw [changeHouse_self] at hb
  have hw := takeRequest_unchanged ht hk hp hs hb
  rw [hx] at hw
  exact Host.Outcome.next.inj hw

theorem inPhase_accepted {accepted : Bool} {block : State → State × Answer} {s : State} (h : accepted = true) :
    inPhase accepted block s = block s := by simp [inPhase, h]

theorem inPhase_refused {accepted : Bool} {block : State → State × Answer} {s : State} (h : accepted = false) :
    inPhase accepted block s = (s, refuse .wrongPhase) := by simp [inPhase, h]

theorem interlocked_failing {failed : List Interlock} {block : State → State × Answer} {s : State} (h : failed ≠ []) :
    interlocked failed block s = (s, ⟨.refused, .interlock failed⟩) := by
  cases failed with
  | nil => exact absurd rfl h
  | cons => rfl

/-! ## END PERFORMANCE (R16) -/

/-- Settles O14: END PERFORMANCE writes the record of R16 in STOPPED whatever else holds, since the block looks at the
phase alone. -/
theorem endPerformanceEmptiesTheHouse : Obligations.EndPerformanceEmptiesTheHouse := by
  intro s ht
  refine ⟨fun hp => ?_, fun hp => ?_⟩
  · obtain ⟨t, hx, ha, h1, h2, h3, -⟩ := takeRequest_changePhase (i := .endPerformance .prompt)
      (block := endPerformanceBlock) (new := s.house.ended s.clock) ht (by decide) (by decide) rfl
      (inPhase_accepted (by simp [hp])) (.inr (.inl rfl)) (by simp [House.ended, hp])
    exact ⟨t, hx, ha, h1, h2, h3⟩
  · exact takeRequest_unchanged (i := .endPerformance .prompt) ht (by decide) (by decide) rfl
      (inPhase_refused (by simp [hp]))

/-! ## Clearance (R5) -/

/-- Settles O15: a change of clearance writes that field and tells the desks; a request that changes nothing leaves the
part as it was but for the reply. -/
theorem clearanceIsGivenAndWithdrawn : Obligations.ClearanceIsGivenAndWithdrawn := by
  intro s
  have same {c : Clearance} (h : s.house.clearance = c) : ({ s.house with clearance := c } : House) = s.house := by
    rw [← h]
  refine ⟨fun ht => ⟨fun hp => ?_, fun h1 h2 h3 => ?_⟩, fun ht => ?_⟩
  · obtain ⟨t, hx, ha, h1, h2, h3, h4, h5, h6, h7, hr⟩ := takeRequest_changeRecord (i := .giveClearance .house)
      (block := giveClearanceBlock) (cause := .given) (new := { s.house with clearance := .given }) ht (by decide)
      (by decide) rfl (inPhase_accepted (by rcases hp with hp | hp | hp <;> simp [hp])) (.inr (.inl rfl)) rfl rfl rfl
    exact ⟨t, hx, ha, h1, h2, h3, h4, h5, h6, fun hc => h7 (same hc), fun hc q hq =>
      hr q _ (changeHouse_tellsClearance (new := { s.house with clearance := .given }) (.inr (.inl rfl)) (by simp [hc]) hq)⟩
  · exact takeRequest_unchanged (i := .giveClearance .house) ht (by decide) (by decide) rfl
      (inPhase_refused (by simp [h1, h2, h3]))
  · obtain ⟨t, hx, ha, h1, h2, h3, h4, h5, h6, h7, hr⟩ := takeRequest_changeRecord (i := .withdrawClearance .house)
      (block := withdrawClearanceBlock) (cause := .withdrawn) (new := { s.house with clearance := .withheld }) ht
      (by decide) (by decide) rfl rfl (.inr (.inl rfl)) rfl rfl rfl
    exact ⟨t, hx, ha, h1, h2, h3, h4, h5, h6, fun hc => h7 (same hc), fun hc q hq =>
      hr q _ (changeHouse_tellsClearance (new := { s.house with clearance := .withheld }) (.inr (.inl rfl)) (by simp [hc]) hq)⟩

/-! ## Show mode turning off with zones DELAYED (R22, R33) -/

theorem alarming_eq (s : State) : s.alarming = s.fire.delayedWith .active := rfl

/-- What a promotion has made of the fire record: the zones as promoted, and the list longer by those in ALARM. -/
theorem promoted_of_zones {s t : State} (hz : t.fire.zones = (promoteZones s.clock s.fire).zones) (y : ZoneId)
    (hd : s.fire.zones[y].state = .delayed) : Promoted y s t := by
  unfold Promoted
  rw [hz, promoteZones_zones]
  refine ⟨fun hi => ?_, fun hi => ?_⟩
  · rw [if_neg (by simp [-Fin.getElem_fin, hi]), if_pos ⟨hd, hi⟩]; rfl
  · rw [if_pos ⟨hd, hi⟩]; rfl

/-- A change that turns show mode off is the record handed on, then the promotion (R22, R33). -/
theorem changeHouse_showModeOff {cause : ClearanceCause} {new : House} {s : State} (h1 : s.house.showMode = true)
    (h2 : new.showMode = false) :
    ∃ u : State, changeHouse cause new s = showModeOff u ∧ u.house = new ∧ u.fire = s.fire ∧ u.clock = s.clock := by
  obtain ⟨k1, k2, -⟩ := handRecord_others s.house cause { s with house := new }
  have hc := (quietly_handRecord s.house cause { s with house := new }).1.1.1
  refine ⟨(handRecord s.house cause { s with house := new }).post
    [⟨[.prompt, .house], .showMode (handRecord s.house cause { s with house := new }).house.showMode⟩],
    ?_, k1, k2, hc⟩
  rw [changeHouse, completeChange_eq]
  unfold handShowMode
  dsimp only
  rw [k1, if_neg (by simp [h1, h2]), if_neg (by rw [State.post_house, k1]; simp [h2])]

/-- The fire record after show mode has turned off, and the house record, which the ladder may have stopped (R14). -/
theorem changeHouse_promotes {cause : ClearanceCause} {new : House} {s : State} (h1 : s.house.showMode = true)
    (h2 : new.showMode = false) :
    (changeHouse cause new s).fire.zones = (promoteZones s.clock s.fire).zones ∧
      (changeHouse cause new s).fire.alarmList = s.fire.alarmList ++ s.alarming ∧
      ((changeHouse cause new s).house = new ∨ (changeHouse cause new s).house = new.evacuated) ∧
      (s.alarming ≠ [] → (changeHouse cause new s).fire.condition ≠ .quiet) := by
  obtain ⟨u, hu, hh, hf, hc⟩ := changeHouse_showModeOff (cause := cause) h1 h2
  have hm : u.house.showMode = false := by rw [hh]; exact h2
  obtain ⟨hz, hl⟩ := showModeOff_zones hm
  have hho := showModeOff_house u
  rw [hu]
  rw [hf, hc] at hz
  rw [hf] at hl
  rw [hh] at hho
  refine ⟨hz, hl, hho, fun hne => ?_⟩
  unfold showModeOff
  rcases zoneEvent_cases promoteAll u with ⟨hn, -⟩ | ⟨-, k⟩
  · exact absurd (by rw [alarming_eq, ← hf]; exact hn) hne
  · rw [k]; exact climbLadder_condition _ _

/-- Settles O17: the request writes show mode alone while no zone is DELAYED; turning it off with zones DELAYED promotes
them, and the ladder then stands above QUIET. -/
theorem showModeIsSwitched : Obligations.ShowModeIsSwitched := by
  have same {s : State} {m : Bool} (h : s.house.showMode = m) : ({ s.house with showMode := m } : House) = s.house := by
    rw [← h]
  have tells {s : State} {m : Bool} (hz : ReachesNoZone s.house { s with house := { s.house with showMode := m } })
      (h : s.house.showMode ≠ m) {q : Port} (hq : q = .prompt ∨ q = .house) :
      Reaches q (.showMode m) s (changeHouse .cleared { s.house with showMode := m } s) :=
    completeChange_tellsShowMode (old := s.house) (s := { s with house := { s.house with showMode := m } }) hz h hq
  refine ⟨fun s hp => ⟨fun ht => ?_, fun ht hz => ?_⟩, ?_, fun s h1 h2 => ⟨fun ht => ?_, fun ht => ?_⟩⟩
  · have hz : ReachesNoZone s.house { s with house := { s.house with showMode := true } } := .inr (.inr rfl)
    obtain ⟨t, hx, ha, h1, h2, h3, h4, h5, h6, h7, hr⟩ := takeRequest_changeRecord (i := .showModeOn .prompt)
      (block := showModeBlock true) (cause := .cleared) (new := { s.house with showMode := true }) ht (by decide)
      (by decide) rfl (inPhase_accepted (by rcases hp with hp | hp <;> simp [hp])) hz rfl rfl rfl
    exact ⟨t, hx, ha, h1, h2, h3, h4, h5, h6, fun hm => h7 (same hm), fun hm q hq => hr q _ (tells hz (by simp [hm]) hq)⟩
  · have hz : ReachesNoZone s.house { s with house := { s.house with showMode := false } } := hz.imp id .inl
    obtain ⟨t, hx, ha, h1, h2, h3, h4, h5, h6, h7, hr⟩ := takeRequest_changeRecord (i := .showModeOff .prompt)
      (block := showModeBlock false) (cause := .cleared) (new := { s.house with showMode := false }) ht (by decide)
      (by decide) rfl (inPhase_accepted (by rcases hp with hp | hp <;> simp [hp])) hz rfl rfl rfl
    exact ⟨t, hx, ha, h1, h2, h3, h4, h5, h6, fun hm => h7 (same hm), fun hm q hq => hr q _ (tells hz (by simp [hm]) hq)⟩
  · rintro s p z rfl ht hp hm hd
    obtain ⟨t, hx, ha, hu, -⟩ := takeRequest_changeHouse (i := .showModeOff .prompt)
      (block := showModeBlock false) (cause := .cleared) (new := { s.house with showMode := false }) ht (by decide)
      (by decide) rfl (inPhase_accepted (by rcases hp with hp | hp <;> simp [hp]))
    obtain ⟨h1, h2, h3, h4⟩ := changeHouse_promotes (cause := .cleared) (new := { s.house with showMode := false }) hm rfl
    have hz : t.fire.zones = (promoteZones s.clock s.fire).zones := by rw [hu]; exact h1
    obtain ⟨k1, k2⟩ := promoted_of_zones hz z hd
    refine ⟨t, hx, ha, ?_, fun hi => ?_, fun hi => ?_⟩
    · rw [hu]
      rcases h3 with h3 | h3 <;> rw [h3]
      unfold House.evacuated; split <;> rfl
    · have hmem : z ∈ s.alarming := mem_delayedWith.mpr ⟨hd, hi⟩
      refine ⟨by rw [k1 hi], by rw [k1 hi], ?_, ?_⟩
      · rw [hu]; dsimp only; rw [h2]; exact List.mem_append_right _ hmem
      · rw [hu]; exact h4 (List.ne_nil_of_mem hmem)
    · rw [k2 hi]
  · exact takeRequest_unchanged (i := .showModeOn .prompt) ht (by decide) (by decide) rfl
      (inPhase_refused (by simp [h1, h2]))
  · exact takeRequest_unchanged (i := .showModeOff .prompt) ht (by decide) (by decide) rfl
      (inPhase_refused (by simp [h1, h2]))

/-! ## The Go Act interlock (R7, R11) -/

theorem failing_cons (i : Interlock) (b : Bool) (ts : List (Interlock × Bool)) :
    failing ((i, b) :: ts) = (if b = true then [i] else []) ++ failing ts := by
  cases b <;> rfl

theorem anyDelayed_iff (f : Fire) : f.anyDelayed = true ↔ ∃ z : ZoneId, f.zones[z].state = .delayed := by
  simp only [Fire.anyDelayed, List.any_eq_true, beq_iff_eq]
  constructor
  · rintro ⟨r, hr, hs⟩
    obtain ⟨n, hn, rfl⟩ := List.getElem_of_mem hr
    exact ⟨⟨n, by simpa using hn⟩, by simpa using hs⟩
  · rintro ⟨z, hz⟩
    exact ⟨f.zones[z], by simp, hz⟩

/-- The conditions of R7 that RESUME and GO ACT share, in the order of their bits. -/
theorem goActInterlock_none (s : State) :
    s.goActInterlock none = (if s.house.clearance = .withheld then [Interlock.clearanceWithheld] else []) ++
      (if s.fire.condition = .alert ∨ s.fire.condition = .evacuate then [.fireNotQuiet] else []) ++
      (if s.curtain.state ≠ .stowed then [.curtainNotStowed] else []) ++
      (if ∃ z : ZoneId, s.fire.zones[z].state = .delayed then [.zoneDelayed] else []) := by
  have hq : (s.fire.condition != .quiet) = true ↔ s.fire.condition = .alert ∨ s.fire.condition = .evacuate := by
    cases s.fire.condition <;> decide
  simp only [State.goActInterlock, failing_cons, hq, anyDelayed_iff, beq_iff_eq, bne_iff_ne, ne_eq,
    show failing [] = [] from rfl, List.append_assoc, List.append_nil, reduceCtorEq, Bool.and_eq_true, false_and, if_false]

/-- GO ACT adds the demonstration, for the first act alone (R7). -/
theorem goActInterlock_some (s : State) (n : Nat) :
    s.goActInterlock (some n) = s.goActInterlock none ++
      (if n = 1 ∧ s.params.demoRequired = true ∧ s.house.curtainShown = false then
        [Interlock.demonstrationOutstanding] else []) := by
  have hd : (some n == some 1 && s.params.demoRequired && !s.house.curtainShown) = true ↔
      n = 1 ∧ s.params.demoRequired = true ∧ s.house.curtainShown = false := by
    simp [and_assoc]
  simp only [State.goActInterlock, failing_cons, hd, show failing [] = [] from rfl, List.append_nil,
    List.append_assoc]
  simp

theorem goActInterlock_clear {s : State} (h1 : s.house.clearance = .given) (h2 : s.fire.condition = .quiet)
    (h3 : s.curtain.state = .stowed) (h4 : NoneDelayed s) : s.goActInterlock none = [] := by
  have : ¬ ∃ z : ZoneId, s.fire.zones[z].state = .delayed := fun ⟨z, hz⟩ => h4 z hz
  rw [goActInterlock_none]
  simp only [h1, h2, h3, this, reduceCtorEq, if_false, or_self, ne_eq, not_true, List.append_nil]

/-- GO ACT with no condition in the way begins the next act (R11). -/
theorem goAct_begins {s : State} (ht : takeable .prompt ⟨0x07, []⟩ s = true)
    (hp : s.house.phase = .houseOpen ∨ s.house.phase = .interval) (h1 : s.house.clearance = .given)
    (h2 : s.fire.condition = .quiet) (h3 : s.curtain.state = .stowed) (h4 : NoneDelayed s)
    (h5 : s.house.actNumber = 0 → s.params.demoRequired = true → s.house.curtainShown = true) :
    ∃ t, exec (.goAct .prompt) s = .next t ∧
      AnsweredWith .prompt 0x07 (done (.number (s.house.actNumber + 1))) s t ∧ t.house = s.house.actBegun s.clock ∧
      t.fire = s.fire ∧ PhaseHandedOn s t ∧
      t.calls = (changeHouse .consumed (s.house.actBegun s.clock) s).calls ∧
      ∀ q n, Reaches q n s (changeHouse .consumed (s.house.actBegun s.clock) s) → Reaches q n s t := by
  have hi : s.goActInterlock (some (s.house.actNumber + 1)) = [] := by
    rw [goActInterlock_some, goActInterlock_clear h1 h2 h3 h4, if_neg, List.nil_append]
    rintro ⟨ha, hd, hc⟩
    rw [h5 (by omega) hd] at hc
    exact absurd hc (by decide)
  obtain ⟨t, hx, ha, k1, k2, k3, -, k5, k6⟩ := takeRequest_changePhase (i := .goAct .prompt) (block := goActBlock)
    (cause := .consumed) (new := s.house.actBegun s.clock) (a := done (.number (s.house.actNumber + 1))) ht
    (by decide) (by decide) rfl
    ((inPhase_accepted (by rcases hp with hp | hp <;> simp [hp])).trans (by rw [hi]; rfl))
    (.inl h4) (by rcases hp with hp | hp <;> simp [House.actBegun, hp])
  exact ⟨t, hx, ha, k1, k2, k3, k5, k6⟩

/-- RESUME into ACT with no condition in the way (R15). -/
theorem resume_act {s : State} (ht : takeable .prompt ⟨0x0A, []⟩ s = true) (hp : s.house.phase = .stopped)
    (ho : s.house.stop.map (·.origin) = some .act) (hc : s.goActInterlock none = []) :
    ∃ t, exec (.resume .prompt) s = .next t ∧ AnsweredWith .prompt 0x0A (done .empty) s t ∧
      t.house = s.house.resumedAct ∧ t.fire = s.fire ∧ PhaseHandedOn s t := by
  obtain ⟨r, hr, hro⟩ := Option.map_eq_some_iff.mp ho
  obtain ⟨t, hx, ha, k1, k2, k3, -⟩ := takeRequest_changePhase (i := .resume .prompt) (block := resumeBlock)
    (cause := .consumed) (new := s.house.resumedAct) (a := done .empty) ht (by decide) (by decide) rfl
    (by unfold resumeBlock; rw [hp, hr]; simp only [hro, if_true, hc]; rfl) (.inr (.inl rfl))
    (by simp [House.resumedAct, hp])
  exact ⟨t, hx, ha, k1, k2, k3⟩

/-- RESUME into ACT with a condition in the way (R7). -/
theorem resume_act_refused {s : State} (ht : takeable .prompt ⟨0x0A, []⟩ s = true) (hp : s.house.phase = .stopped)
    (ho : s.house.stop.map (·.origin) = some .act) (hc : s.goActInterlock none ≠ []) :
    exec (.resume .prompt) s =
      .next (s.withReply .prompt 0x0A ⟨.refused, .interlock (s.goActInterlock none)⟩) := by
  obtain ⟨r, hr, hro⟩ := Option.map_eq_some_iff.mp ho
  refine takeRequest_unchanged (i := .resume .prompt) ht (by decide) (by decide) rfl ?_
  unfold resumeBlock
  rw [hp, hr]
  simp only [hro, if_true]
  exact interlocked_failing hc

/-- Settles O11: the refusal carries the list of every condition that holds, in bit order; with none the record is
written. -/
theorem goActInterlock : Obligations.GoActInterlock := by
  refine ⟨fun s c hc demo hdemo => ?_, fun s ht hp h1 h2 h3 h4 h5 => ?_⟩
  · rw [← goActInterlock_none] at hc
    have hd : s.goActInterlock (some (s.house.actNumber + 1)) = c ++ demo := by rw [goActInterlock_some, hc, hdemo]
    refine ⟨fun ht hp hne => ?_, fun ht hn1 hn2 => ?_, fun ht hp ho hne => ?_, fun ht hp ho he => ?_⟩
    · refine takeRequest_unchanged (i := .goAct .prompt) ht (by decide) (by decide) rfl
        ((inPhase_accepted (by rcases hp with hp | hp <;> simp [hp])).trans ?_)
      rw [hd]
      exact interlocked_failing hne
    · exact takeRequest_unchanged (i := .goAct .prompt) ht (by decide) (by decide) rfl
        (inPhase_refused (by simp [hn1, hn2]))
    · rw [hc]; exact resume_act_refused ht hp ho (hc ▸ hne)
    · obtain ⟨t, hx, ha, hh, -⟩ := resume_act ht hp ho (hc ▸ he)
      exact ⟨t, hx, ha, by rw [hh]; rfl⟩
  · obtain ⟨t, hx, ha, k1, k2, k3, -, hr⟩ := goAct_begins ht hp h1 h2 h3 h4 h5
    exact ⟨t, hx, ha, k1, k2, k3, fun q hq => hr q _
      (changeHouse_tellsClearance (new := s.house.actBegun s.clock) (.inl h4) (by simp [House.actBegun, h1]) hq)⟩

end Sys2Proof.Machine
end

section
/-! The acts, the intervals, SHOW STOP and RESUME (R12 to R15, R20, R21). -/
namespace Sys2Proof.Machine

/-! ## END ACT (R12) -/

/-- A phase that closes leaves nothing to evacuate: the record of R14 is the one already written. -/
theorem closedByAct_evacuated (now : Nat) (h : House) : (h.closedByAct now).evacuated = h.closedByAct now := by
  simp [House.evacuated, House.closedByAct, Phase.stoppable]

/-- A taken request that turns show mode off in the record it writes promotes the zones that stand DELAYED (R33). -/
theorem takeRequest_promotes {p : Port} {i : Instr} {block : State → State × Answer} {s : State} {a : Answer}
    {cause : ClearanceCause} {new : House} (ht : takeable p (requestFrame i) s = true)
    (hk : kindKnown (requestFrame i).kind = true) (hp : permitted p (requestFrame i).kind = true)
    (hs : shapeOk i = true) (hb : block s = (changeHouse cause new s, a)) (h1 : s.house.showMode = true)
    (h2 : new.showMode = false) :
    ∃ t, takeRequest p i block s = .next t ∧ AnsweredWith p (requestFrame i).kind a s t ∧
      (t.house = new ∨ t.house = new.evacuated) ∧ t.fire.alarmList = s.fire.alarmList ++ s.alarming ∧
      ∀ z : ZoneId, s.fire.zones[z].state = .delayed → Promoted z s t := by
  obtain ⟨t, hx, ha, hu, -⟩ := takeRequest_changeHouse ht hk hp hs hb
  obtain ⟨k1, k2, k3, -⟩ := changeHouse_promotes (cause := cause) h1 h2
  exact ⟨t, hx, ha, by rw [hu]; exact k3, by rw [hu]; exact k2, fun z => promoted_of_zones (by rw [hu]; exact k1) z⟩

/-- END ACT in ACT: an interval, the refusal of act 9, and the end of the performance. -/
theorem endAct_inAct (s : State) (hp : s.house.phase = .act) :
    (takeable .prompt ⟨0x08, [0]⟩ s = true → s.house.actNumber ≠ 9 →
      ∃ t, exec (.endAct .prompt 0) s = .next t ∧ AnsweredWith .prompt 0x08 (done .empty) s t ∧
        t.house = s.house.intervalBegun s.clock s.params.interval ∧ t.fire = s.fire ∧ PhaseHandedOn s t) ∧
    (takeable .prompt ⟨0x08, [0]⟩ s = true → s.house.actNumber = 9 →
      exec (.endAct .prompt 0) s = .next (s.withReply .prompt 0x08 ⟨.refused, .refusal .badNumber⟩)) ∧
    (takeable .prompt ⟨0x08, [1]⟩ s = true → NoneDelayed s ∨ s.house.showMode = false →
      ∃ t, exec (.endAct .prompt 1) s = .next t ∧ AnsweredWith .prompt 0x08 (done .empty) s t ∧
        t.house = s.house.closedByAct s.clock ∧ t.fire = s.fire ∧ PhaseHandedOn s t) ∧
    (∀ z : ZoneId, takeable .prompt ⟨0x08, [1]⟩ s = true → s.house.showMode = true →
      s.fire.zones[z].state = .delayed →
      ∃ t, exec (.endAct .prompt 1) s = .next t ∧ AnsweredWith .prompt 0x08 (done .empty) s t ∧
        t.house = s.house.closedByAct s.clock ∧ Promoted z s t ∧
        t.fire.alarmList = s.fire.alarmList ++ s.alarming) := by
  have closes : endActBlock true s = (changeHouse .cleared (s.house.closedByAct s.clock) s, done .empty) :=
    inPhase_accepted (by simp [hp])
  refine ⟨fun ht hn => ?_, fun ht hn => ?_, fun ht hz => ?_, fun z ht hm hd => ?_⟩
  · obtain ⟨t, hx, ha, k1, k2, k3, -⟩ := takeRequest_changePhase (i := .endAct .prompt 0) (block := endActBlock false)
      (new := s.house.intervalBegun s.clock s.params.interval) ht (by decide) (by decide) rfl
      ((inPhase_accepted (by simp [hp])).trans ((if_neg (by decide)).trans (if_neg hn))) (.inr (.inl rfl))
      (by simp [House.intervalBegun, hp])
    exact ⟨t, hx, ha, k1, k2, k3⟩
  · exact takeRequest_unchanged (i := .endAct .prompt 0) (block := endActBlock false) ht (by decide) (by decide) rfl
      ((inPhase_accepted (by simp [hp])).trans ((if_neg (by decide)).trans (if_pos hn)))
  · obtain ⟨t, hx, ha, k1, k2, k3, -⟩ := takeRequest_changePhase (i := .endAct .prompt 1) (block := endActBlock true) ht
      (by decide) (by decide) rfl closes (hz.imp id .inl) (by simp [House.closedByAct, hp])
    exact ⟨t, hx, ha, k1, k2, k3⟩
  · obtain ⟨t, hx, ha, k1, k2, k3⟩ := takeRequest_promotes (i := .endAct .prompt 1) (block := endActBlock true) ht
      (by decide) (by decide) rfl closes hm rfl
    exact ⟨t, hx, ha, by rwa [closedByAct_evacuated, or_self] at k1, k3 z hd, k2⟩

/-! ## The interval (R20, R21) -/

/-- EXTEND INTERVAL in INTERVAL: its minutes clamped, the amount cut at the largest countdown. -/
theorem extendInterval_inInterval (s : State) (m : Byte) (ht : takeable .prompt ⟨0x10, [m]⟩ s = true)
    (hp : s.house.phase = .interval) (n : Nat) (hn : n = max 1 (min 30 m.toNat)) (added : Nat)
    (ha : added = min (600 * n) (36000 - s.house.countdown)) :
    ∃ t, exec (.extendInterval .prompt m) s = .next t ∧ t.house = s.house.extended added ∧
      AnsweredWith .prompt 0x10
        ⟨if n = m.toNat ∧ added = 600 * n then .done else .clamped,
          .countdown t.house.countdown t.house.anchors.intervalEnd⟩ s t ∧
      t.fire = s.fire ∧ t.curtain = s.curtain ∧ t.lights = s.lights ∧ KeepsBase s t := by
  have hc : clampNat 1 30 m.toNat = n := hn.symm
  have he : s.house.extension n = added := by
    rw [House.extension, intervalDs, countdownMax, ha, Nat.mul_comm]
  have hr : (decide (n ≠ m.toNat) || decide (added < intervalDs n)) = !decide (n = m.toNat ∧ added = 600 * n) := by
    have : added ≤ 600 * n := ha ▸ Nat.min_le_left _ _
    have ht : added < intervalDs n ↔ ¬ added = 600 * n := by unfold intervalDs; omega
    simp only [ht, Bool.decide_and, Bool.not_and, decide_not, ne_eq]
  have hz : ReachesNoZone s.house { s with house := s.house.extended added } := .inr (.inl rfl)
  obtain ⟨t, hx, hA, hu, -⟩ := takeRequest_changeHouse (i := .extendInterval .prompt m)
    (block := extendIntervalBlock m.toNat) (cause := .cleared) (new := s.house.extended added)
    (a := ⟨if n = m.toNat ∧ added = 600 * n then .done else .clamped,
      .countdown (s.house.extended added).countdown (s.house.extended added).anchors.intervalEnd⟩)
    ht rfl rfl rfl
    ((inPhase_accepted (by simp [hp])).trans (by
      dsimp only
      rw [hc, he, doneOrClamped, hr]
      by_cases h : n = m.toNat ∧ added = 600 * n <;> simp [h]))
  obtain ⟨h1, h2, h3, h4, -⟩ := changeHouse_others (cause := .cleared) hz
  have hh : t.house = s.house.extended added := by rw [hu]; exact h1
  refine ⟨t, hx, hh, hh ▸ hA, by rw [hu]; exact h2, by rw [hu]; exact h3, ?_,
    by rw [hu]; exact (quietly_changeHouse .cleared _ s).1⟩
  rw [hu]
  exact h4.trans (handRecord_samePhase (old := s.house) (s := { s with house := s.house.extended added }) rfl rfl).1

/-- A PRESENT port with room takes a notice at the tail of its transmit queue (R176). -/
theorem PortRecord.queueNotice_room {now : Nat} {n : Notice} {r : PortRecord} (hp : r.present = true)
    (hr : (r.tx.filter TxFrame.isNotice).length < 20) : r.queueNotice now n = { r with tx := r.tx ++ [.notice n] } := by
  rcases r.queueNotice_cases now n with ⟨hl, -⟩ | ⟨-, -, h⟩ | ⟨-, hf, -⟩
  · exact absurd (hp.symm.trans hl) (by decide)
  · exact h
  · exact absurd hr (Nat.not_lt.mpr hf)

/-- INTERVAL UP is raised once, when the countdown has run out (R20, log 15). -/
theorem intervalCountdownExpiry_tells {s : State} (hi : s.inert = false) (hd : s.intervalUpDue = true)
    (hp : s.house.phase = .interval) (hc : s.house.countdown = 0) :
    ∃ t, exec .intervalCountdownExpiry s = .next t ∧ t.intervalUpDue = false ∧ KeepsLinks s t ∧
      t = { s with intervalUpDue := false, links := t.links } ∧
      t.links.panel = s.links.panel ∧ t.links.console = s.links.console ∧
      ∀ q : Port, q = .prompt ∨ q = .house →
        Reaches q (.intervalUp s.house.actNumber s.house.anchors.intervalEnd) s t ∧
        ((s.links.get q).present = true → ((s.links.get q).tx.filter TxFrame.isNotice).length < 20 →
          t.links.get q = { s.links.get q with
            tx := (s.links.get q).tx ++ [.notice (.intervalUp s.house.actNumber s.house.anchors.intervalEnd)] }) := by
  refine ⟨_, if_pos (by simp [State.intervalIsUp, hi, hd, hp, hc]), rfl, keepsLinks_post _ s, rfl, rfl, rfl,
    fun q hq => ⟨reaches_post_one s _ _ (by simpa using hq), fun hpr hroom => ?_⟩⟩
  rcases hq with rfl | rfl
  · exact PortRecord.queueNotice_room hpr hroom
  · exact PortRecord.queueNotice_room hpr hroom

/-- Settles O12: each request writes its record in its phase; the countdown's end is told once, to the two desks. -/
theorem actsEndAndIntervalsRun : Obligations.ActsEndAndIntervalsRun := by
  refine ⟨endAct_inAct, ⟨extendInterval_inInterval, fun s => intervalCountdownExpiry_tells, fun s hd => ?_⟩,
    fun s hp => ⟨fun ht => ?_, fun ht => ?_⟩, fun s m ht hp => ?_⟩
  · exact if_neg (by simp [State.intervalIsUp, hd])
  · exact takeRequest_unchanged (i := .endAct .prompt 0) (block := endActBlock false) ht (by decide) (by decide) rfl
      (inPhase_refused (by simp [hp]))
  · exact takeRequest_unchanged (i := .endAct .prompt 1) (block := endActBlock true) ht (by decide) (by decide) rfl
      (inPhase_refused (by simp [hp]))
  · exact takeRequest_unchanged (i := .extendInterval .prompt m) (block := extendIntervalBlock m.toNat) ht rfl rfl rfl
      (inPhase_refused (by simp [hp]))

/-! ## SHOW STOP (R13, R127) -/

theorem Circuit.startFade_began (now slot duration target : Nat) (c : Circuit) :
    c.fadeBegan now slot duration target (c.startFade now slot duration target) := by
  constructor <;> intro h <;> simp [startFade, h, Nat.ne_of_gt]

theorem Lights.startPreset_circuits (now slot : Nat) (preset : Fin 8) (l : Lights) (i : Fin 48) :
    (l.startPreset now slot preset).circuits[i] =
      l.circuits[i].startFade now slot (l.slotDuration slot) l.presets[preset].levels[i] := by
  simp only [startPreset, startAll, vmapIdx_get]
  congr 1
  simp

/-- A stop by the desk gives the authority back to the house and starts the show-stop preset where it is in use. -/
theorem lightsPhaseHandoff_deskStop (origin : Phase) (e : LightEnv) (l : Lights) :
    (lightsPhaseHandoff .stopped (some ⟨origin, .desk⟩) e ⟨l, []⟩).val.authority = .house ∧
      (lightsPhaseHandoff .stopped (some ⟨origin, .desk⟩) e ⟨l, []⟩).val.circuits =
        if l.presets[(7 : Fin 8)].inUse = true then
          (l.startPreset e.now l.presets[(7 : Fin 8)].slot 7).circuits else l.circuits := by
  unfold lightsPhaseHandoff
  dsimp only
  rw [if_neg (by decide)]
  refine ⟨changeAuthority_house _ _ _, ?_⟩
  rw [changeAuthority_circuits]
  by_cases h : l.presets[(7 : Fin 8)].inUse = true
  · rw [if_pos h, if_pos ⟨rfl, rfl, h⟩]; rfl
  · rw [if_neg h, if_neg fun hc => h hc.2.2]; rfl

theorem stoppable_of {p : Phase} (h : p = .houseOpen ∨ p = .act ∨ p = .interval) : p.stoppable = true := by
  rcases h with rfl | rfl | rfl <;> rfl

/-- SHOW STOP that no zone has a part in. -/
theorem showStop_calm {s : State} (ht : takeable .prompt ⟨0x09, []⟩ s = true)
    (hp : s.house.phase = .houseOpen ∨ s.house.phase = .act ∨ s.house.phase = .interval)
    (hz : NoneDelayed s ∨ s.house.showMode = false) :
    ∃ t, exec (.showStop .prompt) s = .next t ∧ AnsweredWith .prompt 0x09 (done .empty) s t ∧
      t.house = s.house.stopped .desk ∧ t.fire = s.fire ∧ PhaseHandedOn s t ∧ t.lights.authority = .house ∧
      (s.lights.presets[(7 : Fin 8)].inUse = true → ∀ i : Fin 48, s.lights.circuits[i].fadeBegan s.clock
        s.lights.presets[(7 : Fin 8)].slot (s.lights.slotDuration s.lights.presets[(7 : Fin 8)].slot)
        s.lights.presets[(7 : Fin 8)].levels[i] t.lights.circuits[i]) ∧
      (s.lights.presets[(7 : Fin 8)].inUse = false → t.lights.circuits = s.lights.circuits) := by
  have hn : ¬ (s.house.phase = (s.house.stopped .desk).phase ∧ s.house.stop = (s.house.stopped .desk).stop) := by
    rcases hp with hp | hp | hp <;> simp [House.stopped, hp]
  have hz' : ReachesNoZone s.house { s with house := s.house.stopped .desk } := hz.imp id .inl
  obtain ⟨t, hx, ha, k1, k2, k3, k4, -⟩ := takeRequest_changePhase (i := .showStop .prompt) (block := showStopBlock) ht
    (by decide) (by decide) rfl (inPhase_accepted (stoppable_of hp)) hz' hn
  obtain ⟨-, -, -, h4, -⟩ := changeHouse_others (cause := .cleared) hz'
  have hl : t.lights = (lightsPhaseHandoff .stopped (some ⟨s.house.phase, .desk⟩) s.lightEnv ⟨s.lights, []⟩).val := by
    rw [k4, h4]
    exact (handRecord_newPhase (old := s.house) (s := { s with house := s.house.stopped .desk }) hn).1
  obtain ⟨l1, l2⟩ := lightsPhaseHandoff_deskStop s.house.phase s.lightEnv s.lights
  rw [← hl] at l1 l2
  refine ⟨t, hx, ha, k1, k2, k3, l1, fun hu i => ?_, fun hu => ?_⟩
  · rw [l2, if_pos hu, Lights.startPreset_circuits]
    exact Circuit.startFade_began _ _ _ _ _
  · rw [l2, if_neg (by rw [hu]; decide)]

/-- SHOW STOP with zones DELAYED promotes them; where the ladder then reaches EVACUATE the cause of the stop is the
fire's (R14). -/
theorem showStop_promotes {s : State} (ht : takeable .prompt ⟨0x09, []⟩ s = true)
    (hp : s.house.phase = .houseOpen ∨ s.house.phase = .act ∨ s.house.phase = .interval)
    (hm : s.house.showMode = true) (z : ZoneId) (hd : s.fire.zones[z].state = .delayed) :
    ∃ t, exec (.showStop .prompt) s = .next t ∧ AnsweredWith .prompt 0x09 (done .empty) s t ∧
      t.house.phase = .stopped ∧ t.house.stop.map (·.origin) = some s.house.phase ∧ t.house.showMode = false ∧
      Promoted z s t ∧ t.fire.alarmList = s.fire.alarmList ++ s.alarming := by
  obtain ⟨t, hx, ha, k1, k2, k3⟩ := takeRequest_promotes (i := .showStop .prompt) (block := showStopBlock) ht (by decide)
    (by decide) rfl (inPhase_accepted (stoppable_of hp)) hm rfl
  refine ⟨t, hx, ha, ?_, ?_, ?_, k3 z hd, k2⟩ <;>
    rcases k1 with k1 | k1 <;> rw [k1] <;> simp [House.evacuated, House.stopped, Phase.stoppable]

/-! ## RESUME (R15) -/

theorem quietInterlock_quiet {s : State} (h : s.fire.condition = .quiet) : s.quietInterlock = [] := by
  simp [State.quietInterlock, failing, h]

theorem quietInterlock_loud {s : State} (h : s.fire.condition ≠ .quiet) : s.quietInterlock = [.fireNotQuiet] := by
  simp [State.quietInterlock, failing, h]

/-- RESUME into an origin other than ACT looks at the fire condition alone. -/
theorem resumeBlock_interlocked {s : State} {origin : Phase} {cause : StopCause} (hp : s.house.phase = .stopped)
    (hs : s.house.stop = some ⟨origin, cause⟩) (ho : origin = .houseOpen ∨ origin = .interval) :
    resumeBlock s = interlocked s.quietInterlock (changed .cleared (s.house.resumed origin) .empty) s := by
  unfold resumeBlock
  rw [hp, hs]
  rcases ho with rfl | rfl <;> rfl

/-- Settles O13: SHOW STOP and RESUME write the record in their phases, and the stop starts the show-stop preset. -/
theorem showStopAndResume : Obligations.ShowStopAndResume := by
  refine ⟨fun s ht => ⟨showStop_calm ht, showStop_promotes ht, fun h1 h2 h3 => ?_⟩,
    fun s origin cause ht hp hs hq => ⟨?_, fun ho => ?_⟩, fun s ht => ⟨fun hp => ?_, fun origin cause hp hs ho hq => ?_⟩⟩
  · exact takeRequest_unchanged (i := .showStop .prompt) ht (by decide) (by decide) rfl
      (inPhase_refused (by cases h : s.house.phase <;> simp_all [Phase.stoppable]))
  · rintro rfl hc hk hz
    exact resume_act ht hp (by rw [hs]; rfl) (goActInterlock_clear hc hq hk hz)
  · obtain ⟨t, hx, ha, k1, k2, k3, -⟩ := takeRequest_changePhase (i := .resume .prompt) (block := resumeBlock)
      (cause := .cleared) (new := s.house.resumed origin) (a := done .empty) ht (by decide) (by decide) rfl
      (by rw [resumeBlock_interlocked hp hs ho, quietInterlock_quiet hq]; rfl) (.inr (.inl rfl))
      (by rcases ho with rfl | rfl <;> simp [House.resumed, hp])
    exact ⟨t, hx, ha, k1, k2, k3⟩
  · refine takeRequest_unchanged (i := .resume .prompt) (block := resumeBlock) ht (by decide) (by decide) rfl ?_
    unfold resumeBlock
    split
    · next h _ => exact absurd h hp
    · rfl
  · exact takeRequest_unchanged (i := .resume .prompt) ht (by decide) (by decide) rfl
      (by rw [resumeBlock_interlocked hp hs ho, quietInterlock_loud hq]; rfl)

end Sys2Proof.Machine
end

section
/-! What reset leaves (R184, Table 11-4), and that every law holds there. -/
namespace Sys2Proof.Machine

/-! ## The tables at power-on -/

/-- No zone waits to be acknowledged at power-on (R42). -/
theorem powerOn_attention : Fire.powerOn.promptAttention = false ∧ Fire.powerOn.houseAttention = false := by
  have hz {r : Zone} (h : r ∈ Fire.powerOn.zones.toList) : r.pendingPrompt = false ∧ r.pendingHouse = false := by
    obtain ⟨n, hn, rfl⟩ := List.getElem_of_mem h
    have := powerOn_zone ⟨n, by simpa using hn⟩
    rw [Vector.getElem_toList, show Fire.powerOn.zones[n] = _ from this]
    exact ⟨rfl, rfl⟩
  exact ⟨List.any_eq_false.mpr fun r hr => by simp [hz hr], List.any_eq_false.mpr fun r hr => by simp [hz hr]⟩

theorem powerOn_circuit (i : Fin 48) : Lights.powerOn.circuits[i] = Circuit.powerOn := by
  simp [Lights.powerOn]

theorem powerOn_preset (n : Fin 8) : Lights.powerOn.presets[n] = Preset.powerOn := by
  simp [Lights.powerOn]

theorem powerOn_descriptor (x : CallId) : Calls.powerOn.table[x] = Descriptor.free := by
  simp [Calls.powerOn]

theorem powerOn_pagingZone (z : Fin 12) : Calls.powerOn.paging[z] = ⟨false, true, false, false, none⟩ := by
  simp [Calls.powerOn]

theorem powerOn_port (p : Port) : Links.powerOn.get p = PortRecord.powerOn := by cases p <;> rfl

/-- Settles O51: every table at power-on, record by record. -/
theorem resetLeavesThePowerOnValues : Obligations.ResetLeavesThePowerOnValues := by
  refine ⟨rfl, rfl, rfl, rfl, fun z => ?_, rfl, powerOn_attention.1, powerOn_attention.2, rfl, rfl, powerOn_circuit, rfl,
    fun n => ?_, rfl, rfl, rfl, rfl, rfl, rfl, rfl, rfl, rfl, fun x => ?_, rfl, rfl, rfl, rfl, rfl, rfl, rfl, rfl, rfl,
    rfl, rfl, rfl, fun ch => ?_, fun z => ⟨powerOn_pagingZone z, ?_⟩, powerOn_port, powerOn_line, rfl⟩
  · exact (powerOn_zone z).trans (by simp [Zone.powerOn])
  · show (Lights.powerOn.presets[n]).slot = 1 ∧ (Lights.powerOn.presets[n]).inUse = false ∧
      ∀ i : Fin 48, (Lights.powerOn.presets[n]).levels[i] = 0
    rw [powerOn_preset]
    exact ⟨rfl, rfl, fun i => by simp [Preset.powerOn]⟩
  · show (Calls.powerOn.table[x]).life = .free ∧ (Calls.powerOn.table[x]).plays = 0 ∧
      (Calls.powerOn.table[x]).missed = 0
    rw [powerOn_descriptor]
    exact ⟨rfl, rfl, rfl⟩
  · cases ch <;> exact ⟨rfl, rfl, rfl⟩
  · show (Calls.powerOn.paging[z]).conn = none
    rw [powerOn_pagingZone]

/-! ## The laws at power-on -/

theorem powerOn_levelsLawful (pins : Pins) : (State.atPowerOn pins).levelsLawful := by
  refine ⟨fun c hc => ?_, fun p hp x hx => ?_, show 64 ≤ 255 by decide⟩
  · have h : c = Circuit.powerOn := by simpa [State.atPowerOn, Lights.powerOn] using hc
    subst h
    exact ⟨by decide, by decide, fun f hf => by cases hf⟩
  · have h : p = Preset.powerOn := by simpa [State.atPowerOn, Lights.powerOn] using hp
    subst h
    have h : x = 0 := by simpa [Preset.powerOn] using hx
    subst h
    decide

theorem mem_generalCalls (i : CallId) : i ∈ generalCalls ↔ 2 ≤ i.val := by
  revert i; decide

/-- Every general call is in the pool at power-on, and no call is anywhere else. -/
theorem powerOn_callsLawful : Calls.powerOn.lawful := by
  refine ⟨fun i hi => ?_, fun i hi => ⟨?_, List.not_mem_nil, List.not_mem_nil, List.not_mem_nil, List.not_mem_nil, ?_⟩,
    ?_, List.nodup_nil, List.nodup_nil, List.nodup_nil, List.nodup_nil, ?_, ?_, ?_, ?_⟩
  · have hp : Calls.powerOn.pool.contains i = true := List.contains_iff_mem.mpr ((mem_generalCalls i).mpr hi)
    rw [powerOn_descriptor]
    simp only [Calls.standsIn, hp, List.filter_cons]
    rfl
  · exact fun h => absurd ((mem_generalCalls i).mp h) (by omega)
  · rw [powerOn_descriptor]; rfl
  · exact (List.nodup_finRange 48).drop
  all_goals decide

theorem powerOn_callsOrdered : Calls.powerOn.ordered := by
  refine ⟨?_, .nil, .nil, .nil, fun i _ => ?_⟩
  · exact (List.pairwise_lt_finRange 48).drop
  · rw [powerOn_descriptor]
    refine ⟨fun h => ?_, fun h => ?_, fun h => absurd rfl h⟩
    · exact absurd h (by decide)
    · exact absurd h (by decide)

/-- Settles O60: the state after reset holds no alarm, no fade, no call and no held demand. -/
theorem resetIsLawful : Obligations.ResetIsLawful := by
  obtain ⟨hf, hh, hs⟩ := atPowerOn_ladderLaw Pins.rest
  refine ⟨fun p => ?_, ⟨rfl, rfl, rfl, by decide, by decide, by decide⟩, hf, fun h => absurd h (by decide),
    powerOn_levelsLawful _, ⟨rfl, rfl, rfl, rfl, rfl, rfl, rfl, rfl, rfl⟩, hh, hs, ⟨by decide, by decide⟩,
    powerOn_callsLawful, powerOn_callsOrdered, rfl⟩
  show (Links.powerOn.get p).lawful
  rw [powerOn_port]
  exact ⟨by decide, by decide, by decide, fun _ => ⟨rfl, rfl, rfl⟩, by decide⟩

end Sys2Proof.Machine
end

section
/-! One decisecond of the clock and of every timer (R2). -/
namespace Sys2Proof.Machine

/-- The countdown runs down in INTERVAL, and stays at 0 (R20). -/
theorem House.tick_eq (h : House) :
    h.tick = { h with countdown := if h.phase = .interval then h.countdown - 1 else h.countdown } := by
  unfold House.tick
  by_cases hp : h.phase = .interval
  · rcases Nat.eq_zero_or_pos h.countdown with hc | hc
    · rw [if_neg (by omega), if_pos hp, show h.countdown - 1 = h.countdown by omega]
    · rw [if_pos ⟨hp, hc⟩, if_pos hp]
  · rw [if_neg fun hc => hp hc.1, if_neg hp]

theorem Curtain.samples_iff (c : Curtain) : c.samples = true ↔
    c.state = .raising ∨ c.state = .stowed ∨
      ((c.state = .descending ∨ c.state = .secondary ∨ c.state = .jammed) ∧ c.descent ≠ none) := by
  have hf : c.state.falling = true ↔ c.state = .descending ∨ c.state = .secondary ∨ c.state = .jammed := by
    cases c.state <;> decide
  simp only [Curtain.samples, Bool.or_eq_true, Bool.and_eq_true, beq_iff_eq, hf, ← Option.isSome_iff_ne_none, or_assoc]

theorem Curtain.tick_eq (c : Curtain) :
    c.tick = { c with samplesDue :=
      if c.state = .raising ∨ c.state = .stowed ∨
          ((c.state = .descending ∨ c.state = .secondary ∨ c.state = .jammed) ∧ c.descent ≠ none) then c.samplesDue + 1
      else c.samplesDue } := by
  simp only [Curtain.tick, c.samples_iff]
  split <;> rfl

theorem Lights.tick_stepsDue (l : Lights) (i : Fin 48) :
    l.tick.stepsDue[i] = if l.circuits[i].fade = none then 0 else l.stepsDue[i] + 1 := by
  have hi : l.circuits.toList[i.val]? = some l.circuits[i] := by simp
  simp only [Lights.tick, vmapIdx_get, hi, Option.bind_some]
  cases l.circuits[i].fade <;> rfl

theorem RunPosition.tick_eq (r : RunPosition) :
    r.tick = match r with
      | .inGap ch n => .inGap ch (n - 1)
      | r => r := by
  cases r <;> rfl

/-- Settles O53: each record's tick is what its rule says, and the state's tick is theirs. -/
theorem decisecondRunsEveryTimer : Obligations.DecisecondRunsEveryTimer := by
  intro raw s hi
  refine ⟨(s.readEncoder raw).tick, ?_, rfl, rfl, rfl, rfl, hi, rfl, s.house.tick_eq, ?_, fun l => vmap_get _ _ l,
    fun z => vmap_get _ _ z, rfl, s.curtain.tick_eq, rfl, s.lights.tick_stepsDue, fun ch => ?_, ?_, fun p => ?_⟩
  · show execPerformanceClockTick raw s = _
    unfold execPerformanceClockTick
    rw [hi]
    rfl
  · show (s.intervalUpDue || s.house.countdownEnds) = true ↔ _
    simp [House.countdownEnds]
  · cases ch <;> rfl
  · show s.calls.tick = _
    unfold Calls.tick
    rw [RunPosition.tick_eq, RunPosition.tick_eq]
    rfl
  · cases p <;> rfl

end Sys2Proof.Machine
end

section
/-! The curtain let go and landed (R70, R71, R78, R80, R81), and the requests that release it (R66, R68, R69). -/
namespace Sys2Proof.Machine

/-! ## The curtain record written, state by state -/

/-- The count homed: the new offset, and the disagreement above the landing window (R78, R81). -/
def Curtain.homed (e : CurtainEnv) (c : Curtain) : Curtain :=
  { c with
    homeOffset := e.raw
    faults :=
      if e.params.landingWindow < c.position e then
        { c.faults with encoderDisagree := some e.now, correction := some (c.position e) }
      else c.faults }

theorem homeCount_val (e : CurtainEnv) (w : Act Curtain) : (homeCount e w).val = w.val.homed e := by
  unfold homeCount Curtain.homed
  dsimp only
  split <;> rfl

/-- The record of a curtain that has landed by its limit (R78, R80). -/
theorem landByLimit_val (e : CurtainEnv) (w : Act Curtain) :
    (landByLimit e w).val = { w.val.homed e with
      state := .landed, enteredAt := e.now, reason := .bottomLimit, raise := none, samplesDue := 0, lowCount := none
      causes := w.val.causes.heldOnly
      descent := w.val.descent.map fun d => { d with retard := false } } := by
  show (changeState e .landed .bottomLimit _).val = _
  simp only [changeState, Act.map, homeCount_val, Curtain.retardOff, reduceCtorEq, if_false, false_or]
  rfl

/-- The record of a curtain that has begun to fall (R70). -/
def Curtain.released (e : CurtainEnv) (c : Curtain) : Curtain :=
  { c with
    state := .descending, enteredAt := e.now, reason := .demand, raise := none, samplesDue := 0, lowCount := some 0
    descent := some (makeDescent e (c.position e)) }

/-- The CURTAIN notice of a release. -/
def Curtain.releasedMail (e : CurtainEnv) (c : Curtain) : Mail :=
  ⟨curtainPorts, .curtain ⟨.descending, c.state, .demand, c.position e, c.causes, c.faults⟩⟩

theorem CurtainState.heldOut_iff (x : CurtainState) : x.heldOut = true ↔ x = .stowed ∨ x = .raising ∨ x = .halted := by
  cases x <;> decide

/-- A release demand on a curtain held out, with the bottom limit open: it falls (R70). -/
theorem releaseDemand_open {e : CurtainEnv} {w : Act Curtain} (h : w.val.state.heldOut = true)
    (hb : e.bottom ≠ some .active) :
    releaseDemand e w = ⟨w.val.released e, w.out ++ [w.val.releasedMail e]⟩ := by
  have hr : releaseDemand e w = releaseCurtain e w := by
    rcases (CurtainState.heldOut_iff _).mp h with h | h | h <;> simp only [releaseDemand, h]
  rw [hr]
  exact if_neg hb

/-- A release demand on a curtain held out, with the bottom limit closed: it lands at once (R70, R78). -/
theorem releaseDemand_closed {e : CurtainEnv} {w : Act Curtain} (h : w.val.state.heldOut = true)
    (hb : e.bottom = some .active) :
    (releaseDemand e w).val = { w.val.homed e with
      state := .landed, enteredAt := e.now, reason := .bottomLimit, raise := none, samplesDue := 0, lowCount := none
      causes := w.val.causes.heldOnly
      descent := some { makeDescent e (w.val.position e) with retard := false } } := by
  have hr : releaseDemand e w = releaseCurtain e w := by
    rcases (CurtainState.heldOut_iff _).mp h with h | h | h <;> simp only [releaseDemand, h]
  rw [hr]
  have hl : releaseCurtain e w = landByLimit e ⟨w.val.released e, w.out ++ [w.val.releasedMail e]⟩ := if_pos hb
  rw [hl, landByLimit_val]
  rfl

/-- A release demand on a curtain not held out changes nothing (R71). -/
theorem releaseDemand_falling {e : CurtainEnv} {w : Act Curtain} (h : w.val.state.heldOut = false) :
    releaseDemand e w = w := by
  have hs : w.val.state = .descending ∨ w.val.state = .secondary ∨ w.val.state = .jammed ∨ w.val.state = .landed := by
    revert h; cases w.val.state <;> decide
  rcases hs with hs | hs | hs | hs <;> simp only [releaseDemand, hs]

/-- A curtain released is held out no longer. -/
theorem releaseDemand_notHeldOut (e : CurtainEnv) (w : Act Curtain) : (releaseDemand e w).val.state.heldOut = false := by
  cases h : w.val.state.heldOut with
  | false => rw [releaseDemand_falling h, h]
  | true =>
    by_cases hb : e.bottom = some .active
    · rw [releaseDemand_closed h hb]; rfl
    · rw [releaseDemand_open h hb]; rfl

/-- The demonstration mark of a landing (R6). -/
theorem demoBookkeeping_landed {old : CurtainState} (h : old ≠ .landed) (c : Condition) (x : House) :
    demoBookkeeping old .landed (c == .quiet) x =
      { x with demoMark := x.demoMark || (x.phase.occupied && decide (c = .quiet)) } := by
  unfold demoBookkeeping
  rw [if_pos ⟨rfl, h⟩]
  cases c <;> rfl

/-- A state that is neither LANDED nor STOWED touches no mark (R6). -/
theorem demoBookkeeping_moving {old new : CurtainState} {calm : Bool} (x : House) (h1 : new ≠ .landed)
    (h2 : new ≠ .stowed) : demoBookkeeping old new calm x = x := by
  unfold demoBookkeeping
  rw [if_neg fun h => h1 h.1, if_neg fun h => h2 h.1]

/-! ## DROP CURTAIN and DEMONSTRATE CURTAIN (R68, R69) -/

/-- A request that writes the cause set and is taken as a release demand. -/
def State.letGo (causes : CauseSet) (s : State) : State :=
  s.onCurtain fun e w => releaseDemand e (w.map fun c => { c with causes := causes })

theorem letGo_open {causes : CauseSet} {s : State} (h : s.curtain.state.heldOut = true)
    (hb : s.settled bottomLine ≠ some .active) :
    (s.letGo causes).curtain = Curtain.released s.curtainEnv { s.curtain with causes := causes } ∧
      (s.letGo causes).house = s.house ∧
      ∀ q : Port, q = .prompt ∨ q = .house → Reaches q (.curtain ⟨.descending, s.curtain.state, .demand, s.position,
        causes, s.curtain.faults⟩) s (s.letGo causes) := by
  have hr := releaseDemand_open (e := s.curtainEnv) (w := ⟨{ s.curtain with causes := causes }, []⟩) h hb
  have hc : (s.letGo causes).curtain = Curtain.released s.curtainEnv { s.curtain with causes := causes } :=
    congrArg Act.val hr
  have hl : (s.letGo causes).links =
      s.links.post s.clock [Curtain.releasedMail s.curtainEnv { s.curtain with causes := causes }] :=
    congrArg (fun w : Act Curtain => s.links.post s.clock w.out) hr
  refine ⟨hc, ?_, fun q hq => Reaches.of_post hl (List.mem_singleton_self _) ?_⟩
  · show demoBookkeeping s.curtain.state (s.letGo causes).curtain.state _ s.house = s.house
    rw [hc]
    exact demoBookkeeping_moving _ (by simp [Curtain.released]) (by simp [Curtain.released])
  · rcases hq with rfl | rfl <;> simp [Curtain.releasedMail, curtainPorts]

/-- A one-shot cause leaves the set again at the landing (R80). -/
theorem letGo_closed {causes : CauseSet} {s : State} (h : s.curtain.state.heldOut = true)
    (hb : s.settled bottomLine = some .active) (hc : causes.heldOnly = s.curtain.causes.heldOnly) :
    LandedAtOnce s.position s (s.letGo causes) := by
  have hr : (s.letGo causes).curtain = _ :=
    releaseDemand_closed (e := s.curtainEnv) (w := ⟨{ s.curtain with causes := causes }, []⟩) h hb
  refine ⟨?_, ?_, ?_, rfl, rfl, rfl, (quietly_onCurtain _ s).1⟩
  · rw [hr]
    dsimp only
    rw [hc]
    rfl
  · rw [hr]; rfl
  · show demoBookkeeping s.curtain.state (s.letGo causes).curtain.state _ s.house = _
    rw [hr]
    exact demoBookkeeping_landed (fun e => by rw [e] at h; exact absurd h (by decide)) _ _

theorem letGo_falling {causes : CauseSet} {s : State} (h : s.curtain.state.heldOut = false) :
    s.letGo causes = { s with curtain := { s.curtain with causes := causes } } := by
  have hr := releaseDemand_falling (e := s.curtainEnv) (w := ⟨{ s.curtain with causes := causes }, []⟩) h
  show ({ s with
    curtain := (releaseDemand s.curtainEnv ⟨{ s.curtain with causes := causes }, []⟩).val
    links := s.links.post s.clock (releaseDemand s.curtainEnv ⟨{ s.curtain with causes := causes }, []⟩).out
    house := demoBookkeeping s.curtain.state
      (releaseDemand s.curtainEnv ⟨{ s.curtain with causes := causes }, []⟩).val.state (s.fire.condition == .quiet)
      s.house } : State) = _
  rw [hr]
  dsimp only
  rw [demoBookkeeping_eq_self s.house (.inl rfl), Links.post_nil]

theorem LandedAtOnce.relink {p : Nat} {s u t : State} (h : LandedAtOnce p s u) (ht : t = { u with links := t.links }) :
    LandedAtOnce p s t := by
  obtain ⟨h1, h2, h3, h4, h5, h6, h7⟩ := h
  rw [ht]
  exact ⟨h1, h2, h3, h4, h5, h6, h7⟩

/-- A taken request whose block tells nothing: the reply is all that joins a port. -/
theorem takeRequest_silent {p : Port} {i : Instr} {block : State → State × Answer} {s u : State} {a : Answer}
    (ht : takeable p (requestFrame i) s = true) (hk : kindKnown (requestFrame i).kind = true)
    (hp : permitted p (requestFrame i).kind = true) (hs : shapeOk i = true) (hb : block s = (u, a))
    (hl : u.links = s.links) : takeRequest p i block s = .next (u.withReply p (requestFrame i).kind a) := by
  rw [takeRequest_block ht hk hp hs, hb, ← hl, finishRequest_unchanged]

/-- DROP joins the set (R68). -/
def CauseSet.dropped (c : CauseSet) : CauseSet := { c with drop := true }

/-- DEMONSTRATION joins the set (R69). -/
def CauseSet.demonstrated (c : CauseSet) : CauseSet := { c with demonstration := true }

theorem dropCurtainBlock_eq (s : State) :
    dropCurtainBlock s = (s.letGo s.curtain.causes.dropped,
      done (.curtainState (s.letGo s.curtain.causes.dropped).curtain.state)) := rfl

/-- DROP CURTAIN by the state of the curtain and the bottom limit. -/
theorem dropCurtain_open {s : State} (ht : takeable .prompt ⟨0x1D, []⟩ s = true)
    (h : s.curtain.state.heldOut = true) (hb : s.settled bottomLine ≠ some .active) :
    ∃ t, exec (.dropCurtain .prompt) s = .next t ∧
      AnsweredWith .prompt 0x1D (done (.curtainState .descending)) s t ∧
      t.curtain = Curtain.released s.curtainEnv { s.curtain with causes := s.curtain.causes.dropped } ∧
      t.inert = s.inert ∧ t.house = s.house ∧ t.fire = s.fire ∧ t.lights = s.lights ∧ t.calls = s.calls ∧ KeepsBase s t ∧
      ∀ q : Port, q = .prompt ∨ q = .house → Reaches q (.curtain ⟨.descending, s.curtain.state, .demand, s.position,
        s.curtain.causes.dropped, s.curtain.faults⟩) s t := by
  obtain ⟨k1, k2, k3⟩ := letGo_open (causes := s.curtain.causes.dropped) h hb
  have hq : Quietly s (s.letGo s.curtain.causes.dropped) := quietly_onCurtain _ s
  obtain ⟨t, hx, ha, hu, hr⟩ := takeRequest_answers (i := .dropCurtain .prompt) (block := dropCurtainBlock)
    (a := done (.curtainState .descending)) ht (by decide) (by decide) rfl
    (by rw [dropCurtainBlock_eq, k1]; rfl) hq.2
  refine ⟨t, hx, ha, by rw [hu]; exact k1, by rw [hu]; rfl, by rw [hu]; exact k2, by rw [hu]; rfl, by rw [hu]; rfl,
    by rw [hu]; rfl, by rw [hu]; exact hq.1, fun q h => hr q _ (k3 q h)⟩

theorem dropCurtain_closed {s : State} (ht : takeable .prompt ⟨0x1D, []⟩ s = true)
    (h : s.curtain.state.heldOut = true) (hb : s.settled bottomLine = some .active) :
    ∃ t, exec (.dropCurtain .prompt) s = .next t ∧
      AnsweredWith .prompt 0x1D (done (.curtainState .landed)) s t ∧ LandedAtOnce s.position s t := by
  have k := letGo_closed (causes := s.curtain.causes.dropped) h hb rfl
  have hs : (s.letGo s.curtain.causes.dropped).curtain.state = .landed := by rw [k.1]
  have hl : Quietly s (s.letGo s.curtain.causes.dropped) := quietly_onCurtain _ s
  obtain ⟨t, hx, ha, hu, -⟩ := takeRequest_answers (i := .dropCurtain .prompt) (block := dropCurtainBlock)
    (a := done (.curtainState .landed)) ht (by decide) (by decide) rfl (by rw [dropCurtainBlock_eq, hs]) hl.2
  exact ⟨t, hx, ha, k.relink hu⟩

theorem dropCurtain_falling {s : State} (ht : takeable .prompt ⟨0x1D, []⟩ s = true)
    (h : s.curtain.state.heldOut = false) :
    exec (.dropCurtain .prompt) s = .next (State.withReply .prompt 0x1D (done (.curtainState s.curtain.state))
      { s with curtain := { s.curtain with causes := s.curtain.causes.dropped } }) :=
  takeRequest_silent (i := .dropCurtain .prompt) (block := dropCurtainBlock) ht (by decide) (by decide) rfl
    (by rw [dropCurtainBlock_eq, letGo_falling h]) rfl

/-- The conditions that DEMONSTRATE CURTAIN tests, in the order of their bits (R69). -/
theorem demonstrateInterlock_eq (s : State) :
    s.demonstrateInterlock = (if s.fire.condition ≠ .quiet then [Interlock.fireNotQuiet] else []) ++
      (if s.curtain.state ≠ .stowed then [.curtainNotStowed] else []) := by
  simp only [State.demonstrateInterlock, failing_cons, bne_iff_ne, ne_eq, show failing [] = [] from rfl, List.append_nil]

theorem demonstrateBlock_taken {s : State} (hp : s.house.phase = .houseOpen ∨ s.house.phase = .interval)
    (hq : s.fire.condition = .quiet) (hc : s.curtain.state = .stowed) :
    demonstrateBlock s = (s.letGo s.curtain.causes.demonstrated, done .empty) := by
  have hi : s.demonstrateInterlock = [] := by rw [demonstrateInterlock_eq, hq, hc]; rfl
  exact (inPhase_accepted (by rcases hp with hp | hp <;> simp [hp])).trans (by rw [hi]; rfl)

/-- DEMONSTRATE CURTAIN onto an open bottom limit. -/
theorem demonstrateCurtain_open {s : State} (ht : takeable .prompt ⟨0x1E, []⟩ s = true)
    (hp : s.house.phase = .houseOpen ∨ s.house.phase = .interval) (hq : s.fire.condition = .quiet)
    (hc : s.curtain.state = .stowed) (hb : s.settled bottomLine ≠ some .active) :
    ∃ t, exec (.demonstrateCurtain .prompt) s = .next t ∧ AnsweredWith .prompt 0x1E (done .empty) s t ∧
      t.curtain = Curtain.released s.curtainEnv { s.curtain with causes := s.curtain.causes.demonstrated } ∧
      t.house = s.house ∧ t.fire = s.fire ∧ t.lights = s.lights ∧ t.calls = s.calls ∧ KeepsBase s t := by
  obtain ⟨k1, k2, -⟩ := letGo_open (causes := s.curtain.causes.demonstrated) (by rw [hc]; rfl) hb
  have hl : Quietly s (s.letGo s.curtain.causes.demonstrated) := quietly_onCurtain _ s
  obtain ⟨t, hx, ha, hu, -⟩ := takeRequest_answers (i := .demonstrateCurtain .prompt) (block := demonstrateBlock) ht
    (by decide) (by decide) rfl (demonstrateBlock_taken hp hq hc) hl.2
  exact ⟨t, hx, ha, by rw [hu]; exact k1, by rw [hu]; exact k2, by rw [hu]; rfl, by rw [hu]; rfl, by rw [hu]; rfl,
    by rw [hu]; exact hl.1⟩

/-- DEMONSTRATE CURTAIN onto a closed bottom limit: the landing sets the mark, the house being occupied (R6). -/
theorem demonstrateCurtain_closed {s : State} (ht : takeable .prompt ⟨0x1E, []⟩ s = true)
    (hp : s.house.phase = .houseOpen ∨ s.house.phase = .interval) (hq : s.fire.condition = .quiet)
    (hc : s.curtain.state = .stowed) (hb : s.settled bottomLine = some .active) :
    ∃ t, exec (.demonstrateCurtain .prompt) s = .next t ∧ AnsweredWith .prompt 0x1E (done .empty) s t ∧
      LandedAtOnce s.position s t ∧ t.house.demoMark = true := by
  have k := letGo_closed (causes := s.curtain.causes.demonstrated) (by rw [hc]; rfl) hb rfl
  obtain ⟨t, hx, ha, hu, -⟩ := takeRequest_answers (i := .demonstrateCurtain .prompt) (block := demonstrateBlock) ht
    (by decide) (by decide) rfl (demonstrateBlock_taken hp hq hc) (quietly_onCurtain _ s).2
  have hl := k.relink hu
  refine ⟨t, hx, ha, hl, ?_⟩
  obtain ⟨-, -, hh, -⟩ := hl
  rw [hh]
  rcases hp with hp | hp <;> simp [hp, hq, Phase.occupied]

/-- Settles O26: the releases by the curtain state and the bottom limit, and the latch by the button. -/
theorem curtainReleaseRequests : Obligations.CurtainReleaseRequests := by
  refine ⟨?_, fun s ht => ⟨fun hp hq hc hb => ?_, ?_, ?_, fun h1 h2 => ?_⟩,
    fun s ht => ⟨fun hm hs => ?_, fun hm hs => ?_, fun hm => ?_⟩⟩
  · rintro s p rfl ht
    refine ⟨fun hs hb => ?_, fun hs hb => dropCurtain_closed ht ((CurtainState.heldOut_iff _).mpr hs) hb, fun h1 h2 h3 => ?_⟩
    · obtain ⟨t, hx, ha, k1, ki, k2, k3, k4, k5, k6, k7⟩ := dropCurtain_open ht ((CurtainState.heldOut_iff _).mpr hs) hb
      refine ⟨t, hx, ha, _, by rw [k1]; rfl, by rw [k1]; rfl, rfl, rfl, rfl, rfl, rfl, rfl, rfl, rfl, rfl, rfl, rfl, rfl, ?_, k2, k3, k4,
        k5, k6, fun q h => by rw [k1]; exact k7 q h⟩
      unfold State.curtainOutputs
      rw [k1]
      split <;> rfl
    · exact dropCurtain_falling ht (by
        cases h : s.curtain.state.heldOut with
        | false => rfl
        | true => rcases (CurtainState.heldOut_iff _).mp h with h | h | h <;> contradiction)
  · obtain ⟨t, hx, ha, k1, k2⟩ := demonstrateCurtain_open ht hp hq hc hb
    exact ⟨t, hx, ha, by rw [k1]; rfl, by rw [k1]; rfl, by rw [k1]; rfl, by rw [k1]; rfl, by rw [k1]; rfl, by rw [k1]; rfl,
      by rw [k1]; rfl, k2⟩
  · rintro hp hq hc hb p rfl
    exact demonstrateCurtain_closed ht hp hq hc hb
  · rintro hp c rfl hne
    rw [← demonstrateInterlock_eq] at hne ⊢
    exact takeRequest_unchanged (i := .demonstrateCurtain .prompt) ht (by decide) (by decide) rfl
      ((inPhase_accepted (by rcases hp with hp | hp <;> simp [hp])).trans (interlocked_failing hne))
  · exact takeRequest_unchanged (i := .demonstrateCurtain .prompt) ht (by decide) (by decide) rfl
      (inPhase_refused (by simp [h1, h2]))
  · have hb : resetManualBlock s = ({ s with curtain := { s.curtain with
        manual := false, causes := { s.curtain.causes with manual := false } } }, done .empty) := by
      unfold resetManualBlock
      rw [if_pos hm, if_neg hs]
      show (({ s with
        curtain := _, links := _
        house := demoBookkeeping s.curtain.state s.curtain.state (s.fire.condition == .quiet) s.house } : State), _) = _
      rw [demoBookkeeping_eq_self s.house (.inl rfl)]
      rfl
    exact takeRequest_silent (i := .resetManualRelease .prompt) ht (by decide) (by decide) rfl hb rfl
  · exact takeRequest_unchanged (i := .resetManualRelease .prompt) ht (by decide) (by decide) rfl
      ((if_pos hm).trans (if_pos hs))
  · exact takeRequest_unchanged (i := .resetManualRelease .prompt) ht (by decide) (by decide) rfl
      (if_neg (by rw [hm]; decide))

end Sys2Proof.Machine
end

section
/-! The baselines at the end of the start-up settle (R27, R86, R124, R185), put together. -/
namespace Sys2Proof.Machine

/-! ## The held demands of the curtain (R64 to R66) -/

/-- A release writes no held demand, and takes none out of the cause set. -/
theorem releaseDemand_demands (e : CurtainEnv) (w : Act Curtain) :
    (releaseDemand e w).val.fireDemand = w.val.fireDemand ∧ (releaseDemand e w).val.hardLine = w.val.hardLine ∧
      (releaseDemand e w).val.manual = w.val.manual ∧
      (releaseDemand e w).val.causes.hardLine = w.val.causes.hardLine ∧
      (releaseDemand e w).val.causes.manual = w.val.causes.manual := by
  cases h : w.val.state.heldOut with
  | false => rw [releaseDemand_falling h]; exact ⟨rfl, rfl, rfl, rfl, rfl⟩
  | true =>
    by_cases hb : e.bottom = some .active
    · rw [releaseDemand_closed h hb]; exact ⟨rfl, rfl, rfl, rfl, rfl⟩
    · rw [releaseDemand_open h hb]; exact ⟨rfl, rfl, rfl, rfl, rfl⟩

/-- A fire line that is not QUIET, where none stood before or QUIET did, is a release demand (R65, R86). -/
theorem hardLineChange_loud {e : CurtainEnv} {old : Option Reading} {new : Reading} {w : Act Curtain}
    (ho : old = none ∨ old = some .quiet) (hn : new ≠ .quiet) :
    hardLineChange e old new w =
      releaseDemand e (w.map fun c => { c with hardLine := true, causes := { c.causes with hardLine := true } }) := by
  cases new with
  | quiet => exact absurd rfl hn
  | active => exact if_pos ho
  | faulty => exact if_pos ho

/-- The baseline of the fire line sets the demand where it is not QUIET, and leaves a falling curtain falling. -/
theorem hardLineChange_baseline (e : CurtainEnv) (r : Reading) (w : Act Curtain) :
    (hardLineChange e none r w).val.hardLine = decide (r ≠ .quiet) ∧
      (hardLineChange e none r w).val.manual = w.val.manual ∧
      (w.val.state = .descending → (hardLineChange e none r w).val.state = .descending) := by
  by_cases hr : r = .quiet
  · subst hr; exact ⟨rfl, rfl, id⟩
  · rw [hardLineChange_loud (.inl rfl) hr]
    obtain ⟨-, h2, h3, -⟩ := releaseDemand_demands e
      (w.map fun c => { c with hardLine := true, causes := { c.causes with hardLine := true } })
    refine ⟨by rw [h2]; simp [Act.map, hr], h3, fun hs => ?_⟩
    rw [releaseDemand_falling (by rw [Act.map, hs]; rfl)]
    exact hs

/-! ## The curtain stages of the baselines -/

theorem bottomBaseline_closed (e : CurtainEnv) (w : Act Curtain) : bottomBaseline e .active w = landByLimit e w := rfl

theorem bottomBaseline_open {e : CurtainEnv} {r : Reading} {w : Act Curtain} (h : r ≠ .active) :
    bottomBaseline e r w = w.map fun c =>
      { c with lowCount := some 0, descent := some (makeDescent e (c.position e)), samplesDue := 0 } := if_neg h

/-- The stages before the bottom limit: what they leave, and what they make of the curtain. -/
theorem fireLineTaken_fields (s : State) :
    let u := ((List.finRange 8).foldl zoneLineBaseline s.linesTaken).blackoutTaken.fireLineTaken
    u = { s with
        startUp := none, lines := s.linesTaken.lines, fire := { s.fire with zones := u.fire.zones }
        lights := { s.lights with blackout := s.raw blackoutLine }, curtain := u.curtain, house := u.house
        links := u.links } ∧
      KeepsLinks s u ∧ u.fire.zones = ((List.finRange 8).foldl zoneLineBaseline s.linesTaken).fire.zones ∧
      u.curtain.hardLine = decide (s.raw fireLine ≠ .quiet) ∧ u.curtain.manual = s.curtain.manual ∧
      (s.curtain.state = .descending → u.curtain.state = .descending ∧ u.house = s.house) := by
  obtain ⟨h1, h2, -⟩ := foldl_zoneLineBaseline (List.finRange 8) s.linesTaken
  generalize (List.finRange 8).foldl zoneLineBaseline s.linesTaken = v at h1 h2 ⊢
  have hset (l : Line) : v.settled l = some (s.raw l) := by
    rw [← linesTaken_settled, h1]; rfl
  have hb : v.blackoutTaken = { v with lights := { s.lights with blackout := s.raw blackoutLine } } := by
    unfold State.blackoutTaken
    rw [hset, show v.lights = s.lights by rw [h1]; rfl]
    rfl
  have hset' : v.blackoutTaken.settled fireLine = some (s.raw fireLine) := by rw [hb]; exact hset _
  have hvc : v.blackoutTaken.curtain = s.curtain := by rw [hb]; show v.curtain = _; rw [h1]; rfl
  have hvh : v.blackoutTaken.house = s.house := by rw [hb]; show v.house = _; rw [h1]; rfl
  have hk : KeepsLinks s v.blackoutTaken := h2
  have hq := quietly_onCurtain (fun e => hardLineChange e none (s.raw fireLine)) v.blackoutTaken
  obtain ⟨k1, k2, k3⟩ := hardLineChange_baseline v.blackoutTaken.curtainEnv (s.raw fireLine) ⟨v.blackoutTaken.curtain, []⟩
  have he : v.blackoutTaken.fireLineTaken = v.blackoutTaken.onCurtain fun e => hardLineChange e none (s.raw fireLine) := by
    unfold State.fireLineTaken; rw [hset']; rfl
  rw [hvc] at k3
  rw [he]
  set u := v.blackoutTaken.onCurtain fun e => hardLineChange e none (s.raw fireLine) with hud
  refine ⟨?_, hk.trans hq.2, by show v.blackoutTaken.fire.zones = _; rw [hb], k1, by rw [← hvc]; exact k2, fun hs => ⟨?_, ?_⟩⟩
  · have hu : u = { v.blackoutTaken with curtain := u.curtain, house := u.house, links := u.links } := rfl
    clear_value u
    rw [hu, hb, h1]
    rfl
  · rw [State.onCurtain_curtain, hvc]; exact k3 hs
  · rw [State.onCurtain_house, hvh, hvc]
    exact demoBookkeeping_eq_self _ (.inl ((k3 hs).trans hs.symm))

/-- The last stage: a closed bottom limit lands the curtain, an open one begins its supervision (R86). -/
theorem bottomTaken_curtain {u : State} {r : Reading} (h : u.settled bottomLine = some r) :
    (r = .active → u.bottomTaken.curtain.state = .landed ∧ u.bottomTaken.curtain.reason = .bottomLimit ∧
      u.bottomTaken.curtain.homeOffset = u.pins.encoder.toNat ∧ u.bottomTaken.curtain.causes.powerOn = false) ∧
    (r ≠ .active → u.bottomTaken.curtain.lowCount = some 0 ∧ u.bottomTaken.curtain.descent ≠ none ∧
      u.bottomTaken.curtain.state = u.curtain.state) ∧
    u.bottomTaken.curtain.hardLine = u.curtain.hardLine ∧ u.bottomTaken.curtain.manual = u.curtain.manual ∧
    (u.curtain.state = .descending → u.bottomTaken.house = { u.house with
      demoMark := u.house.demoMark || (decide (r = .active) && u.house.phase.occupied &&
        decide (u.fire.condition = .quiet)) }) := by
  have he : u.bottomTaken = u.onCurtain fun e => bottomBaseline e r := by unfold State.bottomTaken; rw [h]; rfl
  rw [he, State.onCurtain_house, State.onCurtain_curtain]
  by_cases hr : r = .active
  · subst hr
    rw [bottomBaseline_closed, landByLimit_val]
    refine ⟨fun _ => ⟨rfl, rfl, rfl, rfl⟩, fun hn => absurd rfl hn, rfl, rfl, fun hs => ?_⟩
    rw [demoBookkeeping_landed (by rw [hs]; decide)]
    simp only [decide_true, Bool.true_and]
  · rw [bottomBaseline_open hr]
    refine ⟨fun h => absurd h hr, fun _ => ⟨rfl, by simp [Act.map], rfl⟩, rfl, rfl, fun hs => ?_⟩
    refine (demoBookkeeping_eq_self _ (.inl rfl)).trans ?_
    simp only [hr, decide_false, Bool.false_and, Bool.or_false]

theorem Zone.baselined_state (r : Reading) (x : Zone) :
    (x.baselined r).state = if r = .quiet then x.state else .fault := by
  unfold Zone.baselined; split <;> rfl

/-- Settles O54: the stages of the baselines, one after another. -/
theorem startUpSettleTakesTheBaselines : Obligations.StartUpSettleTakesTheBaselines := by
  intro s hi hs
  have hx : exec .startUpSettleEnd s = .next (takeBaselines s) := if_pos (by simp [hi, hs, timerDone])
  obtain ⟨hu, hk, hz, hh, hm, hd⟩ := fireLineTaken_fields s
  refine ⟨_, hx, ?_⟩
  rw [takeBaselines_eq]
  have hzones := zonesTaken_zones s
  rw [← hz] at hzones
  generalize ((List.finRange 8).foldl zoneLineBaseline s.linesTaken).blackoutTaken.fireLineTaken = u at *
  have hb : u.settled bottomLine = some (s.raw bottomLine) := by
    rw [← linesTaken_settled]; show (u.lines[bottomLine]).settled = _; rw [hu]; rfl
  obtain ⟨b1, b2, b3, b4, b5⟩ := bottomTaken_curtain hb
  have hf : u.fire = { s.fire with zones := u.fire.zones } := by rw [hu]
  have hq : Quietly u u.bottomTaken := quietly_onCurtain _ u
  refine ⟨by show u.startUp = none; rw [hu], hk.trans hq.2, fun l => ?_, fun z l hz hl => ?_, fun z hz => ?_, hf,
    by show u.lights = _; rw [hu], b3.trans hh, b4.trans hm, fun ha => ?_, fun ha => ?_,
    by show u.calls = _; rw [hu], by show u.params = _; rw [hu], by show u.pins = _; rw [hu],
    by show u.clock = _; rw [hu], by show u.pending = _; rw [hu], by show u.inert = _; rw [hu]; exact hi,
    by show u.intervalUpDue = _; rw [hu], fun hs => ?_⟩
  · rw [← linesTaken_lines]; show u.lines[l] = _; rw [hu]
  · have hl' : zoneLine ⟨z.val, hz⟩ = l := Fin.ext hl.symm
    have h := hzones z
    rw [dif_pos hz, hl'] at h
    show u.fire.zones[z].input = _ ∧ u.fire.zones[z].state = _
    rw [h, Zone.baselined_state]
    exact ⟨rfl, rfl⟩
  · have h := hzones z
    rw [dif_neg (Nat.not_lt.mpr hz)] at h
    exact h
  · obtain ⟨k1, k2, k3, k4⟩ := b1 ha
    exact ⟨k1, k2, by rw [k3, hu], k4⟩
  · obtain ⟨k1, k2, k3⟩ := b2 ha
    exact ⟨k1, k2, fun hs => k3.trans (hd hs).1⟩
  · rw [b5 (hd hs).1, (hd hs).2, hf]

end Sys2Proof.Machine
end

section
/-! A line that moves and settles (R25, R26), and what its settled change does to its block. -/
namespace Sys2Proof.Machine

/-! ## The raw reading and the candidate (R25, R26) -/

theorem rawReading_eq (l : Line) (nc sound closed : Bool) :
    rawReading l nc ⟨sound, closed⟩ =
      if l.val ≤ 8 ∧ sound = false then .faulty else if closed = nc then .quiet else .active := by
  unfold rawReading supervised
  cases sound <;> cases closed <;> cases nc <;> simp

theorem LineRecord.update_eq (raw : Reading) (r : LineRecord) :
    r.update raw = { r with candidate :=
      if r.settled = none ∨ (r.candidate.map Prod.fst = some raw ∧ r.settled ≠ some raw) then r.candidate
      else if r.settled = some raw then none else some (raw, r.settleTime) } := by
  unfold LineRecord.update
  cases hs : r.settled with
  | none => simp only [true_or, if_true]; rw [← hs]
  | some st =>
    by_cases hr : raw = st
    · simp [hr]
    · cases hc : r.candidate with
      | none => simp [hr, Ne.symm hr]
      | some x =>
        obtain ⟨x, n⟩ := x
        by_cases hx : x = raw
        · simp only [hx, hr, if_false, if_true, reduceCtorEq, Option.map_some, true_and, false_or]
          rw [if_pos (by simp [Ne.symm hr]), ← hs, ← hx, ← hc]
        · simp [hx, hr, Ne.symm hr]

/-- The levels of one line moved. -/
def State.lineMoved (l : Line) (p : LinePins) (s : State) : State :=
  { s with pins := { s.pins with lines := s.pins.lines.set l p } }

theorem lineMoved_raw (l : Line) (p : LinePins) (s : State) :
    (s.lineMoved l p).raw l = rawReading l s.lines[l].normallyClosed p := by
  have hp : (s.lineMoved l p).pins.lines[l] = p := by simp [State.lineMoved]
  unfold State.raw
  rw [hp]
  rfl

/-- The levels of a line moved while the part is not inert. -/
theorem lineRawChange_next {s : State} {l : Line} {sound closed : Bool} (hi : s.inert = false) {raw : Reading}
    (hr : raw = if l.val ≤ 8 ∧ sound = false then .faulty
      else if closed = s.lines[l].normallyClosed then .quiet else .active) :
    exec (.lineRawChange l sound closed) s = .next { s with
      pins := { s.pins with lines := s.pins.lines.set l ⟨sound, closed⟩ }
      lines := s.lines.set l (s.lines[l].update raw) } := by
  have hx : exec (.lineRawChange l sound closed) s = .next ((s.lineMoved l ⟨sound, closed⟩).reread l) :=
    if_neg (by rw [hi]; decide)
  rw [hx, hr, ← rawReading_eq, ← lineMoved_raw]
  rfl

/-! ## The blocks of the lines (Table 11-3) -/

theorem handLine_zone {l : Line} (h : l.val < 8) (old : Option Reading) (new : Reading) (s : State) :
    handLine l old new s = zoneEvent (zoneArrival ⟨l.val, by omega⟩ new) s := dif_pos h

theorem handLine_fireLine (old : Option Reading) (new : Reading) (s : State) :
    handLine fireLine old new s = s.onCurtain fun e => hardLineChange e old new := rfl

theorem handLine_manualLine (old : Option Reading) (new : Reading) (s : State) :
    handLine manualLine old new s = s.onCurtain fun e => manualChange e old new := rfl

theorem handLine_bottomLine (old : Option Reading) (new : Reading) (s : State) :
    handLine bottomLine old new s = s.onCurtain fun e => bottomLimitChange e new := rfl

theorem handLine_topLine (old : Option Reading) (new : Reading) (s : State) :
    handLine topLine old new s = s.onCurtain fun e => topLimitChange e new := rfl

theorem line_cases (l : Line) : l.val < 8 ∨ l = fireLine ∨ l = manualLine ∨ l = blackoutLine ∨ l = bottomLine ∨
    l = topLine := by revert l; decide

/-- A settled change hands on no more than its block writes, and notices. -/
theorem quietly_handLine (l : Line) (old : Option Reading) (new : Reading) (s : State) :
    Quietly s (handLine l old new s) := by
  rcases line_cases l with h | rfl | rfl | rfl | rfl | rfl
  · rw [handLine_zone h]; exact quietly_zoneEvent _ s
  · rw [handLine_fireLine]; exact quietly_onCurtain _ s
  · rw [handLine_manualLine]; exact quietly_onCurtain _ s
  · exact ⟨.refl s, .of_links rfl⟩
  · rw [handLine_bottomLine]; exact quietly_onCurtain _ s
  · rw [handLine_topLine]; exact quietly_onCurtain _ s

/-- The lines behind the zones reach no zone and no call; the blackout button alone reaches the lights. -/
theorem handLine_others {l : Line} (h : 8 ≤ l.val) (old : Option Reading) (new : Reading) (s : State) :
    (handLine l old new s).fire = s.fire ∧ (handLine l old new s).calls = s.calls ∧
      (l.val ≠ 10 → (handLine l old new s).lights = s.lights) := by
  rcases line_cases l with hl | rfl | rfl | rfl | rfl | rfl
  · exact absurd hl (Nat.not_lt.mpr h)
  · exact ⟨rfl, rfl, fun _ => rfl⟩
  · exact ⟨rfl, rfl, fun _ => rfl⟩
  · exact ⟨rfl, rfl, fun hn => absurd rfl hn⟩
  · exact ⟨rfl, rfl, fun _ => rfl⟩
  · exact ⟨rfl, rfl, fun _ => rfl⟩

/-! ### The zones -/

theorem promoteZones_input (now : Nat) (f : Fire) (y : ZoneId) :
    (promoteZones now f).zones[y].input = f.zones[y].input := by
  rw [promoteZones_zones]; split_ifs <;> rfl

theorem alarmBatch_input (now : Nat) (z : ZoneId) (previous : ZoneState) (cause : ZoneCause) (w : Act Fire)
    (y : ZoneId) : (alarmBatch now z previous cause w).1.val.zones[y].input = w.val.zones[y].input := by
  show (promoteZones now (enterAlarm now w.val z)).zones[y].input = _
  rw [promoteZones_input, enterAlarm_zones]
  split
  · next h => rw [h]; rfl
  · rfl

theorem activeArrival_input (e : FireEnv) (z : ZoneId) (previous : ZoneState) (cause : ZoneCause) (w : Act Fire)
    (y : ZoneId) : (activeArrival e z previous cause w).1.val.zones[y].input = w.val.zones[y].input := by
  unfold activeArrival
  split
  · show (enterDelayed e.showDelay w.val z).zones[y].input = _
    rw [enterDelayed_zones]
    split
    · next h => rw [h]; rfl
    · rfl
  · exact alarmBatch_input _ _ _ _ _ _

/-- An arrival records the input, whatever the state of the zone (Table 2-1). -/
theorem zoneArrival_input (z : ZoneId) (r : Reading) (e : FireEnv) (f : Fire) :
    (zoneArrival z r e ⟨f, []⟩).1.val.zones[z].input = r := by
  rcases zoneArrival_cases z r e f [] with ⟨-, -, hg⟩ | ⟨q, ms, hg, hq, -⟩ <;> rw [hg]
  · rw [activeArrival_input, Fire.setZone_zones, if_pos rfl]
  · rw [Fire.setZone_zones, if_pos rfl, hq]

/-- The ladder writes no input of a zone. -/
theorem climbLadder_input (entering : List ZoneId) (s : State) (y : ZoneId) :
    (climbLadder entering s).fire.zones[y].input = s.fire.zones[y].input := by
  have changed (new : Condition) (cause : FireCause) :
      (changeCondition new cause s).fire.zones[y].input = s.fire.zones[y].input := by
    rw [changeCondition_fire, conditionRecorded_fire]
    split
    · exact promoteZones_input _ _ _
    · rfl
  rcases climbLadder_cases entering s with ⟨-, k⟩ | ⟨-, cause, k⟩ | ⟨-, -, -, -, k⟩ <;> rw [k]
  · rw [evaluateDemand_fire]
  · exact changed _ _
  · exact changed _ _

theorem zoneEvent_arrival_input (z : ZoneId) (r : Reading) (s : State) :
    (zoneEvent (zoneArrival z r) s).fire.zones[z].input = r := by
  rcases zoneEvent_cases (zoneArrival z r) s with ⟨-, k⟩ | ⟨-, k⟩ <;> rw [k]
  · exact zoneArrival_input z r _ _
  · rw [climbLadder_input]; exact zoneArrival_input z r _ _

/-! ### The curtain lines -/

/-- The fire release line settled QUIET takes its demand away (R65). -/
theorem handLine_fireLine_quiet (old : Option Reading) (s : State) :
    (handLine fireLine old .quiet s).curtain.hardLine = false ∧
      (handLine fireLine old .quiet s).curtain.causes.hardLine = false ∧
      (handLine fireLine old .quiet s).curtain.state = s.curtain.state := ⟨rfl, rfl, rfl⟩

/-- The fire release line settled ACTIVE or FAULTY from QUIET sets the demand and releases (R65, R70). -/
theorem handLine_fireLine_loud {new : Reading} (h : new ≠ .quiet) (s : State) :
    (handLine fireLine (some .quiet) new s).curtain.hardLine = true ∧
      (handLine fireLine (some .quiet) new s).curtain.causes.hardLine = true ∧
      (handLine fireLine (some .quiet) new s).curtain.state.heldOut = false := by
  rw [handLine_fireLine, State.onCurtain_curtain, hardLineChange_loud (.inr rfl) h]
  obtain ⟨-, h2, -, h4, -⟩ := releaseDemand_demands s.curtainEnv
    (Act.map (fun c : Curtain => { c with hardLine := true, causes := { c.causes with hardLine := true } }) ⟨s.curtain, []⟩)
  exact ⟨h2, h4, releaseDemand_notHeldOut _ _⟩

/-- The button settled ACTIVE from QUIET latches MANUAL and releases (R66, R70). -/
theorem handLine_manualLine_active (s : State) :
    (handLine manualLine (some .quiet) .active s).curtain.manual = true ∧
      (handLine manualLine (some .quiet) .active s).curtain.causes.manual = true ∧
      (handLine manualLine (some .quiet) .active s).curtain.state.heldOut = false := by
  have h : (handLine manualLine (some .quiet) .active s).curtain = (releaseDemand s.curtainEnv
      (Act.map (fun c : Curtain => { c with manual := true, causes := { c.causes with manual := true } })
        ⟨s.curtain, []⟩)).val := rfl
  rw [h]
  obtain ⟨-, -, h3, -, h5⟩ := releaseDemand_demands s.curtainEnv
    (Act.map (fun c : Curtain => { c with manual := true, causes := { c.causes with manual := true } }) ⟨s.curtain, []⟩)
  exact ⟨h3, h5, releaseDemand_notHeldOut _ _⟩

theorem handLine_manualLine_quiet (old : Option Reading) (s : State) :
    (handLine manualLine old .quiet s).curtain = s.curtain := by
  rw [handLine_manualLine, State.onCurtain_curtain, manualChange, if_neg fun h => absurd h.2 (by decide)]

/-- A bottom limit that closes under a falling curtain lands it (R78), and a landing sets the mark (R6). -/
theorem handLine_bottomLine_falling {s : State} (old : Option Reading) (h : s.curtain.state.falling = true) :
    (handLine bottomLine old .active s).curtain.state = .landed ∧
      (handLine bottomLine old .active s).curtain.reason = .bottomLimit ∧
      (handLine bottomLine old .active s).curtain.homeOffset = s.pins.encoder.toNat ∧
      (handLine bottomLine old .active s).house = { s.house with demoMark := s.house.demoMark ||
        (s.house.phase.occupied && decide (s.fire.condition = .quiet)) } := by
  have hb : bottomLimitChange s.curtainEnv .active ⟨s.curtain, []⟩ = landByLimit s.curtainEnv ⟨s.curtain, []⟩ := by
    unfold bottomLimitChange
    cases hs : s.curtain.state <;> rw [hs] at h <;> simp_all [CurtainState.falling]
  rw [handLine_bottomLine, State.onCurtain_curtain, State.onCurtain_house, hb, landByLimit_val]
  refine ⟨rfl, rfl, rfl, demoBookkeeping_landed ?_ _ _⟩
  intro hs
  rw [hs] at h
  exact absurd h (by decide)

/-- A bottom limit that closes in LANDED homes the count (R81). -/
theorem handLine_bottomLine_landed {s : State} (old : Option Reading) (h : s.curtain.state = .landed) :
    (handLine bottomLine old .active s).house = s.house ∧
      (handLine bottomLine old .active s).curtain = s.curtain.homed s.curtainEnv := by
  have hb : bottomLimitChange s.curtainEnv .active ⟨s.curtain, []⟩ = homeCount s.curtainEnv ⟨s.curtain, []⟩ := by
    unfold bottomLimitChange
    simp [h]
  rw [handLine_bottomLine, State.onCurtain_curtain, State.onCurtain_house, hb, homeCount_val]
  exact ⟨demoBookkeeping_eq_self _ (.inl rfl), rfl⟩

/-- A top limit that closes in RAISING stows the curtain (R75) and ends the demonstration (R6). -/
theorem handLine_topLine_raising {s : State} (old : Option Reading) (h : s.curtain.state = .raising) :
    (handLine topLine old .active s).curtain.state = .stowed ∧
      (handLine topLine old .active s).curtain.reason = .topLimit ∧
      (handLine topLine old .active s).curtain.raise = none ∧
      (handLine topLine old .active s).house = { s.house with
        demoMark := false
        curtainShown := s.house.curtainShown || (s.house.demoMark && s.house.phase.occupied) } := by
  have hb : topLimitChange s.curtainEnv .active ⟨s.curtain, []⟩ =
      changeState s.curtainEnv .stowed .topLimit ⟨s.curtain, []⟩ := if_pos ⟨rfl, h⟩
  rw [handLine_topLine, State.onCurtain_curtain, State.onCurtain_house, hb, h]
  exact ⟨rfl, rfl, rfl, rfl⟩

/-- A top limit is nothing to a curtain that is not RAISING (R81). -/
theorem handLine_topLine_still {s : State} (old : Option Reading) (new : Reading) (h : s.curtain.state ≠ .raising) :
    (handLine topLine old new s).curtain = s.curtain ∧ (handLine topLine old new s).house = s.house := by
  have hb : topLimitChange s.curtainEnv new ⟨s.curtain, []⟩ = ⟨s.curtain, []⟩ := if_neg fun hc => h hc.2
  rw [handLine_topLine, State.onCurtain_curtain, State.onCurtain_house, hb]
  exact ⟨rfl, demoBookkeeping_eq_self _ (.inl rfl)⟩

/-! ## The settle timer (R26) -/

/-- A line settled at its candidate. -/
def State.lineSettled (l : Line) (c : Reading) (s : State) : State :=
  { s with lines := s.lines.set l { s.lines[l] with settled := some c, candidate := none } }

theorem settleLine_due {s : State} {l : Line} {c : Reading} (h : s.lines[l].candidate = some (c, 0)) :
    settleLine l s = handLine l s.lines[l].settled c (s.lineSettled l c) := by
  unfold settleLine
  dsimp only
  rw [h]
  rfl

theorem settleLine_early {s : State} {l : Line} {c : Reading} {n : Nat}
    (h : s.lines[l].candidate = none ∨ s.lines[l].candidate = some (c, n + 1)) : settleLine l s = s := by
  unfold settleLine
  dsimp only
  rcases h with h | h
  · rw [h]
  · rw [h]; rfl

theorem settleExpiry_next {s : State} (l : Line) (hi : s.inert = false) :
    exec (.settleExpiry l) s = .next (settleLine l s) := if_neg (by rw [hi]; decide)

/-- Settles O55: the candidate by R26, and the settled change by the line that it is of. -/
theorem lineChangesSettleAndReachTheirBlocks : Obligations.LineChangesSettleAndReachTheirBlocks := by
  refine ⟨?_, fun s l c hi => ⟨fun hc => ?_, fun n hn => by
    rw [settleExpiry_next l hi, settleLine_early hn]⟩⟩
  · rintro s l sound closed hi raw hr r rfl candidate rfl
    rw [lineRawChange_next hi hr, LineRecord.update_eq]
  · obtain ⟨hb, hk⟩ := quietly_handLine l s.lines[l].settled c (s.lineSettled l c)
    refine ⟨_, (settleExpiry_next l hi).trans (congrArg _ (settleLine_due hc)), hb.1, hk, hb.2, fun z hl hz => ?_, fun hl => ?_, fun hn hl => ?_,
      fun hl => ⟨?_, ?_⟩, fun hl => ?_, fun hl => ?_, fun hl => ?_, fun hl => ?_, fun hl => ?_, fun hl => ?_, fun hl => ?_⟩
    · have he : z = ⟨l.val, by omega⟩ := Fin.ext hz
      rw [handLine_zone hl, he]
      exact zoneEvent_arrival_input _ c _
    · obtain ⟨k1, k2, -⟩ := handLine_others hl s.lines[l].settled c (s.lineSettled l c)
      exact ⟨k1, k2⟩
    · exact (handLine_others hl s.lines[l].settled c (s.lineSettled l c)).2.2 hn
    · obtain rfl : l = fireLine := Fin.ext hl
      rintro rfl
      exact handLine_fireLine_quiet _ _
    · obtain rfl : l = fireLine := Fin.ext hl
      intro hn hs
      rw [hs]
      exact handLine_fireLine_loud hn _
    · obtain rfl : l = manualLine := Fin.ext hl
      rintro rfl hs
      rw [hs]
      exact handLine_manualLine_active _
    · obtain rfl : l = manualLine := Fin.ext hl
      rintro rfl
      exact handLine_manualLine_quiet _ _
    · obtain rfl : l = blackoutLine := Fin.ext hl
      exact ⟨rfl, rfl⟩
    · obtain rfl : l = bottomLine := Fin.ext hl
      rintro rfl hs
      exact handLine_bottomLine_falling _ hs
    · obtain rfl : l = bottomLine := Fin.ext hl
      rintro rfl hs
      obtain ⟨k1, k2⟩ := handLine_bottomLine_landed (s := s.lineSettled bottomLine .active)
        s.lines[bottomLine].settled hs
      refine ⟨k1, ?_⟩
      rintro p rfl
      exact k2
    · obtain rfl : l = topLine := Fin.ext hl
      rintro rfl hs
      exact handLine_topLine_raising _ hs
    · obtain rfl : l = topLine := Fin.ext hl
      intro hs
      exact handLine_topLine_still _ _ hs

end Sys2Proof.Machine
end

section
/-! SUPPORT. Calls one by one: a call that has ended stays ended through every drain, and an act at some calls spares the
others (R131, R143, R164, R165). -/
namespace Sys2Proof.Machine

/-! ## One descriptor written -/

theorem Calls.setDesc_table (i x : CallId) (d : Descriptor) (c : Calls) :
    (c.setDesc i d).table[x] = if x = i then d else c.table[x] := by
  simp [Calls.setDesc, Vector.getElem_set, Fin.ext_iff, eq_comm]

theorem Calls.setDesc_table_self (i : CallId) (d : Descriptor) (c : Calls) : (c.setDesc i d).table[i] = d := by
  rw [setDesc_table, if_pos rfl]

theorem Calls.setDesc_table_of_ne {i x : CallId} (h : x ≠ i) (d : Descriptor) (c : Calls) :
    (c.setDesc i d).table[x] = c.table[x] := by
  rw [setDesc_table, if_neg h]

theorem Calls.setQueue_queue (c : Calls) (k k' : Desk) (q : List Completion) :
    (c.setQueue k q).queue k' = if k' = k then q else c.queue k' := by cases k <;> cases k' <;> rfl

theorem Calls.setQueue_others (c : Calls) (k : Desk) (q : List Completion) :
    c.setQueue k q = { c with
      promptQueue := (c.setQueue k q).promptQueue, houseQueue := (c.setQueue k q).houseQueue } := by
  cases k <;> rfl

/-! ## A call that has ended (R143, R164, R165) -/

/-- A call of a desk has ended: it waits in the finished list, or it is FREE and its entry stands in the desk's queue. -/
def Calls.ended (c : Calls) (x : CallId) (k : Desk) (o : CallOutcome) (n : Nat) : Prop :=
  (c.table[x].creator = k ∧ c.table[x].life = .finished ∧ c.table[x].outcome = some o ∧
      c.table[x].finishTime = some n) ∨
    (c.table[x].life = .free ∧ ∃ e ∈ c.queue k, e.number = x.val + 1 ∧ e.outcome = o ∧ e.finishTime = n)

theorem Calls.ended.finishedAs {c : Calls} {x : CallId} {k : Desk} {o : CallOutcome} {n : Nat}
    (h : c.ended x k o n) : c.finishedAs x k o n := h.imp_left And.right

theorem Calls.ended_congr {c c' : Calls} {x : CallId} {k : Desk} {o : CallOutcome} {n : Nat} (h : c.ended x k o n)
    (ht : c'.table[x] = c.table[x]) (hq : c'.queue k = c.queue k) : c'.ended x k o n := by
  unfold Calls.ended
  rw [ht, hq]
  exact h

/-! ## The drain (R165) -/

theorem mem_takeOwned (owned : Finished → Bool) (room : Nat) (xs : List Finished) :
    (∀ x ∈ (takeOwned owned room xs).1, owned x = true ∧ x ∈ xs) ∧ ∀ x ∈ (takeOwned owned room xs).2, x ∈ xs := by
  induction xs generalizing room with
  | nil => simp [takeOwned]
  | cons y ys ih =>
    unfold takeOwned
    split
    · exact ⟨fun x hx => by simp at hx, fun x hx => hx⟩
    · split
      · next h =>
        obtain ⟨h1, h2⟩ := ih (room - 1)
        refine ⟨fun x hx => ?_, fun x hx => .tail _ (h2 x hx)⟩
        rcases List.mem_cons.mp hx with rfl | hx
        · exact ⟨h, List.mem_cons_self⟩
        · exact ⟨(h1 x hx).1, .tail _ (h1 x hx).2⟩
      · obtain ⟨h1, h2⟩ := ih room
        refine ⟨fun x hx => ⟨(h1 x hx).1, .tail _ (h1 x hx).2⟩, fun x hx => ?_⟩
        rcases List.mem_cons.mp hx with rfl | hx
        · exact List.mem_cons_self
        · exact .tail _ (h2 x hx)

theorem drainItem_others (k : Desk) (c : Calls) (x : Finished) :
    drainItem k c x = { c with
      table := (drainItem k c x).table, pool := (drainItem k c x).pool
      promptQueue := (drainItem k c x).promptQueue, houseQueue := (drainItem k c x).houseQueue } := by
  cases k <;> cases x <;> rfl

/-- An item that moves into a queue frees its descriptor, and no other. -/
theorem drainItem_table (k : Desk) (c : Calls) (y : Finished) (x : CallId) :
    (drainItem k c y).table[x] = if y = .general x then Descriptor.free else c.table[x] := by
  have hq (q : List Completion) : (c.setQueue k q).table = c.table := by rw [Calls.setQueue_others]
  cases y with
  | builtIn b e => simp only [drainItem, hq, reduceCtorEq, if_false]
  | general i =>
    show ((c.setQueue k _).setDesc i Descriptor.free).table[x] = _
    rw [Calls.setDesc_table, hq]
    simp only [Finished.general.injEq, eq_comm]

/-- The entry of an item stands in the queue, behind those there before. -/
theorem drainItem_queue (k k' : Desk) (c : Calls) (y : Finished) :
    (drainItem k c y).queue k' = if k' = k then c.queue k ++ [c.entryOf y] else c.queue k' := by
  have h : (drainItem k c y).queue k' = (c.setQueue k (c.queue k ++ [c.entryOf y])).queue k' := by
    cases k <;> cases k' <;> cases y <;> rfl
  rw [h, Calls.setQueue_queue]

theorem drainItem_ended {c : Calls} {x : CallId} {k' : Desk} {o : CallOutcome} {n : Nat} (k : Desk) (y : Finished)
    (h : c.ended x k' o n) (hy : y = .general x → c.table[x].life = .finished → c.table[x].creator = k) :
    (drainItem k c y).ended x k' o n := by
  have keeps {e : Completion} (he : e ∈ c.queue k') : e ∈ (drainItem k c y).queue k' := by
    rw [drainItem_queue]
    split
    · next hk => exact List.mem_append_left _ (hk ▸ he)
    · exact he
  unfold Calls.ended
  rw [drainItem_table]
  by_cases e : y = .general x
  · rw [if_pos e]
    refine .inr ⟨rfl, ?_⟩
    rcases h with ⟨hk, hl, ho, hn⟩ | ⟨-, e', he', hs⟩
    · have hkk : k' = k := hk.symm.trans (hy e hl)
      refine ⟨c.entryOf y, ?_, ?_⟩
      · rw [drainItem_queue, if_pos hkk]; simp
      · subst e
        simp only [Calls.entryOf, Descriptor.completion, ho, hn, Option.getD_some, and_true]
        rfl
    · exact ⟨e', keeps he', hs⟩
  · rw [if_neg e]
    exact h.imp_right fun ⟨hl, e', he', hs⟩ => ⟨hl, e', keeps he', hs⟩

theorem foldl_drainItem_others (k : Desk) (ys : List Finished) (c : Calls) :
    ys.foldl (drainItem k) c = { c with
      table := (ys.foldl (drainItem k) c).table, pool := (ys.foldl (drainItem k) c).pool
      promptQueue := (ys.foldl (drainItem k) c).promptQueue, houseQueue := (ys.foldl (drainItem k) c).houseQueue } := by
  induction ys generalizing c with
  | nil => rfl
  | cons y ys ih =>
    rw [List.foldl_cons, ih (drainItem k c y), drainItem_others k c y]

theorem foldl_drainItem_table (k : Desk) (ys : List Finished) (c : Calls) (x : CallId) :
    (ys.foldl (drainItem k) c).table[x] = if .general x ∈ ys then Descriptor.free else c.table[x] := by
  induction ys generalizing c with
  | nil => simp
  | cons y ys ih =>
    rw [List.foldl_cons, ih, drainItem_table]
    by_cases h1 : .general x ∈ ys
    · rw [if_pos h1, if_pos (.tail _ h1)]
    · by_cases h2 : y = .general x
      · rw [if_neg h1, if_pos h2, if_pos (h2 ▸ List.mem_cons_self)]
      · rw [if_neg h1, if_neg h2, if_neg (by simp [h1, Ne.symm h2])]

theorem foldl_drainItem_ended {x : CallId} {k' : Desk} {o : CallOutcome} {n : Nat} (k : Desk) (ys : List Finished)
    {c : Calls} (h : c.ended x k' o n) (hy : .general x ∈ ys → c.table[x].life = .finished → c.table[x].creator = k) :
    (ys.foldl (drainItem k) c).ended x k' o n := by
  induction ys generalizing c with
  | nil => exact h
  | cons y ys ih =>
    refine ih (drainItem_ended k y h fun e => hy (e ▸ List.mem_cons_self)) fun hx hl => ?_
    rw [drainItem_table] at hl ⊢
    split at hl
    · exact absurd hl (by decide)
    · next e => rw [if_neg e]; exact hy (.tail _ hx) hl

/-- A drain writes the table, the pool, the finished list and the queues, and nothing else. -/
theorem drain_others (quiet : Bool) (k : Desk) (w : Act Calls) :
    (drain quiet k w).val = { w.val with
      table := (drain quiet k w).val.table, pool := (drain quiet k w).val.pool
      finished := (drain quiet k w).val.finished, promptQueue := (drain quiet k w).val.promptQueue
      houseQueue := (drain quiet k w).val.houseQueue } := by
  unfold drain
  dsimp only
  rw [foldl_drainItem_others]

/-- What a drain makes of one descriptor: it stays, or it was in the finished list and is FREE. -/
theorem drain_table (quiet : Bool) (k : Desk) (w : Act Calls) (x : CallId) :
    (drain quiet k w).val.table[x] = w.val.table[x] ∨
      .general x ∈ w.val.finished ∧ (drain quiet k w).val.table[x] = Descriptor.free := by
  obtain ⟨h1, -⟩ := mem_takeOwned (fun x => w.val.ownerOf x = k) (completionRoom - (w.val.queue k).length) w.val.finished
  unfold drain
  dsimp only
  rw [foldl_drainItem_table]
  split
  · next h => exact .inr ⟨(h1 _ h).2, rfl⟩
  · exact .inl rfl

theorem drain_finished (quiet : Bool) (k : Desk) (w : Act Calls) :
    ∀ x ∈ (drain quiet k w).val.finished, x ∈ w.val.finished := by
  obtain ⟨-, h2⟩ := mem_takeOwned (fun x => w.val.ownerOf x = k) (completionRoom - (w.val.queue k).length) w.val.finished
  unfold drain
  dsimp only
  rw [foldl_drainItem_others]
  exact h2

theorem drain_ended (quiet : Bool) (k : Desk) {w : Act Calls} {x : CallId} {k' : Desk} {o : CallOutcome} {n : Nat}
    (h : w.val.ended x k' o n) : (drain quiet k w).val.ended x k' o n := by
  obtain ⟨h1, -⟩ := mem_takeOwned (fun x => w.val.ownerOf x = k) (completionRoom - (w.val.queue k).length) w.val.finished
  unfold drain
  dsimp only
  refine foldl_drainItem_ended k _ (Calls.ended_congr h rfl (by cases k' <;> rfl)) fun hx _ => ?_
  exact of_decide_eq_true (h1 _ hx).1

/-! ## Acts at some calls spare the others -/

/-- What an act at the calls of `J` leaves of the others: a descriptor stays or is drained, an ended call stays ended,
and no other call enters or leaves a collection but the finished list, which a drain takes from. -/
structure Calls.Spares (J : CallId → Prop) (c c' : Calls) : Prop where
  table : ∀ x, ¬ J x → c'.table[x] = c.table[x] ∨ .general x ∈ c.finished ∧ c'.table[x] = Descriptor.free
  ended : ∀ x k o n, ¬ J x → c.ended x k o n → c'.ended x k o n
  finished : ∀ x, ¬ J x → .general x ∈ c'.finished → .general x ∈ c.finished
  waiting : ∀ x, ¬ J x → (x ∈ c'.waiting ↔ x ∈ c.waiting)
  timetable : ∀ x, ¬ J x → (x ∈ c'.timetable ↔ x ∈ c.timetable)
  ready : ∀ x, ¬ J x → (x ∈ c'.ready ↔ x ∈ c.ready)

namespace Calls.Spares

theorem refl (J : CallId → Prop) (c : Calls) : Spares J c c :=
  ⟨fun _ _ => .inl rfl, fun _ _ _ _ _ h => h, fun _ _ h => h, fun _ _ => .rfl, fun _ _ => .rfl, fun _ _ => .rfl⟩

theorem mono {J K : CallId → Prop} {c c' : Calls} (h : Spares J c c') (hJ : ∀ x, J x → K x) : Spares K c c' := by
  obtain ⟨h1, h2, h3, h4, h5, h6⟩ := h
  exact ⟨fun x hx => h1 x (mt (hJ x) hx), fun x k o n hx => h2 x k o n (mt (hJ x) hx), fun x hx => h3 x (mt (hJ x) hx),
    fun x hx => h4 x (mt (hJ x) hx), fun x hx => h5 x (mt (hJ x) hx), fun x hx => h6 x (mt (hJ x) hx)⟩

theorem trans {J : CallId → Prop} {a b c : Calls} (h : Spares J a b) (k : Spares J b c) : Spares J a c := by
  refine ⟨fun x hx => ?_, fun x d o n hx he => k.ended x d o n hx (h.ended x d o n hx he),
    fun x hx hf => h.finished x hx (k.finished x hx hf), fun x hx => (k.waiting x hx).trans (h.waiting x hx),
    fun x hx => (k.timetable x hx).trans (h.timetable x hx), fun x hx => (k.ready x hx).trans (h.ready x hx)⟩
  rcases k.table x hx with e | ⟨hf, e⟩
  · rw [e]; exact h.table x hx
  · exact .inr ⟨h.finished x hx hf, e⟩

/-- An act that writes the calls of `J` in the table and in the collections, and no queue. -/
theorem of_writes {J : CallId → Prop} {c c' : Calls} (ht : ∀ x, ¬ J x → c'.table[x] = c.table[x])
    (hf : c'.finished = c.finished) (hp : c'.promptQueue = c.promptQueue) (hh : c'.houseQueue = c.houseQueue)
    (hw : ∀ x, ¬ J x → (x ∈ c'.waiting ↔ x ∈ c.waiting)) (hm : ∀ x, ¬ J x → (x ∈ c'.timetable ↔ x ∈ c.timetable))
    (hr : ∀ x, ¬ J x → (x ∈ c'.ready ↔ x ∈ c.ready)) : Spares J c c' :=
  ⟨fun x hx => .inl (ht x hx),
    fun x k o n hx h => Calls.ended_congr h (ht x hx) (by cases k <;> [exact hp; exact hh]),
    fun x _ h => hf ▸ h, hw, hm, hr⟩

/-- An act that writes neither table nor collection. -/
theorem of_same {J : CallId → Prop} {c c' : Calls} (ht : c'.table = c.table) (hf : c'.finished = c.finished)
    (hp : c'.promptQueue = c.promptQueue) (hh : c'.houseQueue = c.houseQueue) (hw : c'.waiting = c.waiting)
    (hm : c'.timetable = c.timetable) (hr : c'.ready = c.ready) : Spares J c c' :=
  of_writes (fun x _ => by rw [ht]) hf hp hh (fun x _ => by rw [hw]) (fun x _ => by rw [hm]) (fun x _ => by rw [hr])

/-- A call whose life state is neither FINISHED nor FREE is spared whole, where the finished list holds finished calls. -/
theorem table_eq {J : CallId → Prop} {c c' : Calls} (h : Spares J c c') {x : CallId} (hx : ¬ J x)
    (hf : .general x ∉ c.finished) : c'.table[x] = c.table[x] :=
  (h.table x hx).resolve_right fun hn => hf hn.1

end Calls.Spares

theorem spares_drain (J : CallId → Prop) (quiet : Bool) (k : Desk) (w : Act Calls) :
    w.val.Spares J (drain quiet k w).val := by
  have ho := drain_others quiet k w
  refine ⟨fun x _ => drain_table quiet k w x, fun x k' o n _ h => drain_ended quiet k h,
    fun x _ => drain_finished quiet k w _, fun x _ => ?_, fun x _ => ?_, fun x _ => ?_⟩
  · rw [ho]
  · rw [ho]
  · rw [ho]

theorem spares_leave (i : CallId) (c : Calls) : c.Spares (· = i) (c.leave i) :=
  .of_writes (fun _ _ => rfl) rfl rfl rfl (fun _ hx => List.mem_erase_of_ne hx) (fun _ hx => List.mem_erase_of_ne hx)
    (fun _ hx => List.mem_erase_of_ne hx)

theorem spares_setDesc (i : CallId) (d : Descriptor) (c : Calls) : c.Spares (· = i) (c.setDesc i d) :=
  .of_writes (fun _ hx => Calls.setDesc_table_of_ne hx d c) rfl rfl rfl (fun _ _ => .rfl) (fun _ _ => .rfl) (fun _ _ => .rfl)

theorem spares_enterReady (now : Nat) (i : CallId) (c : Calls) : c.Spares (· = i) (enterReady now i c) :=
  .of_writes (fun _ hx => Calls.setDesc_table_of_ne hx _ c) rfl rfl rfl (fun _ _ => .rfl) (fun _ _ => .rfl)
    fun _ hx => (mem_insertBy _ _ _ _).trans (or_iff_right hx)

theorem spares_enterTimed (due : Nat) (basis : DueBasis) (i : CallId) (c : Calls) :
    c.Spares (· = i) (enterTimed due basis i c) :=
  .of_writes (fun _ hx => Calls.setDesc_table_of_ne hx _ c) rfl rfl rfl (fun _ _ => .rfl)
    (fun _ hx => (mem_insertBy _ _ _ _).trans (or_iff_right hx)) (fun _ _ => .rfl)

theorem spares_enterWaiting (i : CallId) (c : Calls) : c.Spares (· = i) (enterWaiting i c) :=
  .of_writes (fun _ hx => Calls.setDesc_table_of_ne hx _ c) rfl rfl rfl
    (fun _ hx => (mem_insertBy _ _ _ _).trans (or_iff_right hx)) (fun _ _ => .rfl) (fun _ _ => .rfl)

/-! ## A call finishes (R143, R164) -/

/-- The state of the calls with a call finished, ahead of its creator's drain. -/
def Calls.withFinished (now : Nat) (i : CallId) (o : CallOutcome) (c : Calls) : Calls :=
  let c' := (c.leave i).setDesc i { c.table[i] with
    life := .finished, due := none, basis := none, entry := none, deadline := none, channel := none,
    outcome := some o, finishTime := some now }
  { c' with finished := c'.finished ++ [.general i] }

theorem spares_withFinished (now : Nat) (i : CallId) (o : CallOutcome) (c : Calls) :
    c.Spares (· = i) (c.withFinished now i o) := by
  refine (spares_leave i c).trans ((spares_setDesc i _ _).trans ⟨fun _ _ => .inl rfl, ?_, ?_, fun _ _ => .rfl,
    fun _ _ => .rfl, fun _ _ => .rfl⟩)
  · intro x k o n _ h
    exact Calls.ended_congr h rfl (by cases k <;> rfl)
  · intro x hx h
    rcases List.mem_append.mp h with h | h
    · exact h
    · exact absurd (Finished.general.inj (List.mem_singleton.mp h)) hx

theorem spares_finishCall (now : Nat) (i : CallId) (o : CallOutcome) (w : Act Calls) :
    w.val.Spares (· = i) (finishCall now i o w).val :=
  (spares_withFinished now i o w.val).trans
    (spares_drain _ _ _ ⟨_, w.out ++ finishedMail i w.val.table[i] o now⟩)

/-- A call that finishes has ended, whatever its creator's drain takes. -/
theorem finishCall_ended (now : Nat) (i : CallId) (o : CallOutcome) (w : Act Calls) :
    (finishCall now i o w).val.ended i w.val.table[i].creator o now := by
  refine drain_ended _ _ (.inl ?_)
  show ((Calls.setDesc i _ _).table[i]).creator = _ ∧ ((Calls.setDesc i _ _).table[i]).life = _ ∧
    ((Calls.setDesc i _ _).table[i]).outcome = _ ∧ ((Calls.setDesc i _ _).table[i]).finishTime = _
  rw [Calls.setDesc_table_self]
  exact ⟨rfl, rfl, rfl, rfl⟩

/-- A finished call leaves the collections of live calls; channels, zones and built-in calls stay. -/
theorem finishCall_others (now : Nat) (i : CallId) (o : CallOutcome) (w : Act Calls) :
    (finishCall now i o w).val = { w.val with
      waiting := w.val.waiting.erase i, timetable := w.val.timetable.erase i, ready := w.val.ready.erase i
      table := (finishCall now i o w).val.table, pool := (finishCall now i o w).val.pool
      finished := (finishCall now i o w).val.finished, promptQueue := (finishCall now i o w).val.promptQueue
      houseQueue := (finishCall now i o w).val.houseQueue } := drain_others false _ _

/-! ## Channels, starts and stops -/

theorem spares_stopChannel (J : CallId → Prop) (e : CallEnv) (ch : Channel) (c : Calls) :
    c.Spares J (stopChannel e ch c) := by
  cases ch <;> exact .of_same rfl rfl rfl rfl rfl rfl rfl

theorem spares_setChan (J : CallId → Prop) (ch : Channel) (r : ChannelRecord) (c : Calls) :
    c.Spares J (c.setChan ch r) := by
  cases ch <;> exact .of_same rfl rfl rfl rfl rfl rfl rfl

theorem spares_setRun (J : CallId → Prop) (b : BuiltIn) (r : RunPosition) (c : Calls) : c.Spares J (c.setRun b r) := by
  cases b <;> exact .of_same rfl rfl rfl rfl rfl rfl rfl

theorem spares_startPlay (ch : Channel) (i : CallId) (live : ZoneSet) (c : Calls) :
    c.Spares (· = i) (startPlay ch i live c) := by
  refine Calls.Spares.trans ?_ (spares_setChan _ ch _ _)
  exact .of_writes (fun _ hx => Calls.setDesc_table_of_ne hx _ _) rfl rfl rfl (fun _ _ => .rfl) (fun _ _ => .rfl)
    fun _ hx => List.mem_erase_of_ne hx

theorem spares_beginRun (e : CallEnv) (b : BuiltIn) (c : Calls) : c.Spares (· = builtInCall b) (beginRun e b c) :=
  (spares_setDesc _ _ c).trans (spares_setRun _ _ _ _)

/-! ## The walk of the ready queue (R157, R158) -/

theorem spares_silence (now : Nat) (i : CallId) (w : Act Calls) : w.val.Spares (· = i) (silence now i w).val :=
  (spares_setDesc i _ w.val).trans (spares_finishCall now i _ (w.map (Calls.setDesc i _)))

theorem spares_walkOne (now : Nat) (a : Act Calls × ZoneSet) (i : CallId) :
    a.1.val.Spares (· = i) (walkOne now a i).1.val := by
  unfold walkOne
  dsimp only
  split
  · exact spares_silence now i a.1
  · split
    · split
      · exact spares_startPlay _ i _ _
      · exact .refl _ _
    · exact .refl _ _

theorem spares_foldl_walkOne (now : Nat) (is : List CallId) (a : Act Calls × ZoneSet) :
    a.1.val.Spares (· ∈ is) (is.foldl (walkOne now) a).1.val := by
  induction is generalizing a with
  | nil => exact .refl _ _
  | cons i is ih =>
    exact ((spares_walkOne now a i).mono fun x hx => hx ▸ List.mem_cons_self).trans ((ih _).mono fun x hx => .tail _ hx)

theorem spares_walk (now : Nat) (w : Act Calls) : w.val.Spares (· ∈ w.val.ready) (walk now w).val := by
  unfold walk
  split
  · exact .refl _ _
  · exact spares_foldl_walkOne now w.val.ready (w, 0)

theorem walk_of_empty {now : Nat} {w : Act Calls} (h : w.val.ready = []) : walk now w = w := by
  unfold walk
  rw [h]
  split <;> rfl

end Sys2Proof.Machine
end

section
/-! SUPPORT. The lawful collections read (R131), the cancellation on entering DARK (R145), and a built-in call started
while no general call plays (R159). -/
namespace Sys2Proof.Machine

/-! ## What the law of the collections says of one call (R131) -/

theorem Calls.lawful.standsIn_iff {c : Calls} (h : c.lawful) {x : CallId} (hx : 2 ≤ x.val) (l : Life) :
    c.standsIn x l = true ↔ c.table[x].life = l := by
  have hf := h.1 x hx
  have hm : l ∈ [Life.free, .waiting, .timed, .ready, .playing, .finished].filter (c.standsIn x) ↔
      c.standsIn x l = true := by
    rw [List.mem_filter]
    exact and_iff_right (by cases l <;> decide)
  rw [← hm, hf, List.mem_singleton]
  exact eq_comm

theorem Calls.lawful.mem_waiting {c : Calls} (h : c.lawful) {x : CallId} (hx : 2 ≤ x.val) :
    x ∈ c.waiting ↔ c.table[x].life = .waiting := by
  rw [← h.standsIn_iff hx]; exact List.contains_iff_mem.symm

theorem Calls.lawful.mem_timetable {c : Calls} (h : c.lawful) {x : CallId} (hx : 2 ≤ x.val) :
    x ∈ c.timetable ↔ c.table[x].life = .timed := by
  rw [← h.standsIn_iff hx]; exact List.contains_iff_mem.symm

theorem Calls.lawful.mem_ready {c : Calls} (h : c.lawful) {x : CallId} (hx : 2 ≤ x.val) :
    x ∈ c.ready ↔ c.table[x].life = .ready := by
  rw [← h.standsIn_iff hx]; exact List.contains_iff_mem.symm

theorem Calls.lawful.mem_finished {c : Calls} (h : c.lawful) {x : CallId} (hx : 2 ≤ x.val) :
    .general x ∈ c.finished ↔ c.table[x].life = .finished := by
  rw [← h.standsIn_iff hx]; exact List.contains_iff_mem.symm

theorem Calls.lawful.playing_iff {c : Calls} (h : c.lawful) {x : CallId} (hx : 2 ≤ x.val) :
    (c.generalOn .a = some x ∨ c.generalOn .b = some x) ↔ c.table[x].life = .playing := by
  rw [← h.standsIn_iff hx]; simp [Calls.standsIn]

/-- The built-in descriptors stand in no collection (R130). -/
theorem Calls.lawful.builtIn_nowhere {c : Calls} (h : c.lawful) {x : CallId} (hx : x.val < 2) :
    x ∉ c.waiting ∧ x ∉ c.timetable ∧ x ∉ c.ready ∧ .general x ∉ c.finished := by
  obtain ⟨-, h1, h2, h3, h4, -⟩ := h.2.1 x hx
  exact ⟨h1, h2, h3, h4⟩

theorem Calls.lawful.nodup {c : Calls} (h : c.lawful) : c.waiting.Nodup ∧ c.timetable.Nodup ∧ c.ready.Nodup := by
  obtain ⟨-, -, -, h1, h2, h3, -⟩ := h
  exact ⟨h1, h2, h3⟩

theorem Calls.lawful.channel {c : Calls} (h : c.lawful) (ch : Channel) : c.channelLawful ch := by
  obtain ⟨-, -, -, -, -, -, -, ha, hb, -⟩ := h
  cases ch
  · exact ha
  · exact hb

/-- A general call on a channel is PLAYING there, on that channel alone. -/
theorem Calls.lawful.onChannel {c : Calls} (h : c.lawful) {ch : Channel} {x : CallId} (hx : 2 ≤ x.val)
    (hc : (c.chan ch).call = some x) :
    c.generalOn ch = some x ∧ c.table[x].life = .playing ∧ c.table[x].channel = some ch := by
  obtain ⟨h1, h2, -⟩ := h.channel ch
  have hg : c.generalOn ch = some x := by
    unfold Calls.generalOn
    rw [← h1, hc]
    simp [isGeneral, hx]
  refine ⟨hg, (h.playing_iff hx).mp ?_, h2 x hc hx⟩
  cases ch
  · exact .inl hg
  · exact .inr hg

/-! ## Collections that shrink -/

/-- The collections of live calls lose calls alone. -/
def Calls.ListsShrink (c c' : Calls) : Prop :=
  c'.waiting.Sublist c.waiting ∧ c'.timetable.Sublist c.timetable ∧ c'.ready.Sublist c.ready

theorem Calls.ListsShrink.refl (c : Calls) : c.ListsShrink c := ⟨.refl _, .refl _, .refl _⟩

theorem Calls.ListsShrink.trans {a b c : Calls} (h : a.ListsShrink b) (k : b.ListsShrink c) : a.ListsShrink c :=
  ⟨k.1.trans h.1, k.2.1.trans h.2.1, k.2.2.trans h.2.2⟩

theorem listsShrink_finishCall (now : Nat) (i : CallId) (o : CallOutcome) (w : Act Calls) :
    w.val.ListsShrink (finishCall now i o w).val := by
  rw [finishCall_others]
  exact ⟨List.erase_sublist, List.erase_sublist, List.erase_sublist⟩

/-- A channel stands as it did, or its call has been taken from it. -/
def Calls.ChannelsShrink (c c' : Calls) : Prop := ∀ ch, c'.chan ch = c.chan ch ∨ (c'.chan ch).call = none

theorem Calls.ChannelsShrink.trans {a b c : Calls} (h : a.ChannelsShrink b) (k : b.ChannelsShrink c) :
    a.ChannelsShrink c := by
  intro ch
  rcases k ch with e | e
  · rw [e]; exact h ch
  · exact .inr e

theorem finishCall_chan (now : Nat) (i : CallId) (o : CallOutcome) (w : Act Calls) (ch : Channel) :
    (finishCall now i o w).val.chan ch = w.val.chan ch := by
  rw [finishCall_others]; cases ch <;> rfl

theorem stopChannel_call (e : CallEnv) (ch : Channel) (c : Calls) : ((stopChannel e ch c).chan ch).call = none := by
  unfold stopChannel
  rw [Calls.chan_setChan_self]
  split <;> rfl

theorem stopChannel_chan_of_ne (e : CallEnv) {ch k : Channel} (c : Calls) (h : k ≠ ch) :
    (stopChannel e ch c).chan k = c.chan k := by
  unfold stopChannel
  rw [Calls.chan_setChan_of_ne _ _ h]
  cases k <;> rfl

theorem channelsShrink_stopChannel (e : CallEnv) (ch : Channel) (c : Calls) : c.ChannelsShrink (stopChannel e ch c) := by
  intro k
  by_cases h : k = ch
  · rw [h]; exact .inr (stopChannel_call e ch c)
  · exact .inl (stopChannel_chan_of_ne e c h)

/-! ## A call cancelled (R144, R145) -/

/-- A cancelled call finishes, and its channel is stopped where it plays. -/
theorem cancelCall_cases (e : CallEnv) (i : CallId) (w : Act Calls) :
    (∃ ch, w.val.table[i].life = .playing ∧ w.val.table[i].channel = some ch ∧
        cancelCall e i w = (finishCall e.now i .cancelled w).map (stopChannel e ch)) ∨
      ((∀ ch, w.val.table[i].life = .playing → w.val.table[i].channel ≠ some ch) ∧
        cancelCall e i w = finishCall e.now i .cancelled w) := by
  unfold cancelCall
  dsimp only
  split
  · next ch h1 h2 => exact .inl ⟨ch, h1, h2, rfl⟩
  · next h => exact .inr ⟨fun ch h1 h2 => h ch h1 h2, rfl⟩

theorem spares_cancelCall (e : CallEnv) (i : CallId) (w : Act Calls) :
    w.val.Spares (· = i) (cancelCall e i w).val := by
  have hf := spares_finishCall e.now i .cancelled w
  rcases cancelCall_cases e i w with ⟨ch, -, -, h⟩ | ⟨-, h⟩ <;> rw [h]
  · exact hf.trans (spares_stopChannel _ e ch _)
  · exact hf

theorem cancelCall_ended (e : CallEnv) (i : CallId) (w : Act Calls) :
    (cancelCall e i w).val.ended i w.val.table[i].creator .cancelled e.now := by
  have hf := finishCall_ended e.now i .cancelled w
  rcases cancelCall_cases e i w with ⟨ch, -, -, h⟩ | ⟨-, h⟩ <;> rw [h]
  · cases ch <;> exact Calls.ended_congr hf rfl (by cases w.val.table[i].creator <;> rfl)
  · exact hf

theorem cancelCall_lists (e : CallEnv) (i : CallId) (w : Act Calls) :
    (cancelCall e i w).val.waiting = w.val.waiting.erase i ∧
      (cancelCall e i w).val.timetable = w.val.timetable.erase i ∧
      (cancelCall e i w).val.ready = w.val.ready.erase i := by
  have hf := finishCall_others e.now i .cancelled w
  rcases cancelCall_cases e i w with ⟨ch, -, -, h⟩ | ⟨-, h⟩ <;> rw [h]
  · cases ch <;> (simp only [Act.map]; rw [hf]; exact ⟨rfl, rfl, rfl⟩)
  · rw [hf]; exact ⟨rfl, rfl, rfl⟩

theorem channelsShrink_cancelCall (e : CallEnv) (i : CallId) (w : Act Calls) :
    w.val.ChannelsShrink (cancelCall e i w).val := by
  have hf : w.val.ChannelsShrink (finishCall e.now i .cancelled w).val := fun ch => .inl (finishCall_chan _ _ _ _ ch)
  rcases cancelCall_cases e i w with ⟨ch, -, -, h⟩ | ⟨-, h⟩ <;> rw [h]
  · exact hf.trans (channelsShrink_stopChannel e ch _)
  · exact hf

/-- A cancelled call is on no channel, where a channel with the call is the one that its descriptor names. -/
theorem cancelCall_offChannel {e : CallEnv} {i : CallId} {w : Act Calls} {ch : Channel}
    (h : (w.val.chan ch).call = some i → w.val.table[i].life = .playing ∧ w.val.table[i].channel = some ch) :
    ((cancelCall e i w).val.chan ch).call ≠ some i := by
  intro hc
  have hw : (w.val.chan ch).call = some i := by
    rcases channelsShrink_cancelCall e i w ch with k | k
    · rwa [k] at hc
    · rw [k] at hc; exact absurd hc (by simp)
  obtain ⟨hl, hch⟩ := h hw
  rcases cancelCall_cases e i w with ⟨k, -, hk, he⟩ | ⟨hn, -⟩
  · obtain rfl : k = ch := Option.some.inj (hk.symm.trans hch)
    rw [he] at hc
    exact absurd ((stopChannel_call e k _).symm.trans hc) (by simp)
  · exact hn ch hl hch

/-! ## Every live call cancelled (R145) -/

/-- One call of the cancellation on entering DARK. -/
def cancelLive (e : CallEnv) (w : Act Calls) (i : CallId) : Act Calls :=
  if w.val.table[i].life.live then cancelCall e i w else w

/-- What the cancellation of some calls does to all of them. -/
theorem foldl_cancelLive (e : CallEnv) (is : List CallId) (w : Act Calls) :
    w.val.Spares (· ∈ is) (is.foldl (cancelLive e) w).val ∧ w.val.ListsShrink (is.foldl (cancelLive e) w).val ∧
      w.val.ChannelsShrink (is.foldl (cancelLive e) w).val := by
  induction is generalizing w with
  | nil => exact ⟨.refl _ _, .refl _, fun _ => .inl rfl⟩
  | cons i is ih =>
    obtain ⟨k1, k2, k3⟩ := ih (cancelLive e w i)
    have one : w.val.Spares (· = i) (cancelLive e w i).val ∧ w.val.ListsShrink (cancelLive e w i).val ∧
        w.val.ChannelsShrink (cancelLive e w i).val := by
      unfold cancelLive
      split
      · obtain ⟨l1, l2, l3⟩ := cancelCall_lists e i w
        refine ⟨spares_cancelCall e i w, ?_, channelsShrink_cancelCall e i w⟩
        rw [Calls.ListsShrink, l1, l2, l3]
        exact ⟨List.erase_sublist, List.erase_sublist, List.erase_sublist⟩
      · exact ⟨.refl _ _, .refl _, fun _ => .inl rfl⟩
    obtain ⟨o1, o2, o3⟩ := one
    exact ⟨(o1.mono fun x hx => hx ▸ List.mem_cons_self).trans (k1.mono fun x hx => .tail _ hx), o2.trans k2, o3.trans k3⟩

theorem generalCalls_split {x : CallId} (hx : 2 ≤ x.val) :
    ∃ l r, generalCalls = l ++ x :: r ∧ x ∉ l ∧ x ∉ r := by
  obtain ⟨l, r, h⟩ := List.append_of_mem ((mem_generalCalls x).mpr hx)
  have hn : generalCalls.Nodup := (List.nodup_finRange 48).drop
  rw [h, List.nodup_append, List.nodup_cons] at hn
  obtain ⟨-, ⟨hr, -⟩, hd⟩ := hn
  exact ⟨l, r, h, fun hl => hd x hl x List.mem_cons_self rfl, hr⟩

theorem Life.live_iff (l : Life) : l.live = true ↔ l ≠ .free ∧ l ≠ .finished := by cases l <;> decide

/-- With every live general call cancelled, one of them has ended and is on no channel and in no collection. -/
theorem cancelled_live {e : CallEnv} {c : Calls} (h : c.lawful) {x : CallId} (hx : 2 ≤ x.val)
    (hl : c.table[x].life.live = true) :
    let c' := (generalCalls.foldl (cancelLive e) ⟨c, []⟩).val
    c'.ended x c.table[x].creator .cancelled e.now ∧ x ∉ c'.waiting ∧ x ∉ c'.timetable ∧ x ∉ c'.ready ∧
      ∀ ch, (c'.chan ch).call ≠ some x := by
  obtain ⟨l, r, hs, hxl, hxr⟩ := generalCalls_split hx
  obtain ⟨s1, s2, s3⟩ := foldl_cancelLive e l ⟨c, []⟩
  rw [hs, List.foldl_append, List.foldl_cons]
  generalize l.foldl (cancelLive e) ⟨c, []⟩ = u at s1 s2 s3
  obtain ⟨r1, ⟨r2, r3, r4⟩, r5⟩ := foldl_cancelLive e r (cancelLive e u x)
  have hnf : .general x ∉ c.finished := fun hf => by
    rw [(h.mem_finished hx).mp hf] at hl; exact absurd hl (by decide)
  have ht : u.val.table[x] = c.table[x] := s1.table_eq hxl hnf
  have hc : cancelLive e u x = cancelCall e x u := if_pos (by rw [ht]; exact hl)
  rw [hc] at r1 r2 r3 r4 r5 ⊢
  obtain ⟨l1, l2, l3⟩ := cancelCall_lists e x u
  obtain ⟨n1, n2, n3⟩ := h.nodup
  have off (ch : Channel) : ((cancelCall e x u).val.chan ch).call ≠ some x := cancelCall_offChannel fun hu => by
    rw [ht]
    rcases s3 ch with k | k
    · exact (h.onChannel hx (by rw [← k]; exact hu)).2
    · exact absurd (k.symm.trans hu) (by simp)
  refine ⟨r1.ended x _ _ _ hxr (ht ▸ cancelCall_ended e x u), fun hm => ?_, fun hm => ?_, fun hm => ?_, fun ch hm => ?_⟩
  · exact (n1.sublist s2.1).not_mem_erase (l1 ▸ r2.subset hm)
  · exact (n2.sublist s2.2.1).not_mem_erase (l2 ▸ r3.subset hm)
  · exact (n3.sublist s2.2.2).not_mem_erase (l3 ▸ r4.subset hm)
  · rcases r5 ch with k | k
    · exact off ch (by rw [← k]; exact hm)
    · exact absurd (k.symm.trans hm) (by simp)

/-- No channel carries a general call. -/
def Calls.NoGeneral (c : Calls) : Prop := ∀ ch, c.generalOn ch = none

theorem Calls.noGeneral_of_calls {c : Calls} (h : ∀ ch (x : CallId), 2 ≤ x.val → (c.chan ch).call ≠ some x) :
    c.NoGeneral := by
  intro ch
  unfold Calls.generalOn
  split
  · rw [Option.filter_eq_none_iff]
    intro x hx hg
    exact h ch x (by simpa [isGeneral] using hg) hx
  · rfl

/-- With every live general call cancelled, the collections of live calls are empty and no general call plays. -/
theorem cancelled_collections {e : CallEnv} {c : Calls} (h : c.lawful) :
    let c' := (generalCalls.foldl (cancelLive e) ⟨c, []⟩).val
    c'.waiting = [] ∧ c'.timetable = [] ∧ c'.ready = [] ∧ c'.NoGeneral := by
  obtain ⟨-, ⟨s1, s2, s3⟩, s4⟩ := foldl_cancelLive e generalCalls ⟨c, []⟩
  have live {x : CallId} (hx : 2 ≤ x.val) {l : Life} (hl : c.table[x].life = l) (hv : l.live = true) :=
    cancelled_live (e := e) h hx (by rw [hl]; exact hv)
  refine ⟨List.eq_nil_iff_forall_not_mem.mpr fun x hm => ?_, List.eq_nil_iff_forall_not_mem.mpr fun x hm => ?_,
    List.eq_nil_iff_forall_not_mem.mpr fun x hm => ?_, Calls.noGeneral_of_calls fun ch x hx hm => ?_⟩
  · by_cases hx : 2 ≤ x.val
    · exact (live hx ((h.mem_waiting hx).mp (s1.subset hm)) rfl).2.1 hm
    · exact (h.builtIn_nowhere (by omega)).1 (s1.subset hm)
  · by_cases hx : 2 ≤ x.val
    · exact (live hx ((h.mem_timetable hx).mp (s2.subset hm)) rfl).2.2.1 hm
    · exact (h.builtIn_nowhere (by omega)).2.1 (s2.subset hm)
  · by_cases hx : 2 ≤ x.val
    · exact (live hx ((h.mem_ready hx).mp (s3.subset hm)) rfl).2.2.2.1 hm
    · exact (h.builtIn_nowhere (by omega)).2.2.1 (s3.subset hm)
  · have hc : (c.chan ch).call = some x := by
      rcases s4 ch with k | k
      · rw [← k]; exact hm
      · exact absurd (k.symm.trans hm) (by simp)
    exact (live hx (h.onChannel hx hc).2.1 rfl).2.2.2.2 ch hm

/-! ## A built-in call started while no general call plays (R159) -/

theorem preEmpt_none {e : CallEnv} {ch : Channel} {w : Act Calls} (h : w.val.generalOn ch = none) :
    preEmpt e ch w = w := by
  unfold preEmpt; rw [h]

/-- A built-in call started on a channel with its zones. -/
def Calls.builtInStarted (b : BuiltIn) (ch : Channel) (zones : ZoneSet) (c : Calls) : Calls :=
  (startPlay ch (builtInCall b) zones
    (c.setDesc (builtInCall b) { c.table[builtInCall b] with zones := zones })).setRun b (.onChannel ch)

theorem startBuiltIn_eq {e : CallEnv} {b : BuiltIn} {ch : Channel} {w : Act Calls} (h : w.val.NoGeneral) :
    startBuiltIn e b ch w = w.map (Calls.builtInStarted b ch (w.val.builtInZones b)) := by
  unfold startBuiltIn
  rw [preEmpt_none (h _)]
  dsimp only
  rw [ite_self]
  rfl

theorem spares_builtInStarted (b : BuiltIn) (ch : Channel) (zones : ZoneSet) (c : Calls) :
    c.Spares (· = builtInCall b) (c.builtInStarted b ch zones) :=
  ((spares_setDesc _ _ c).trans (spares_startPlay ch _ zones _)).trans (spares_setRun _ _ _ _)

theorem startPlay_chan (ch : Channel) (i : CallId) (live : ZoneSet) (c : Calls) (k : Channel) :
    (startPlay ch i live c).chan k =
      if k = ch then (c.chan ch).starting i c.table[i].message live c.table[i].missed else c.chan k := by
  cases ch <;> cases k <;> rfl

theorem setRun_chan (b : BuiltIn) (r : RunPosition) (c : Calls) (k : Channel) : (c.setRun b r).chan k = c.chan k := by
  cases b <;> cases k <;> rfl

theorem builtInStarted_chan (b : BuiltIn) (ch : Channel) (zones : ZoneSet) (c : Calls) (k : Channel) :
    (c.builtInStarted b ch zones).chan k =
      if k = ch then (c.chan ch).starting (builtInCall b) c.table[builtInCall b].message zones
        c.table[builtInCall b].missed else c.chan k := by
  unfold Calls.builtInStarted
  rw [setRun_chan, startPlay_chan, Calls.setDesc_table_self]
  cases ch <;> cases k <;> rfl

theorem builtInStarted_noGeneral {b : BuiltIn} {ch : Channel} {zones : ZoneSet} {c : Calls} (h : c.NoGeneral) :
    (c.builtInStarted b ch zones).NoGeneral := by
  intro k
  unfold Calls.generalOn
  rw [builtInStarted_chan]
  split
  · cases b <;> rfl
  · exact h k

theorem listsShrink_builtInStarted (b : BuiltIn) (ch : Channel) (zones : ZoneSet) (c : Calls) :
    c.ListsShrink (c.builtInStarted b ch zones) := by
  cases b <;> cases ch <;> exact ⟨.refl _, .refl _, List.erase_sublist⟩

/-- The search of the evacuation call, while no general call plays: it starts, or nothing happens but a notice. -/
theorem seekEvacuation_cases {e : CallEnv} {w : Act Calls} (announce : Bool) (h : w.val.NoGeneral) :
    (∃ ch, seekEvacuation e announce w = w.map (Calls.builtInStarted .evacuation ch w.val.evacZones)) ∨
      (seekEvacuation e announce w).val = w.val := by
  unfold seekEvacuation
  split
  · split
    · exact .inr rfl
    · split
      · next ch _ => exact .inl ⟨ch, startBuiltIn_eq h⟩
      · split <;> exact .inr rfl
  · exact .inr rfl

theorem seekStaffAlert_cases {e : CallEnv} {w : Act Calls} (h : w.val.NoGeneral) :
    (∃ ch, seekStaffAlert e w = w.map (Calls.builtInStarted .staffAlert ch w.val.staffZones)) ∨
      seekStaffAlert e w = w := by
  unfold seekStaffAlert
  split
  · split
    · exact .inl ⟨.a, startBuiltIn_eq h⟩
    · split
      · exact .inl ⟨.b, startBuiltIn_eq h⟩
      · exact .inr rfl
  · exact .inr rfl

/-- The searches of the built-in calls, while no general call plays, touch no general call. -/
theorem seekBuiltIns_general {e : CallEnv} {w : Act Calls} (announce : Bool) (h : w.val.NoGeneral) :
    w.val.Spares (·.val < 2) (seekBuiltIns e announce w).val ∧ w.val.ListsShrink (seekBuiltIns e announce w).val := by
  have started (b : BuiltIn) (ch : Channel) (zones : ZoneSet) (c : Calls) :
      c.Spares (·.val < 2) (c.builtInStarted b ch zones) :=
    (spares_builtInStarted b ch zones c).mono fun x hx => by rw [hx]; cases b <;> decide
  have first : w.val.Spares (·.val < 2) (seekEvacuation e announce w).val ∧
      w.val.ListsShrink (seekEvacuation e announce w).val ∧ (seekEvacuation e announce w).val.NoGeneral := by
    rcases seekEvacuation_cases (e := e) announce h with ⟨ch, k⟩ | k <;> rw [k]
    · exact ⟨started .evacuation ch _ w.val, listsShrink_builtInStarted _ _ _ _, builtInStarted_noGeneral h⟩
    · exact ⟨.refl _ _, .refl _, h⟩
  obtain ⟨f1, f2, f3⟩ := first
  unfold seekBuiltIns
  rcases seekStaffAlert_cases (e := e) f3 with ⟨ch, k⟩ | k <;> rw [k]
  · exact ⟨f1.trans (started .staffAlert ch _ _), f2.trans (listsShrink_builtInStarted _ _ _ _)⟩
  · exact ⟨f1, f2⟩

/-! ## The cancellation with the walk that follows (R145) -/

theorem walkOnChange_of_empty {now : Nat} {before : Calls} {w : Act Calls} (h : w.val.ready = []) :
    walkOnChange now before w = w := by
  unfold walkOnChange; rw [walk_of_empty h, ite_self]

/-- Entering DARK cancels every live general call, where the collections are lawful. -/
theorem darkCancelAct_cancels {e : CallEnv} {c : Calls} (h : c.lawful) :
    let c' := (darkCancelAct e ⟨c, []⟩).val
    c'.waiting = [] ∧ c'.timetable = [] ∧ c'.ready = [] ∧ ∀ x : CallId, 2 ≤ x.val → c.table[x].life.live = true →
      c'.ended x c.table[x].creator .cancelled e.now := by
  obtain ⟨h1, h2, h3, h4⟩ := cancelled_collections (e := e) h
  have hl (x : CallId) (hx : 2 ≤ x.val) (hv : c.table[x].life.live = true) := (cancelled_live (e := e) h hx hv).1
  have hd : (fun (w : Act Calls) i => if w.val.table[i].life.live then cancelCall e i w else w) = cancelLive e := rfl
  unfold darkCancelAct
  rw [hd]
  generalize generalCalls.foldl (cancelLive e) ⟨c, []⟩ = w at h1 h2 h3 h4 hl ⊢
  dsimp only at h1 h2 h3 h4 hl ⊢
  split
  · rw [walkOnChange_of_empty h3]
    exact ⟨h1, h2, h3, hl⟩
  · obtain ⟨k1, k2, k3, k4⟩ := seekBuiltIns_general (e := e) true h4
    have he : (seekBuiltIns e true w).val.ready = [] := List.sublist_nil.mp (h3 ▸ k4)
    unfold afterIdle
    rw [walk_of_empty he]
    exact ⟨List.sublist_nil.mp (h1 ▸ k2), List.sublist_nil.mp (h2 ▸ k3), he,
      fun x hx hv => k1.ended x _ _ _ (by omega) (hl x hx hv)⟩

/-! ## Anchor events that find no call -/

/-- An anchor event finds no call while nothing waits and nothing is timed. -/
theorem anchorEventAct_of_empty {a : Anchor} {ev : AnchorEvent} {e : CallEnv} {w : Act Calls} (hw : w.val.waiting = [])
    (ht : w.val.timetable = []) : anchorEventAct a ev e w = w := by
  have hn : onAnchorEvent e a ev w = w := by
    cases ev
    · show List.foldl _ w (w.val.waiting.filter _) = w
      rw [hw]; rfl
    · show List.foldl _ w (w.val.timetable.filter _) = w
      rw [ht]; rfl
    · show List.foldl _ w (w.val.timetable.filter _) = w
      rw [ht]; rfl
  unfold anchorEventAct walkOnChange
  rw [hn, if_pos rfl]

theorem handAnchors_of_empty (events : List (Anchor × AnchorEvent)) {s : State} (hw : s.calls.waiting = [])
    (ht : s.calls.timetable = []) : handAnchors events s = s := by
  unfold handAnchors
  induction events with
  | nil => rfl
  | cons x xs ih =>
    have hx : s.onCalls (anchorEventAct x.1 x.2) = s := by
      unfold State.onCalls
      rw [anchorEventAct_of_empty hw ht]
      rfl
    rw [List.foldl_cons, hx]
    exact ih

end Sys2Proof.Machine
end

section
/-! The requests that enter DARK, PRESET and HOUSE_OPEN (R8, R9, R10, R17, R145). -/
namespace Sys2Proof.Machine

/-- What was handed on from a state that an event has reached quietly was handed on from before it. -/
theorem PhaseHandedOn.after {s u t : State} (h : PhaseHandedOn u t) (hq : Quietly s u) (hc : u.curtain = s.curtain)
    (ht : KeepsLinks u t) : PhaseHandedOn s t := by
  obtain ⟨h1, h2, h3, h4, h5, h6⟩ := h
  exact ⟨hq.1.trans h1, h2.trans hc, h3, h4, h5, fun q hp => (h6 q hp).after hq.2 ht⟩

theorem KeepsLinks.completeChange {old : House} {cause : ClearanceCause} {s : State} (h : ReachesNoZone old s) :
    KeepsLinks s (completeChange old cause showModeOff s) :=
  (quietly_handRecord old cause s).2.trans (handRecord_to_completeChange h)

/-! ## Entering DARK (R17, R145) -/

/-- The state as DARK is entered, the calls cancelled and the change not yet handed on. -/
def State.darkening (s : State) : State := ({ s with house := s.house.darkened } : State).onCalls darkCancelAct

theorem enterDark_eq (s : State) : enterDark s = completeChange s.house .cleared showModeOff s.darkening := rfl

theorem quietly_darkening (s : State) : Quietly s s.darkening :=
  quietly_onCalls darkCancelAct { s with house := s.house.darkened }

/-- What DARK leaves of the calls, where their collections are lawful. -/
theorem enterDark_calls {s : State} (hz : ReachesNoZone s.house s.darkening) (hp : s.house.phase ≠ .dark)
    (h : s.calls.lawful) : CallsCancelled s (enterDark s) := by
  obtain ⟨h1, h2, h3, h4⟩ := darkCancelAct_cancels (e := ({ s with house := s.house.darkened } : State).callEnv) h
  have hd : s.darkening.calls =
      (darkCancelAct ({ s with house := s.house.darkened } : State).callEnv ⟨s.calls, []⟩).val :=
    State.onCalls_calls darkCancelAct { s with house := s.house.darkened }
  rw [← hd] at h1 h2 h3 h4
  have hcalls : (enterDark s).calls = { s.darkening.calls with phaseSeen := .dark } := by
    rw [enterDark_eq]
    obtain ⟨-, -, -, -, k⟩ := completeChange_others (cause := .cleared) hz
    rw [k, (handRecord_newPhase (old := s.house) (s := s.darkening) fun hc => hp hc.1).2,
      handAnchors_of_empty _ h1 h2]
    rfl
  clear hd
  generalize s.darkening.calls = c at h1 h2 h3 h4 hcalls
  refine ⟨?_, ?_, ?_, fun x hx hf hn => ?_⟩
  · rw [hcalls]; exact h1
  · rw [hcalls]; exact h2
  · rw [hcalls]; exact h3
  · rw [hcalls]
    exact Calls.ended.finishedAs (Calls.ended_congr (h4 x hx ((Life.live_iff _).mpr ⟨hf, hn⟩)) rfl
      (by cases s.calls.table[x].creator <;> rfl))

/-- A taken request that enters DARK and reaches no zone. -/
theorem takeRequest_enterDark {p : Port} {i : Instr} {block : State → State × Answer} {s : State}
    (ht : takeable p (requestFrame i) s = true) (hk : kindKnown (requestFrame i).kind = true)
    (hp : permitted p (requestFrame i).kind = true) (hs : shapeOk i = true)
    (hb : block s = (enterDark s, done .empty)) (hd : s.house.phase ≠ .dark)
    (hz : NoneDelayed s ∨ s.house.showMode = false) :
    ∃ t, takeRequest p i block s = .next t ∧ AnsweredWith p (requestFrame i).kind (done .empty) s t ∧
      t.house = s.house.darkened ∧ t.fire = s.fire ∧ PhaseHandedOn s t ∧ (s.calls.lawful → CallsCancelled s t) := by
  have hz' : ReachesNoZone s.house s.darkening := hz.imp id .inl
  have hl : KeepsLinks s.darkening (enterDark s) := KeepsLinks.completeChange hz'
  obtain ⟨t, hx, ha, hu, hr⟩ := takeRequest_answers ht hk hp hs hb ((quietly_darkening s).2.trans hl)
  obtain ⟨k1, k2, -⟩ := completeChange_others (cause := .cleared) hz'
  have hph : PhaseHandedOn s (enterDark s) :=
    (completeChange_phaseHandedOn (old := s.house) (s := s.darkening) hz' fun hc => hd hc.1).after
      (quietly_darkening s) rfl hl
  refine ⟨t, hx, ha, by rw [hu]; exact k1, by rw [hu]; exact k2, hph.relink hu hr, fun h => ?_⟩
  have hc : t.calls = (enterDark s).calls := by rw [hu]
  unfold CallsCancelled
  rw [hc]
  exact enterDark_calls hz' hd h

/-! ## OPEN PERFORMANCE (R9) -/

theorem Fire.clearSuppressed_zones (f : Fire) (z : ZoneId) :
    f.clearSuppressed.zones[z] = { f.zones[z] with suppressed := 0 } := vmap_get _ _ z

theorem openPerformance_opens {s : State} (hz : NoneDelayed s ∨ s.house.showMode = false)
    (ht : takeable .prompt ⟨0x03, []⟩ s = true) (hp : s.house.phase = .dark) :
    ∃ t, exec (.openPerformance .prompt) s = .next t ∧ AnsweredWith .prompt 0x03 (done .empty) s t ∧
      t.house = s.house.opened ∧ t.fire = s.fire.clearSuppressed ∧ PhaseHandedOn s t := by
  have hz' : ReachesNoZone s.house { s with fire := s.fire.clearSuppressed, house := s.house.opened } :=
    hz.imp (fun h z => by
      show s.fire.clearSuppressed.zones[z].state ≠ _
      rw [Fire.clearSuppressed_zones]
      exact h z) .inl
  have hn : ¬ (s.house.phase = s.house.opened.phase ∧ s.house.stop = s.house.opened.stop) := by
    simp [House.opened, hp]
  obtain ⟨t, hx, ha, hu, hr⟩ := takeRequest_answers (i := .openPerformance .prompt) (block := openPerformanceBlock)
    (u := changeHouse .cleared s.house.opened { s with fire := s.fire.clearSuppressed }) ht (by decide) (by decide) rfl
    (inPhase_accepted (by simp [hp])) (quietly_changeHouse .cleared s.house.opened _).2
  obtain ⟨k1, k2, -⟩ := changeHouse_others (cause := .cleared) (s := { s with fire := s.fire.clearSuppressed }) hz'
  have hph := changeHouse_phaseHandedOn (cause := .cleared) (s := { s with fire := s.fire.clearSuppressed }) hz' hn
  refine ⟨t, hx, ha, by rw [hu]; exact k1, by rw [hu]; exact k2, PhaseHandedOn.relink hph hu hr⟩

/-- Settles O10: each request in its phase writes its record and hands the phase on; DARK first cancels the calls. -/
theorem performancesOpenAndClose : Obligations.PerformancesOpenAndClose := by
  refine ⟨fun s => ⟨fun ht hp => ?_, fun hz ht hp => ?_, fun hz ht hp => ?_⟩,
    fun s => ⟨fun hz ht hp => ?_, fun ht hp hq => ?_, fun ht hp hq => ?_⟩,
    fun s => ⟨fun ht hp => ?_, fun ht hp => ?_, fun ht hp => ?_, fun ht hp => ?_, fun ht hp => ?_⟩⟩
  · have hn : ¬ (s.house.phase = .dark ∧ s.house.stop = s.house.stop) := by simp [hp]
    have hz : ReachesNoZone s.house { s with house := { s.house with phase := .dark } } := .inr (.inl rfl)
    obtain ⟨t, hx, ha, k1, k2, k3, -, k5, -⟩ := takeRequest_changePhase (i := .configurationComplete .house)
      (block := configurationCompleteBlock) (cause := .cleared) (new := { s.house with phase := .dark }) ht (by decide)
      (by decide) rfl (inPhase_accepted (by simp [hp])) hz hn
    obtain ⟨-, -, -, -, h5⟩ := changeHouse_others (cause := .cleared) hz
    refine ⟨t, hx, ha, k1, k2, k3, ?_⟩
    rw [k5, h5, (handRecord_newPhase (old := s.house) (s := { s with house := { s.house with phase := .dark } }) hn).2]
    dsimp only
    rw [anchorEvents_self]
    rfl
  · exact takeRequest_enterDark (i := .closePerformance .prompt) (block := closePerformanceBlock) ht (by decide)
      (by decide) rfl (inPhase_accepted (by simp [hp])) (by simp [hp]) hz
  · exact takeRequest_enterDark (i := .houseClosed .house) (block := houseClosedBlock) ht (by decide)
      (by decide) rfl (inPhase_accepted (by simp [hp])) (by simp [hp]) hz
  · obtain ⟨t, hx, ha, k1, k2, k3⟩ := openPerformance_opens hz ht hp
    exact ⟨t, hx, ha, k1, fun z => by rw [k2]; exact Fire.clearSuppressed_zones _ z, by rw [k2]; rfl, k3⟩
  · obtain ⟨t, hx, ha, k1, k2, k3, -⟩ := takeRequest_changePhase (i := .openHouse .house) (block := openHouseBlock)
      (new := s.house.openedHouse s.clock) (a := done .empty) ht (by decide) (by decide) rfl
      ((inPhase_accepted (by simp [hp])).trans (by rw [quietInterlock_quiet hq]; rfl)) (.inr (.inl rfl))
      (by simp [House.openedHouse, hp])
    exact ⟨t, hx, ha, k1, k2, k3⟩
  · exact takeRequest_unchanged (i := .openHouse .house) ht (by decide) (by decide) rfl
      ((inPhase_accepted (by simp [hp])).trans (by rw [quietInterlock_loud hq]; rfl))
  · exact takeRequest_unchanged (i := .configurationComplete .house) ht (by decide) (by decide) rfl
      (inPhase_refused (by simp [hp]))
  · exact takeRequest_unchanged (i := .openPerformance .prompt) ht (by decide) (by decide) rfl
      (inPhase_refused (by simp [hp]))
  · exact takeRequest_unchanged (i := .closePerformance .prompt) ht (by decide) (by decide) rfl
      (inPhase_refused (by simp [hp]))
  · exact takeRequest_unchanged (i := .openHouse .house) ht (by decide) (by decide) rfl
      (inPhase_refused (by simp [hp]))
  · exact takeRequest_unchanged (i := .houseClosed .house) ht (by decide) (by decide) rfl
      (inPhase_refused (by simp [hp]))

end Sys2Proof.Machine
end

section
/-! SUPPORT. A call armed (R135), moved by anchor events (R136 to R138), and left standing by the walk (R157). -/
namespace Sys2Proof.Machine

/-! ## Sets of paging zones (R180) -/

theorem testBit_bitsToNat (bs : List Bool) (i : Nat) : (bitsToNat bs).testBit i = bs.getD i false := by
  induction bs generalizing i with
  | nil => simp [bitsToNat]
  | cons b bs ih =>
    have hb : bitsToNat (b :: bs) = Nat.bit b (bitsToNat bs) := by
      rw [bitsToNat, Nat.bit_val, Nat.add_comm, Nat.mul_comm]
    rw [hb]
    cases i with
    | zero => simp
    | succ i => rw [Nat.testBit_bit_succ, ih]; simp

theorem Calls.zonesWhere_bit (c : Calls) (f : PagingZone → Bool) (z : Fin 12) :
    (c.zonesWhere f).getLsbD z = f c.paging[z] := by
  unfold Calls.zonesWhere
  rw [BitVec.getLsbD_ofNat, testBit_bitsToNat]
  simp

theorem zoneSet_eq_zero_iff (v : ZoneSet) : v = 0 ↔ ∀ z : Fin 12, v.getLsbD z = false := by
  constructor
  · rintro rfl z; simp
  · intro h
    apply BitVec.eq_of_getLsbD_eq
    intro i hi
    rw [h ⟨i, hi⟩]
    simp

/-- A call could play somewhere exactly when its live set is not empty (R157). -/
theorem Calls.audible_iff (c : Calls) (zones : ZoneSet) : c.audible zones ↔ zones &&& ~~~c.mutedZones ≠ 0 := by
  have bit (z : Fin 12) : (zones &&& ~~~c.mutedZones).getLsbD z = (zones.getLsbD z && !c.paging[z].muted) := by
    rw [BitVec.getLsbD_and, BitVec.getLsbD_not, Calls.mutedZones, Calls.zonesWhere_bit]
    simp [z.isLt]
  rw [ne_eq, zoneSet_eq_zero_iff, not_forall]
  exact exists_congr fun z => by rw [bit]; simp

/-! ## What stands outside the collections -/

/-- The channels, the paging zones, the fire condition seen and the built-in runs, as they were. -/
def Calls.SameStage (c c' : Calls) : Prop :=
  c'.fireSeen = c.fireSeen ∧ c'.arbiterFire = c.arbiterFire ∧ c'.paging = c.paging ∧ c'.chanA = c.chanA ∧
    c'.chanB = c.chanB ∧ c'.evacuation = c.evacuation ∧ c'.staffAlert = c.staffAlert

theorem Calls.SameStage.refl (c : Calls) : c.SameStage c := ⟨rfl, rfl, rfl, rfl, rfl, rfl, rfl⟩

theorem Calls.SameStage.trans {a b c : Calls} (h : a.SameStage b) (k : b.SameStage c) : a.SameStage c := by
  obtain ⟨h1, h2, h3, h4, h5, h6, h7⟩ := h
  obtain ⟨k1, k2, k3, k4, k5, k6, k7⟩ := k
  exact ⟨k1.trans h1, k2.trans h2, k3.trans h3, k4.trans h4, k5.trans h5, k6.trans h6, k7.trans h7⟩

theorem sameStage_finishCall (now : Nat) (i : CallId) (o : CallOutcome) (w : Act Calls) :
    w.val.SameStage (finishCall now i o w).val := by rw [finishCall_others]; exact .refl _

/-! ## One call, followed through the acts at others -/

/-- A call stands with its descriptor, neither READY nor finished. -/
def Calls.stands (x : CallId) (d : Descriptor) (c : Calls) : Prop :=
  c.table[x] = d ∧ x ∉ c.ready ∧ .general x ∉ c.finished

theorem Calls.stands.spared {x : CallId} {d : Descriptor} {c c' : Calls} (h : c.stands x d) {J : CallId → Prop}
    (k : c.Spares J c') (hx : ¬ J x) : c'.stands x d := by
  obtain ⟨h1, h2, h3⟩ := h
  exact ⟨(k.table_eq hx h3).trans h1, mt (k.ready x hx).mp h2, mt (k.finished x hx) h3⟩

/-- A call waits in READY with its descriptor. -/
def Calls.queued (x : CallId) (d : Descriptor) (c : Calls) : Prop :=
  c.table[x] = d ∧ x ∈ c.ready ∧ x ∉ c.waiting ∧ x ∉ c.timetable ∧ .general x ∉ c.finished

theorem Calls.queued.spared {x : CallId} {d : Descriptor} {c c' : Calls} (h : c.queued x d) {J : CallId → Prop}
    (k : c.Spares J c') (hx : ¬ J x) : c'.queued x d := by
  obtain ⟨h1, h2, h3, h4, h5⟩ := h
  exact ⟨(k.table_eq hx h5).trans h1, (k.ready x hx).mpr h2, mt (k.waiting x hx).mp h3, mt (k.timetable x hx).mp h4,
    mt (k.finished x hx) h5⟩

/-! ## Arming (R135) -/

/-- The descriptor of a call armed TIMED. -/
def Descriptor.timedAt (due : Nat) (basis : DueBasis) (d : Descriptor) : Descriptor :=
  { d with life := .timed, due := some due, basis := some basis, entry := none, deadline := none }

/-- The descriptor of a call that enters READY. -/
def Descriptor.readyAt (now : Nat) (d : Descriptor) : Descriptor :=
  { d with life := .ready, due := none, basis := none, entry := some now, deadline := deadlineOf now d.lifetime }

/-- What arming with a due time has made of a call with descriptor `d` (R135). -/
def Calls.armed (now due : Nat) (basis : DueBasis) (d : Descriptor) (x : CallId) (c : Calls) : Prop :=
  (now < due ∨ c.fireSeen = .evacuate → x ∈ c.timetable ∧ c.stands x (d.timedAt due basis)) ∧
    (due ≤ now → c.fireSeen ≠ .evacuate →
      (0 < d.lifetime → due + d.lifetime < now → c.ended x d.creator .expired now ∧ x ∉ c.ready) ∧
        (d.lifetime = 0 ∨ now ≤ due + d.lifetime → c.queued x (d.readyAt now)))

theorem Calls.armed.spared {now due : Nat} {basis : DueBasis} {d : Descriptor} {x : CallId} {c c' : Calls}
    (h : c.armed now due basis d x) {J : CallId → Prop} (k : c.Spares J c') (hf : c'.fireSeen = c.fireSeen)
    (hx : ¬ J x) : c'.armed now due basis d x := by
  obtain ⟨h1, h2⟩ := h
  unfold Calls.armed
  rw [hf]
  refine ⟨fun hc => ?_, fun hd he => ⟨fun hl ho => ?_, fun hl => ?_⟩⟩
  · obtain ⟨k1, k2⟩ := h1 hc
    exact ⟨(k.timetable x hx).mpr k1, k2.spared k hx⟩
  · obtain ⟨k1, k2⟩ := (h2 hd he).1 hl ho
    exact ⟨k.ended x _ _ _ hx k1, mt (k.ready x hx).mp k2⟩
  · exact ((h2 hd he).2 hl).spared k hx

theorem armCall_timed {now due : Nat} {basis : DueBasis} {i : CallId} {w : Act Calls}
    (h : now < due ∨ w.val.fireSeen = .evacuate) : armCall now due basis i w = w.map (enterTimed due basis i) := by
  have hp : placingOf now due w.val.table[i].lifetime w.val.fireSeen = .timed := by
    unfold placingOf
    rcases h with h | h
    · rw [if_pos h]
    · rw [if_pos h, ite_self]
  unfold armCall
  rw [hp]

theorem armCall_late {now due : Nat} {basis : DueBasis} {i : CallId} {w : Act Calls} (h : due ≤ now)
    (hf : w.val.fireSeen ≠ .evacuate) :
    armCall now due basis i w =
      if 0 < w.val.table[i].lifetime ∧ due + w.val.table[i].lifetime < now then finishCall now i .expired w
      else w.map (enterReady now i) := by
  unfold armCall placingOf
  rw [if_neg (Nat.not_lt.mpr h), if_neg hf]
  by_cases hl : 0 < w.val.table[i].lifetime ∧ due + w.val.table[i].lifetime < now
  · rw [if_pos hl, if_pos hl]
  · rw [if_neg hl, if_neg hl]

/-- Arming acts at its call alone and leaves the stage. -/
theorem spares_armCall (now due : Nat) (basis : DueBasis) (i : CallId) (w : Act Calls) :
    w.val.Spares (· = i) (armCall now due basis i w).val ∧ w.val.SameStage (armCall now due basis i w).val := by
  by_cases h : now < due ∨ w.val.fireSeen = .evacuate
  · rw [armCall_timed h]
    exact ⟨spares_enterTimed due basis i w.val, .refl _⟩
  · obtain ⟨h1, h2⟩ := not_or.mp h
    rw [armCall_late (Nat.not_lt.mp h1) h2]
    split
    · exact ⟨spares_finishCall now i .expired w, sameStage_finishCall now i .expired w⟩
    · exact ⟨spares_enterReady now i w.val, .refl _⟩

/-- A call armed that stands nowhere. -/
theorem armCall_arms {now due : Nat} {basis : DueBasis} {i : CallId} {w : Act Calls} (hw : i ∉ w.val.waiting)
    (ht : i ∉ w.val.timetable) (hr : i ∉ w.val.ready) (hf : .general i ∉ w.val.finished) :
    (armCall now due basis i w).val.armed now due basis w.val.table[i] i := by
  have hs := (spares_armCall now due basis i w).2.1
  unfold Calls.armed
  rw [hs]
  refine ⟨fun h => ?_, fun hd he => ⟨fun hl ho => ?_, fun hl => ?_⟩⟩
  · rw [armCall_timed h]
    exact ⟨(mem_insertBy _ _ _ _).mpr (.inl rfl), Calls.setDesc_table_self i _ w.val, hr, hf⟩
  · rw [armCall_late hd he, if_pos ⟨hl, ho⟩]
    refine ⟨finishCall_ended now i .expired w, ?_⟩
    rw [finishCall_others]
    exact fun h => hr (List.mem_of_mem_erase h)
  · rw [armCall_late hd he, if_neg (by omega)]
    exact ⟨Calls.setDesc_table_self i _ w.val, (mem_insertBy _ _ _ _).mpr (.inl rfl), hw, ht, hf⟩

theorem insertBy_nodup {α : Type} {before : α → α → Bool} {x : α} {l : List α} (hx : x ∉ l) (h : l.Nodup) :
    (insertBy before x l).Nodup := (insertBy_perm before x l).nodup_iff.mpr (List.nodup_cons.mpr ⟨hx, h⟩)

/-- Arming a call that stands nowhere lists no call twice. -/
theorem armCall_nodup {now due : Nat} {basis : DueBasis} {i : CallId} {w : Act Calls} (hi : i ∉ w.val.timetable)
    (hr : i ∉ w.val.ready) (hn : w.val.waiting.Nodup ∧ w.val.timetable.Nodup ∧ w.val.ready.Nodup) :
    (armCall now due basis i w).val.waiting.Nodup ∧ (armCall now due basis i w).val.timetable.Nodup ∧
      (armCall now due basis i w).val.ready.Nodup := by
  obtain ⟨h1, h2, h3⟩ := hn
  by_cases h : now < due ∨ w.val.fireSeen = .evacuate
  · rw [armCall_timed h]
    exact ⟨h1, insertBy_nodup hi h2, h3⟩
  · obtain ⟨h4, h5⟩ := not_or.mp h
    rw [armCall_late (Nat.not_lt.mp h4) h5]
    split
    · rw [finishCall_others]
      exact ⟨h1.sublist List.erase_sublist, h2.sublist List.erase_sublist, h3.sublist List.erase_sublist⟩
    · exact ⟨h1, h2, insertBy_nodup hr h3⟩

/-! ## The calls of one anchor armed one after another (R136, R137) -/

/-- One call taken out of its collection and armed from its anchor. -/
def rearm (e : CallEnv) (w : Act Calls) (i : CallId) : Act Calls := armFromAnchor e i (w.map (Calls.leave i))

theorem rearm_eq {e : CallEnv} {w : Act Calls} {i : CallId} {due : Nat} (h : e.anchorDue w.val.table[i] = some due) :
    rearm e w i = armCall e.now due .anchor i (w.map (Calls.leave i)) := by
  unfold rearm armFromAnchor
  rw [show (w.map (Calls.leave i)).val.table[i] = w.val.table[i] from rfl, h]

theorem leave_nodup {c : Calls} (i : CallId) (h : c.waiting.Nodup ∧ c.timetable.Nodup ∧ c.ready.Nodup) :
    ((c.leave i).waiting.Nodup ∧ (c.leave i).timetable.Nodup ∧ (c.leave i).ready.Nodup) ∧
      i ∉ (c.leave i).waiting ∧ i ∉ (c.leave i).timetable ∧ i ∉ (c.leave i).ready := by
  obtain ⟨h1, h2, h3⟩ := h
  exact ⟨⟨h1.erase i, h2.erase i, h3.erase i⟩, h1.not_mem_erase, h2.not_mem_erase, h3.not_mem_erase⟩

/-- What arming some calls again does to all of them, while each has its due time. -/
theorem foldl_rearm (e : CallEnv) (is : List CallId) (w : Act Calls)
    (hd : ∀ i ∈ is, (e.anchorDue w.val.table[i]).isSome = true) (hi : is.Nodup)
    (hf : ∀ i ∈ is, .general i ∉ w.val.finished)
    (hn : w.val.waiting.Nodup ∧ w.val.timetable.Nodup ∧ w.val.ready.Nodup) :
    let u := is.foldl (rearm e) w
    w.val.Spares (· ∈ is) u.val ∧ w.val.SameStage u.val ∧ (u.val.waiting.Nodup ∧ u.val.timetable.Nodup ∧ u.val.ready.Nodup) ∧
      ∀ x ∈ is, ∀ due, e.anchorDue w.val.table[x] = some due → u.val.armed e.now due .anchor w.val.table[x] x := by
  induction is generalizing w with
  | nil => exact ⟨.refl _ _, .refl _, hn, fun x hx => by cases hx⟩
  | cons i is ih =>
    obtain ⟨due, hdue⟩ := Option.isSome_iff_exists.mp (hd i List.mem_cons_self)
    obtain ⟨hii, hi'⟩ := List.nodup_cons.mp hi
    have he := rearm_eq hdue
    obtain ⟨ln, lw, lt, lr⟩ := leave_nodup i hn
    obtain ⟨a1, a2⟩ := spares_armCall e.now due .anchor i (w.map (Calls.leave i))
    have a3 := armCall_arms (now := e.now) (due := due) (basis := .anchor) (w := w.map (Calls.leave i)) lw lt lr
      (hf i List.mem_cons_self)
    have a4 := armCall_nodup (now := e.now) (due := due) (basis := .anchor) (w := w.map (Calls.leave i)) lt lr ln
    rw [← he] at a1 a2 a3 a4
    have s1 : w.val.Spares (· = i) (rearm e w i).val := (spares_leave i w.val).trans a1
    have same (x : CallId) (hx : x ∈ is) : (rearm e w i).val.table[x] = w.val.table[x] :=
      s1.table_eq (fun h => hii (h ▸ hx)) (hf x (.tail _ hx))
    obtain ⟨k1, k2, k3, k4⟩ := ih (rearm e w i) (fun x hx => by rw [same x hx]; exact hd x (.tail _ hx)) hi'
      (fun x hx h => hf x (.tail _ hx) (s1.finished x (fun h => hii (h ▸ hx)) h)) a4
    have a2' : w.val.SameStage (rearm e w i).val := a2
    refine ⟨(s1.mono fun x hx => hx ▸ List.mem_cons_self).trans (k1.mono fun x hx => .tail _ hx), a2'.trans k2, k3, ?_⟩
    intro x hx due' hdue'
    rcases List.mem_cons.mp hx with rfl | hx
    · obtain rfl : due = due' := Option.some.inj (hdue.symm.trans hdue')
      exact a3.spared k1 k2.1 hii
    · have := k4 x hx due' (by rw [same x hx]; exact hdue')
      rwa [same x hx] at this

/-! ## The calls of a cleared anchor wait again (R138) -/

/-- The descriptor of a call that waits for its anchor again. -/
def Descriptor.awaiting (d : Descriptor) : Descriptor := { d with life := .waiting, due := none, basis := none }

/-- One call of a cleared anchor. -/
def await (w : Act Calls) (i : CallId) : Act Calls := w.map fun c => enterWaiting i (c.leave i)

theorem spares_foldl_await (is : List CallId) (w : Act Calls) : w.val.Spares (· ∈ is) (is.foldl await w).val := by
  induction is generalizing w with
  | nil => exact .refl _ _
  | cons i is ih =>
    have h1 : w.val.Spares (· = i) (await w i).val := (spares_leave i w.val).trans (spares_enterWaiting i _)
    exact (h1.mono fun x hx => hx ▸ List.mem_cons_self).trans ((ih _).mono fun x hx => .tail _ hx)

/-- A call waits for its anchor. -/
def Calls.awaits (x : CallId) (d : Descriptor) (c : Calls) : Prop := x ∈ c.waiting ∧ c.stands x d.awaiting

theorem Calls.awaits.spared {x : CallId} {d : Descriptor} {c c' : Calls} (h : c.awaits x d) {J : CallId → Prop}
    (k : c.Spares J c') (hx : ¬ J x) : c'.awaits x d := ⟨(k.waiting x hx).mpr h.1, h.2.spared k hx⟩

theorem await_awaits {w : Act Calls} {x : CallId} {d : Descriptor}
    (h : w.val.stands x d ∨ w.val.stands x d.awaiting) : (await w x).val.awaits x d := by
  obtain ⟨h1, h2, h3⟩ : w.val.table[x].awaiting = d.awaiting ∧ x ∉ w.val.ready ∧ .general x ∉ w.val.finished := by
    rcases h with ⟨h1, h2⟩ | ⟨h1, h2⟩
    · exact ⟨by rw [h1], h2⟩
    · exact ⟨by rw [h1]; rfl, h2⟩
  exact ⟨(mem_insertBy _ _ _ _).mpr (.inl rfl), (Calls.setDesc_table_self x _ _).trans h1,
    fun h => h2 (List.mem_of_mem_erase h), h3⟩

theorem foldl_await_awaits {is : List CallId} {w : Act Calls} {x : CallId} {d : Descriptor} (hx : x ∈ is)
    (h : w.val.stands x d ∨ w.val.stands x d.awaiting) : (is.foldl await w).val.awaits x d := by
  obtain ⟨l, r, rfl⟩ := List.append_of_mem hx
  have keep {is : List CallId} {w : Act Calls} (h : w.val.awaits x d) : (is.foldl await w).val.awaits x d := by
    induction is generalizing w with
    | nil => exact h
    | cons i is ih =>
      refine ih ?_
      by_cases hi : i = x
      · rw [hi]; exact await_awaits (.inr h.2)
      · exact h.spared ((spares_leave i w.val).trans (spares_enterWaiting i _)) (Ne.symm hi)
  have reach {is : List CallId} {w : Act Calls} (h : w.val.stands x d ∨ w.val.stands x d.awaiting) :
      (is.foldl await w).val.stands x d ∨ (is.foldl await w).val.stands x d.awaiting := by
    induction is generalizing w with
    | nil => exact h
    | cons i is ih =>
      refine ih ?_
      by_cases hi : i = x
      · rw [hi]; exact .inr (await_awaits h).2
      · have hs : w.val.Spares (· = i) (await w i).val := (spares_leave i w.val).trans (spares_enterWaiting i _)
        exact h.imp (fun h => h.spared hs (Ne.symm hi)) (fun h => h.spared hs (Ne.symm hi))
  rw [List.foldl_append, List.foldl_cons]
  exact keep (await_awaits (reach h))

/-! ## The walk leaves what it cannot start or silence (R157, R158) -/

theorem listsShrink_silence (now : Nat) (i : CallId) (w : Act Calls) : w.val.ListsShrink (silence now i w).val :=
  listsShrink_finishCall now i _ (w.map (Calls.setDesc i _))

theorem listsShrink_walkOne (now : Nat) (a : Act Calls × ZoneSet) (i : CallId) :
    a.1.val.ListsShrink (walkOne now a i).1.val := by
  unfold walkOne
  dsimp only
  split
  · exact listsShrink_silence now i a.1
  · split
    · next ch _ =>
      split
      · cases ch <;> exact ⟨.refl _, .refl _, List.erase_sublist⟩
      · exact .refl _
    · exact .refl _

theorem listsShrink_walk (now : Nat) (w : Act Calls) : w.val.ListsShrink (walk now w).val := by
  have fold (is : List CallId) (a : Act Calls × ZoneSet) :
      a.1.val.ListsShrink (is.foldl (walkOne now) a).1.val := by
    induction is generalizing a with
    | nil => exact .refl _
    | cons i is ih => exact (listsShrink_walkOne now a i).trans (ih _)
  unfold walk
  split
  · exact .refl _
  · exact fold w.val.ready (w, 0)

theorem walkOnChange_cases (now : Nat) (before : Calls) (w : Act Calls) :
    walkOnChange now before w = w ∨ walkOnChange now before w = walk now w := by
  unfold walkOnChange
  split
  · exact .inl rfl
  · exact .inr rfl

theorem spares_walkOnChange (now : Nat) (before : Calls) (w : Act Calls) :
    w.val.Spares (· ∈ w.val.ready) (walkOnChange now before w).val ∧
      w.val.ListsShrink (walkOnChange now before w).val := by
  rcases walkOnChange_cases now before w with h | h <;> rw [h]
  · exact ⟨.refl _ _, .refl _⟩
  · exact ⟨spares_walk now w, listsShrink_walk now w⟩

theorem usableChannel_busy {c : Calls} (ha : c.chanA.state ≠ .idle) (hb : c.chanB.state ≠ .idle) :
    c.usableChannel = none := by
  have ua : c.chanA.usable = false := by simp [ChannelRecord.usable, ha]
  have ub : c.chanB.usable = false := by simp [ChannelRecord.usable, hb]
  unfold Calls.usableChannel
  rw [ua, ub]
  simp

/-- With both channels busy a walk silences calls and starts none, and keeps a call that could play somewhere. -/
theorem walk_keepsQueued {now : Nat} {w : Act Calls} {x : CallId} {d : Descriptor} (ha : w.val.chanA.state ≠ .idle)
    (hb : w.val.chanB.state ≠ .idle) (hz : w.val.audible d.zones) (h : w.val.queued x d) :
    (walk now w).val.queued x d := by
  have one (a : Act Calls × ZoneSet) (i : CallId) (hs : w.val.SameStage a.1.val) (hq : a.1.val.queued x d) :
      w.val.SameStage (walkOne now a i).1.val ∧ (walkOne now a i).1.val.queued x d := by
    have hu : a.1.val.usableChannel = none := by
      obtain ⟨-, -, -, h1, h2, -⟩ := hs
      exact usableChannel_busy (by rw [h1]; exact ha) (by rw [h2]; exact hb)
    unfold walkOne
    dsimp only
    rw [hu]
    split
    · next hl =>
      have hi : i ≠ x := by
        rintro rfl
        have hp : a.1.val.audible d.zones := by
          unfold Calls.audible
          rw [hs.2.2.1]
          exact hz
        exact (Calls.audible_iff _ _).mp hp (by rw [← hq.1]; exact hl)
      exact ⟨hs.trans (sameStage_finishCall now i _ (a.1.map (Calls.setDesc i _))), hq.spared (spares_silence now i a.1) (Ne.symm hi)⟩
    · exact ⟨hs, hq⟩
  have fold (is : List CallId) (a : Act Calls × ZoneSet) (hs : w.val.SameStage a.1.val) (hq : a.1.val.queued x d) :
      (is.foldl (walkOne now) a).1.val.queued x d := by
    induction is generalizing a with
    | nil => exact hq
    | cons i is ih => exact ih _ (one a i hs hq).1 (one a i hs hq).2
  unfold walk
  split
  · exact h
  · exact fold w.val.ready (w, 0) (.refl _) h

end Sys2Proof.Machine
end

section
/-! PLANNED_UP written and delayed (R18, R19), and what its events and those of the interval anchors make of the calls
(R136 to R138). -/
namespace Sys2Proof.Machine

/-! ## The events of one anchor -/

theorem anchorEvent_self (x : Option Nat) : anchorEvent x x = none := by
  cases x <;> simp [anchorEvent]

/-- A change of PLANNED_UP alone hands its event alone (R3). -/
theorem anchorEvents_plannedUp (old : Anchors) (v : Nat) :
    anchorEvents old { old with plannedUp := some v } =
      ((anchorEvent old.plannedUp (some v)).map (Anchor.plannedUp, ·)).toList := by
  have h (a : Anchor) (ha : a ≠ .plannedUp) :
      anchorEvent (old.get a) (({ old with plannedUp := some v } : Anchors).get a) = none := by
    cases a
    · exact absurd rfl ha
    all_goals exact anchorEvent_self _
  unfold anchorEvents Anchor.all
  rw [List.filterMap_cons]
  have ht : List.filterMap (fun a => (anchorEvent (old.get a) (({ old with plannedUp := some v } : Anchors).get a)).map (a, ·))
      [.houseOpen, .actStart, .intervalStart, .intervalEnd, .curtainDown] = [] := by
    rw [List.filterMap_eq_nil_iff]
    intro a ha
    rw [h a (by rintro rfl; simp at ha)]
    rfl
  rw [ht]
  cases hk : anchorEvent old.plannedUp (some v) with
  | none => simp [Anchors.get, hk]
  | some ev => simp [Anchors.get, hk]

/-- SET and MOVED arm the calls that they concern, one after another (R136, R137). -/
theorem onAnchorEvent_arms (e : CallEnv) (a : Anchor) (w : Act Calls) :
    onAnchorEvent e a .set w = (w.val.waiting.filter fun i => w.val.table[i].anchor = some a).foldl (rearm e) w ∧
      onAnchorEvent e a .moved w = (w.val.timedOn a).foldl (rearm e) w := ⟨rfl, rfl⟩

/-- The due time that R135 gives a call from PLANNED_UP. -/
def dueFromPlannedUp (v : Nat) (d : Descriptor) : Nat := min (Int.toNat ((v : Int) + d.offset)) 4294967295

theorem anchorDue_plannedUp {e : CallEnv} {d : Descriptor} {v : Nat} (hv : e.anchors.plannedUp = some v)
    (hd : d.anchor = some .plannedUp) : e.anchorDue d = some (dueFromPlannedUp v d) := by
  unfold CallEnv.anchorDue
  rw [hd, Option.bind_some]
  show e.anchors.plannedUp.map _ = _
  rw [hv]
  rfl

/-- Arming as seen from outside: what the walk that follows leaves of it. -/
theorem armed_after_walk {s t : State} {x : CallId} {due : Nat} {u : Act Calls}
    (h : u.val.armed s.clock due .anchor s.calls.table[x] x) (hst : s.calls.SameStage u.val) {before : Calls}
    (ht : t.calls = (walkOnChange s.clock before u).val) : Armed s t x due := by
  obtain ⟨hfs, -, hpg, hca, hcb, -⟩ := hst
  obtain ⟨w1, w2, w3, w4⟩ := spares_walkOnChange s.clock before u
  obtain ⟨h1, h2⟩ := h
  rw [hfs] at h1 h2
  unfold Armed
  rw [ht]
  refine ⟨fun hc => ?_, fun hd he => ⟨fun hl ho => ?_, fun hl => ?_⟩⟩
  · obtain ⟨k1, k2⟩ := h1 hc
    exact ⟨(w1.timetable x k2.2.1).mpr k1, (k2.spared w1 k2.2.1).1⟩
  · obtain ⟨k1, k2⟩ := (h2 hd he).1 hl ho
    exact (w1.ended x _ _ _ k2 k1).finishedAs
  · have hq := (h2 hd he).2 hl
    have ⟨_, _, q3, q4, _⟩ := hq
    refine ⟨fun hm => q4 (w3.subset hm), fun hm => q3 (w2.subset hm), fun ha hb hz => ?_⟩
    have hk : (walkOnChange s.clock before u).val.queued x (s.calls.table[x].readyAt s.clock) := by
      rcases walkOnChange_cases s.clock before u with k | k <;> rw [k]
      · exact hq
      · refine walk_keepsQueued (by rw [hca]; exact ha) (by rw [hcb]; exact hb) ?_ hq
        unfold Calls.audible
        rw [hpg]
        exact hz
    obtain ⟨q1, q2, -⟩ := hk
    exact ⟨q2, by rw [q1]; rfl⟩

/-- PLANNED_UP set or moved: the calls of the event are armed, the other calls that wait or are timed stay. -/
theorem plannedUp_moves {s t : State} {v : Nat} {e : CallEnv} {is : List CallId} (hl : s.calls.lawful)
    (hnow : e.now = s.clock) (hv : e.anchors.plannedUp = some v) (hnd : is.Nodup)
    (hm : ∀ i ∈ is, (i ∈ s.calls.waiting ∨ i ∈ s.calls.timetable) ∧ s.calls.table[i].anchor = some .plannedUp)
    (ht : t.calls = (walkOnChange s.clock s.calls (is.foldl (rearm e) ⟨s.calls, []⟩)).val) {x : CallId} (hx : 2 ≤ x.val) :
    (x ∈ is → Armed s t x (dueFromPlannedUp v s.calls.table[x])) ∧
      (x ∉ is → s.calls.table[x].life = .waiting ∨ s.calls.table[x].life = .timed →
        t.calls.table[x] = s.calls.table[x]) := by
  have general {i : CallId} (h : i ∈ s.calls.waiting ∨ i ∈ s.calls.timetable) : 2 ≤ i.val := by
    by_contra hi
    obtain ⟨h1, h2, -⟩ := hl.builtIn_nowhere (x := i) (by omega)
    exact h.elim h1 h2
  have still {i : CallId} (hi : 2 ≤ i.val) (h : s.calls.table[i].life = .waiting ∨ s.calls.table[i].life = .timed) :
      s.calls.stands i s.calls.table[i] := by
    refine ⟨rfl, fun hr => ?_, fun hf => ?_⟩
    · rw [(hl.mem_ready hi).mp hr] at h; exact absurd h (by decide)
    · rw [(hl.mem_finished hi).mp hf] at h; exact absurd h (by decide)
  have stands {i : CallId} (h : i ∈ s.calls.waiting ∨ i ∈ s.calls.timetable) : s.calls.stands i s.calls.table[i] :=
    still (general h) (h.imp (hl.mem_waiting (general h)).mp (hl.mem_timetable (general h)).mp)
  have due (i : CallId) (hi : i ∈ is) :
      e.anchorDue s.calls.table[i] = some (dueFromPlannedUp v s.calls.table[i]) := anchorDue_plannedUp hv (hm i hi).2
  obtain ⟨k1, k2, -, k4⟩ := foldl_rearm e is ⟨s.calls, []⟩ (fun i hi => by rw [due i hi]; rfl) hnd
    (fun i hi => (stands (hm i hi).1).2.2) hl.nodup
  rw [hnow] at k4
  refine ⟨fun hi => armed_after_walk (k4 x hi _ (due x hi)) k2 ht, fun hi hw => ?_⟩
  have hs : (is.foldl (rearm e) ⟨s.calls, []⟩).val.stands x s.calls.table[x] := (still hx hw).spared k1 hi
  rw [ht]
  exact (hs.spared (spares_walkOnChange s.clock s.calls _).1 hs.2.1).1

/-- The calls after PLANNED_UP has been written: its event, where there is one, and the walk (R3). -/
theorem planned_calls (s : State) (v : Nat) :
    (changeHouse .cleared (s.house.planned v) s).calls =
      match anchorEvent s.house.anchors.plannedUp (some v) with
      | none => s.calls
      | some ev => (walkOnChange s.clock s.calls (onAnchorEvent ({ s with house := s.house.planned v } : State).callEnv
          .plannedUp ev ⟨s.calls, []⟩)).val := by
  have hz : ReachesNoZone s.house { s with house := s.house.planned v } := .inr (.inl rfl)
  obtain ⟨-, -, -, -, h5⟩ := changeHouse_others (cause := .cleared) hz
  have hev : anchorEvents s.house.anchors (s.house.planned v).anchors =
      ((anchorEvent s.house.anchors.plannedUp (some v)).map (Anchor.plannedUp, ·)).toList :=
    anchorEvents_plannedUp s.house.anchors v
  rw [h5, (handRecord_samePhase (old := s.house) (s := { s with house := s.house.planned v }) rfl rfl).2, hev]
  cases anchorEvent s.house.anchors.plannedUp (some v) <;> rfl

/-- The calls that an event of PLANNED_UP concerns (R136, R137). -/
def Calls.concerned (set : Bool) (x : CallId) (c : Calls) : Prop :=
  c.table[x].anchor = some .plannedUp ∧
    if set then c.table[x].life = .waiting else c.table[x].life = .timed ∧ c.table[x].basis = some .anchor

/-- PLANNED_UP set: the calls that wait for it are armed (R136). -/
theorem planned_set {s t : State} {v : Nat} (hl : s.calls.lawful) (hp : s.house.anchors.plannedUp = none)
    (ht : t.calls = (changeHouse .cleared (s.house.planned v) s).calls) {x : CallId} (hx : 2 ≤ x.val) :
    (s.calls.concerned true x → Armed s t x (dueFromPlannedUp v s.calls.table[x])) ∧
      (¬ s.calls.concerned true x → s.calls.table[x].life = .waiting ∨ s.calls.table[x].life = .timed →
        t.calls.table[x] = s.calls.table[x]) := by
  rw [planned_calls, hp] at ht
  have hc : t.calls = (walkOnChange s.clock s.calls
      ((s.calls.waiting.filter fun i => s.calls.table[i].anchor = some .plannedUp).foldl
        (rearm ({ s with house := s.house.planned v } : State).callEnv) ⟨s.calls, []⟩)).val := ht
  have hmem : x ∈ s.calls.waiting.filter (fun i => s.calls.table[i].anchor = some .plannedUp) ↔
      s.calls.concerned true x := by
    rw [List.mem_filter, hl.mem_waiting hx, decide_eq_true_iff, and_comm]
    rfl
  rw [← hmem]
  refine plannedUp_moves hl rfl rfl (hl.nodup.1.filter _) (fun i hi => ?_) hc hx
  obtain ⟨h1, h2⟩ := List.mem_filter.mp hi
  exact ⟨.inl h1, of_decide_eq_true h2⟩

/-- PLANNED_UP moved: the calls timed from it are armed again (R137). -/
theorem planned_moved {s t : State} {v old : Nat} (hl : s.calls.lawful) (hp : s.house.anchors.plannedUp = some old)
    (hne : old ≠ v) (ht : t.calls = (changeHouse .cleared (s.house.planned v) s).calls) {x : CallId} (hx : 2 ≤ x.val) :
    (s.calls.concerned false x → Armed s t x (dueFromPlannedUp v s.calls.table[x])) ∧
      (¬ s.calls.concerned false x → s.calls.table[x].life = .waiting ∨ s.calls.table[x].life = .timed →
        t.calls.table[x] = s.calls.table[x]) := by
  rw [planned_calls, hp, show anchorEvent (some old) (some v) = some .moved from if_neg hne] at ht
  have hc : t.calls = (walkOnChange s.clock s.calls ((s.calls.timedOn .plannedUp).foldl
      (rearm ({ s with house := s.house.planned v } : State).callEnv) ⟨s.calls, []⟩)).val := ht
  have hmem : x ∈ s.calls.timedOn .plannedUp ↔ s.calls.concerned false x := by
    unfold Calls.timedOn
    rw [List.mem_filter, hl.mem_timetable hx, decide_eq_true_iff]
    exact and_left_comm
  rw [← hmem]
  refine plannedUp_moves hl rfl rfl (hl.nodup.2.1.filter _) (fun i hi => ?_) hc hx
  obtain ⟨h1, h2⟩ := List.mem_filter.mp hi
  exact ⟨.inr h1, (of_decide_eq_true h2).1⟩

theorem planned_hands (s : State) (v : Nat) {t : State}
    (ht : t.calls = (changeHouse .cleared (s.house.planned v) s).calls) : PlannedUpHanded v s t := by
  refine ⟨fun he => ?_, fun hl hne x hx => ?_⟩
  · rw [ht, planned_calls, he, anchorEvent_self]
  · have hcond (set : Bool) (h : (s.house.anchors.plannedUp = none) ↔ set = true) :
        s.calls.concerned set x ↔ s.calls.table[x].anchor = some .plannedUp ∧
          (s.house.anchors.plannedUp = none ∧ s.calls.table[x].life = .waiting ∨
            s.house.anchors.plannedUp ≠ none ∧ s.calls.table[x].life = .timed ∧
              s.calls.table[x].basis = some .anchor) := by
      unfold Calls.concerned
      rw [ne_eq, h]
      cases set
      · simp only [Bool.false_eq_true, if_false, false_and, not_false_iff, true_and, false_or]
      · simp only [if_true, true_and, not_true, false_and, or_false]
    have cases {p : Prop} [Decidable p] {A B : Prop} (h1 : p → A) (h2 : ¬ p → B) : if p then A else B := by
      split
      · next h => exact h1 h
      · next h => exact h2 h
    cases hp : s.house.anchors.plannedUp with
    | none =>
      obtain ⟨k1, k2⟩ := planned_set hl hp ht hx
      rw [hcond true (by simp [hp])] at k1 k2
      rw [hp] at k1 k2
      exact cases k1 k2
    | some old =>
      obtain ⟨k1, k2⟩ := planned_moved hl hp (fun e => hne (by rw [hp, e])) ht hx
      rw [hcond false (by simp [hp])] at k1 k2
      rw [hp] at k1 k2
      exact cases k1 k2

/-- A taken request that writes PLANNED_UP. -/
theorem takeRequest_planned {p : Port} {i : Instr} {block : State → State × Answer} {s : State} {a : Answer} {v : Nat}
    (ht : takeable p (requestFrame i) s = true) (hk : kindKnown (requestFrame i).kind = true)
    (hp : permitted p (requestFrame i).kind = true) (hs : shapeOk i = true)
    (hb : block s = (changeHouse .cleared (s.house.planned v) s, a)) :
    ∃ t, takeRequest p i block s = .next t ∧ AnsweredWith p (requestFrame i).kind a s t ∧
      t.house = s.house.planned v ∧ t.fire = s.fire ∧ t.curtain = s.curtain ∧ t.lights = s.lights ∧ KeepsBase s t ∧
      PlannedUpHanded v s t := by
  have hz : ReachesNoZone s.house { s with house := s.house.planned v } := .inr (.inl rfl)
  obtain ⟨t, hx, ha, hu, -⟩ := takeRequest_changeHouse ht hk hp hs hb
  obtain ⟨h1, h2, h3, h4, -⟩ := changeHouse_others (cause := .cleared) hz
  refine ⟨t, hx, ha, by rw [hu]; exact h1, by rw [hu]; exact h2, by rw [hu]; exact h3, ?_,
    by rw [hu]; exact (quietly_changeHouse .cleared _ s).1, planned_hands s v (by rw [hu])⟩
  rw [hu]
  exact h4.trans (handRecord_samePhase (old := s.house) (s := { s with house := s.house.planned v }) rfl rfl).1

/-! ## The interval anchors cleared by GO ACT (R11, R138) -/

/-- A call timed from an anchor, or put back to waiting by that anchor's clearing. -/
def Calls.timedOrAwaiting (x : CallId) (d : Descriptor) (c : Calls) : Prop :=
  (x ∈ c.timetable ∧ c.stands x d) ∨ c.awaits x d

theorem onAnchorEvent_cleared (e : CallEnv) (a : Anchor) (w : Act Calls) :
    onAnchorEvent e a .cleared w = (w.val.timedOn a).foldl await w := rfl

/-- The calls that an anchor event touches stand on the anchor. -/
theorem spares_onAnchorEvent (e : CallEnv) (a : Anchor) (ev : AnchorEvent) (w : Act Calls) :
    w.val.Spares (fun x => w.val.table[x].anchor = some a ∧ (ev = .cleared → w.val.table[x].basis = some .anchor))
      (onAnchorEvent e a ev w).val := by
  have arms (is : List CallId) (w : Act Calls) : w.val.Spares (· ∈ is) (is.foldl (rearm e) w).val := by
    induction is generalizing w with
    | nil => exact .refl _ _
    | cons i is ih =>
      have h1 : w.val.Spares (· = i) (rearm e w i).val := by
        refine (spares_leave i w.val).trans ?_
        unfold rearm armFromAnchor
        split
        · exact (spares_armCall _ _ _ i (w.map (Calls.leave i))).1
        · exact spares_enterWaiting i (w.val.leave i)
      exact (h1.mono fun x hx => hx ▸ List.mem_cons_self).trans ((ih _).mono fun x hx => .tail _ hx)
  cases ev with
  | set =>
    rw [(onAnchorEvent_arms e a w).1]
    exact (arms _ w).mono fun x hx => ⟨of_decide_eq_true (List.mem_filter.mp hx).2, fun h => by cases h⟩
  | moved =>
    rw [(onAnchorEvent_arms e a w).2]
    exact (arms _ w).mono fun x hx => ⟨(of_decide_eq_true (List.mem_filter.mp hx).2).1, fun h => by cases h⟩
  | cleared =>
    rw [onAnchorEvent_cleared]
    exact (spares_foldl_await _ w).mono fun x hx =>
      have h := of_decide_eq_true (List.mem_filter.mp hx).2
      ⟨h.1, fun _ => h.2⟩

/-- One anchor event, for a call timed from anchor `a`: another anchor's leaves it, the clearing of its own puts it back
to waiting. -/
theorem anchorEventAct_follows {e : CallEnv} {a b : Anchor} {ev : AnchorEvent} {w : Act Calls} {x : CallId}
    {d : Descriptor} (hd : d.anchor = some a) (hb : d.basis = some .anchor) (hev : b = a → ev = .cleared)
    (h : w.val.timedOrAwaiting x d) :
    (anchorEventAct b ev e w).val.timedOrAwaiting x d ∧
      (b = a ∨ w.val.awaits x d → (anchorEventAct b ev e w).val.awaits x d) := by
  have event : (onAnchorEvent e b ev w).val.timedOrAwaiting x d ∧
      (b = a ∨ w.val.awaits x d → (onAnchorEvent e b ev w).val.awaits x d) := by
    have hs := spares_onAnchorEvent e b ev w
    rcases h with ⟨h1, h2⟩ | h
    · by_cases hab : b = a
      · obtain rfl := hev hab
        subst hab
        rw [onAnchorEvent_cleared]
        have hm : x ∈ w.val.timedOn b :=
          List.mem_filter.mpr ⟨h1, decide_eq_true (by rw [h2.1]; exact ⟨hd, hb⟩)⟩
        have := foldl_await_awaits hm (.inl h2)
        exact ⟨.inr this, fun _ => this⟩
      · have hn : ¬ (w.val.table[x].anchor = some b ∧ (ev = .cleared → w.val.table[x].basis = some .anchor)) := by
          rw [h2.1, hd]
          exact fun hc => hab (Option.some.inj hc.1).symm
        refine ⟨.inl ⟨(hs.timetable x hn).mpr h1, h2.spared hs hn⟩, fun hc => ?_⟩
        exact (hc.resolve_left hab).spared hs hn
    · have hn : ¬ (w.val.table[x].anchor = some b ∧ (ev = .cleared → w.val.table[x].basis = some .anchor)) := by
        rw [h.2.1]
        rintro ⟨h1, h2⟩
        have hba : b = a := Option.some.inj (h1.symm.trans hd)
        exact absurd (h2 (hev hba)) (by simp [Descriptor.awaiting])
      exact ⟨.inr (h.spared hs hn), fun _ => h.spared hs hn⟩
  obtain ⟨k1, k2⟩ := event
  unfold anchorEventAct
  have hw := (spares_walkOnChange e.now w.val (onAnchorEvent e b ev w)).1
  refine ⟨k1.imp (fun ⟨h1, h2⟩ => ⟨(hw.timetable x h2.2.1).mpr h1, h2.spared hw h2.2.1⟩)
    (fun h => h.spared hw h.2.2.1), fun hc => ?_⟩
  have := k2 hc
  exact this.spared hw this.2.2.1

/-- The events of a change, for a call timed from an anchor that the change clears. -/
theorem handAnchors_awaits {a : Anchor} {x : CallId} {d : Descriptor} (hd : d.anchor = some a)
    (hb : d.basis = some .anchor) {evs : List (Anchor × AnchorEvent)} (hev : ∀ ev, (a, ev) ∈ evs → ev = .cleared)
    {s : State} (h : s.calls.timedOrAwaiting x d) :
    (handAnchors evs s).calls.timedOrAwaiting x d ∧
      ((∃ ev, (a, ev) ∈ evs) ∨ s.calls.awaits x d → (handAnchors evs s).calls.awaits x d) := by
  unfold handAnchors
  induction evs generalizing s with
  | nil => exact ⟨h, fun hc => hc.resolve_left fun ⟨ev, he⟩ => by cases he⟩
  | cons y ys ih =>
    obtain ⟨b, ev⟩ := y
    obtain ⟨k1, k2⟩ := anchorEventAct_follows (e := s.callEnv) (b := b) (ev := ev) (w := ⟨s.calls, []⟩) hd hb
      (fun hba => hev ev (hba ▸ List.mem_cons_self)) h
    obtain ⟨i1, i2⟩ := ih (fun ev' he => hev ev' (.tail _ he)) (s := s.onCalls (anchorEventAct b ev)) k1
    refine ⟨i1, fun hc => i2 ?_⟩
    rcases hc with ⟨ev', he⟩ | hc
    · rcases List.mem_cons.mp he with he | he
      · exact .inr (k2 (.inl (Prod.mk.inj he).1.symm))
      · exact .inl ⟨ev', he⟩
    · exact .inr (k2 (.inr hc))

theorem mem_anchorEvents {old new : Anchors} {a : Anchor} {ev : AnchorEvent} :
    (a, ev) ∈ anchorEvents old new ↔ anchorEvent (old.get a) (new.get a) = some ev := by
  simp only [anchorEvents, List.mem_filterMap, Option.map_eq_some_iff, Prod.mk.injEq]
  constructor
  · rintro ⟨b, -, ev', h, rfl, rfl⟩; exact h
  · exact fun h => ⟨a, by cases a <;> decide, ev, h, rfl, rfl⟩

/-- The calls timed from the interval anchors wait again after GO ACT (R11, R138). -/
theorem goAct_awaits {s : State} {a : Anchor} {x : CallId} (hz : NoneDelayed s) (hp : s.house.phase = .interval)
    (hl : s.calls.lawful) (hx : 2 ≤ x.val) (ha : a = .intervalStart ∨ a = .intervalEnd)
    (hv : s.house.anchors.get a ≠ none) (ht : s.calls.table[x].life = .timed)
    (hb : s.calls.table[x].basis = some .anchor) (hd : s.calls.table[x].anchor = some a) :
    (changeHouse .consumed (s.house.actBegun s.clock) s).calls.awaits x s.calls.table[x] := by
  have hz' : ReachesNoZone s.house { s with house := s.house.actBegun s.clock } := .inl hz
  obtain ⟨-, -, -, -, h5⟩ := changeHouse_others (cause := .consumed) hz'
  have hn : ¬ (s.house.phase = (s.house.actBegun s.clock).phase ∧ s.house.stop = (s.house.actBegun s.clock).stop) := by
    simp [House.actBegun, hp]
  have he : anchorEvent (s.house.anchors.get a) ((s.house.actBegun s.clock).anchors.get a) = some .cleared := by
    obtain ⟨y, hy⟩ := Option.ne_none_iff_exists'.mp hv
    rw [hy]
    rcases ha with rfl | rfl <;> rfl
  have hs : s.calls.timedOrAwaiting x s.calls.table[x] := by
    refine .inl ⟨(hl.mem_timetable hx).mpr ht, rfl, fun hr => ?_, fun hf => ?_⟩
    · rw [(hl.mem_ready hx).mp hr] at ht; exact absurd ht (by decide)
    · rw [(hl.mem_finished hx).mp hf] at ht; exact absurd ht (by decide)
  have hk := (handAnchors_awaits (evs := anchorEvents s.house.anchors (s.house.actBegun s.clock).anchors)
    (s := { s with house := s.house.actBegun s.clock }) hd hb
    (fun ev hm => Option.some.inj ((mem_anchorEvents.mp hm).symm.trans he)) hs).2 (.inl ⟨_, mem_anchorEvents.mpr he⟩)
  rw [h5, (handRecord_newPhase (old := s.house) (s := { s with house := s.house.actBegun s.clock }) hn).2]
  exact hk

/-- Settles O16: PLANNED_UP as clamped and saturated, with its event at the calls; the interval anchors as cleared. -/
theorem plannedUpIsWritten : Obligations.PlannedUpIsWritten := by
  refine ⟨fun s n hp => ⟨?_, fun ht => ⟨?_, fun hn => ?_⟩⟩, fun s n h1 h2 h3 => ⟨fun ht => ?_, fun ht => ?_⟩,
    fun s ht hp hn hc hq hk hz => ?_⟩
  · rintro ht v rfl
    refine takeRequest_planned (i := .setPlannedUp .prompt n) (block := setPlannedUpBlock n.toNat) ht rfl rfl rfl
      ((inPhase_accepted (by rcases hp with hp | hp | hp <;> rw [hp] <;> rfl)).trans (Prod.ext rfl ?_))
    by_cases hn : n.toNat ≤ 14400
    · simp [doneOrClamped, plannedMax, satClock, clockMax, hn]
    · simp [doneOrClamped, plannedMax, satClock, clockMax, hn]
  · rintro old ho v rfl
    refine takeRequest_planned (i := .delayUp .prompt n) (block := delayUpBlock n.toNat) ht rfl rfl rfl
      ((inPhase_accepted (by rcases hp with hp | hp | hp <;> rw [hp] <;> rfl)).trans ?_)
    dsimp only
    rw [ho]
    refine Prod.ext rfl ?_
    by_cases hn : 1 ≤ n.toNat ∧ n.toNat ≤ 3600
    · simp [doneOrClamped, clampNat, delayMax, satClock, clockMax, hn]
    · have : max 1 (min 3600 n.toNat) ≠ n.toNat := by omega
      simp [doneOrClamped, clampNat, delayMax, satClock, clockMax, hn, this]
  · refine takeRequest_unchanged (i := .delayUp .prompt n) (block := delayUpBlock n.toNat) ht rfl rfl rfl
      ((inPhase_accepted (by rcases hp with hp | hp | hp <;> rw [hp] <;> rfl)).trans ?_)
    dsimp only
    rw [hn]
    rfl
  · exact takeRequest_unchanged (i := .setPlannedUp .prompt n) (block := setPlannedUpBlock n.toNat) ht rfl rfl rfl
      (inPhase_refused (by cases h : s.house.phase <;> simp_all [Phase.plannable]))
  · exact takeRequest_unchanged (i := .delayUp .prompt n) (block := delayUpBlock n.toNat) ht rfl rfl rfl
      (inPhase_refused (by cases h : s.house.phase <;> simp_all [Phase.plannable]))
  · obtain ⟨t, hx, -, -, -, -, hcalls, -⟩ := goAct_begins ht (.inr hp) hc hq hk hz (fun h => absurd h hn)
    refine ⟨t, hx, fun hl x a hx ha hv hlf hb hd => ?_⟩
    obtain ⟨k1, k2, -⟩ := goAct_awaits hz hp hl hx ha hv hlf hb hd
    rw [hcalls]
    exact ⟨k1, k2⟩

end Sys2Proof.Machine
end

section
/-! SUPPORT. The evacuation call on the change to EVACUATE (R156, R161 to R163): the staff alert ended, the general calls
on the channels pre-empted, both channels and every zone freed, and the search for a channel. -/
namespace Sys2Proof.Machine

/-! ## The staff alert ends (R161, R164) -/

theorem mem_joinBuiltIn_general (b : BuiltIn) (e : Completion) (x : CallId) (xs : List Finished) :
    .general x ∈ joinBuiltIn b e xs ↔ .general x ∈ xs := by
  induction xs with
  | nil => simp [joinBuiltIn]
  | cons y ys ih =>
    unfold joinBuiltIn
    cases y with
    | general i => simp [ih]
    | builtIn b' old => dsimp only; split <;> simp [ih]

theorem spares_finishBuiltIn (now : Nat) (b : BuiltIn) (o : CallOutcome) (w : Act Calls) :
    w.val.Spares (· = builtInCall b) (finishBuiltIn now b o w).val := by
  refine Calls.Spares.trans ?_ (spares_drain _ _ _ _)
  refine ((spares_setDesc _ _ w.val).trans (spares_setRun _ b .notRunning _)).trans
    ⟨fun _ _ => .inl rfl, ?_, fun x _ h => (mem_joinBuiltIn_general _ _ _ _).mp h, fun _ _ => .rfl, fun _ _ => .rfl,
      fun _ _ => .rfl⟩
  intro x k o' n _ h
  exact Calls.ended_congr h rfl (by cases k <;> rfl)

/-- A built-in call that finishes keeps channels and zones: its run ends, and the entry waits or is drained. -/
theorem finishBuiltIn_others (now : Nat) (b : BuiltIn) (o : CallOutcome) (w : Act Calls) :
    (finishBuiltIn now b o w).val = { w.val.setRun b .notRunning with
      table := (finishBuiltIn now b o w).val.table, pool := (finishBuiltIn now b o w).val.pool
      finished := (finishBuiltIn now b o w).val.finished
      promptQueue := (finishBuiltIn now b o w).val.promptQueue
      houseQueue := (finishBuiltIn now b o w).val.houseQueue } := by
  cases b <;> exact drain_others _ _ _

theorem finishBuiltIn_table {now : Nat} {b : BuiltIn} {o : CallOutcome} {w : Act Calls}
    (h : .general (builtInCall b) ∉ w.val.finished) :
    (finishBuiltIn now b o w).val.table[builtInCall b].life = .finished ∧
      (finishBuiltIn now b o w).val.table[builtInCall b].outcome = some o := by
  unfold finishBuiltIn
  dsimp only
  generalize hd : ({ w.val.table[builtInCall b] with
    life := .finished, entry := none, deadline := none, channel := none, outcome := some o
    finishTime := some now } : Descriptor) = d
  generalize hw : w.map _ = w'
  have ht : w'.val.table[builtInCall b] = d := by rw [← hw]; cases b <;> exact Calls.setDesc_table_self _ _ _
  have hf : .general (builtInCall b) ∉ w'.val.finished := by
    rw [← hw]; cases b <;> exact mt (mem_joinBuiltIn_general _ _ _ _).mp h
  rw [(drain_table false .house w' (builtInCall b)).resolve_right fun k => hf k.1, ht, ← hd]
  exact ⟨rfl, rfl⟩

theorem finishBuiltIn_finished (now : Nat) (b : BuiltIn) (o : CallOutcome) (w : Act Calls) (x : CallId)
    (h : .general x ∈ (finishBuiltIn now b o w).val.finished) : .general x ∈ w.val.finished := by
  have hm := (mem_joinBuiltIn_general _ _ _ _).mp (drain_finished _ _ _ _ h)
  cases b <;> exact hm

/-- The channel of a run that ends is stopped, or its reservation falls (R163). -/
def vacate (e : CallEnv) (r : RunPosition) (c : Calls) : Calls :=
  match r with
  | .notRunning | .waiting => c
  | .onChannel ch => stopChannel e ch c
  | .inGap ch _ => c.setChan ch { c.chan ch with reserved := none }

theorem endBuiltIn_eq {e : CallEnv} {b : BuiltIn} {o : CallOutcome} {w : Act Calls} (h : w.val.run b ≠ .notRunning) :
    endBuiltIn e b o w = (finishBuiltIn e.now b o w).map (vacate e (w.val.run b)) := by
  unfold endBuiltIn
  cases hr : w.val.run b with
  | notRunning => exact absurd hr h
  | waiting => rfl
  | onChannel ch => rfl
  | inGap ch n => rfl

theorem spares_vacate (J : CallId → Prop) (e : CallEnv) (r : RunPosition) (c : Calls) : c.Spares J (vacate e r c) := by
  cases r with
  | notRunning => exact .refl J c
  | waiting => exact .refl J c
  | onChannel ch => exact spares_stopChannel J e ch c
  | inGap ch n => exact spares_setChan J ch _ c

/-- Stopping a channel or freeing it touches neither the table nor the built-in runs. -/
theorem vacate_others (e : CallEnv) (r : RunPosition) (c : Calls) :
    vacate e r c = { c with
      chanA := (vacate e r c).chanA, chanB := (vacate e r c).chanB, paging := (vacate e r c).paging } := by
  cases r with
  | notRunning => rfl
  | waiting => rfl
  | onChannel ch => cases ch <;> rfl
  | inGap ch n => cases ch <;> rfl

theorem vacate_table (e : CallEnv) (r : RunPosition) (c : Calls) : (vacate e r c).table = c.table := by
  rw [vacate_others]

/-- A channel that the run was not on keeps all but its reservation. -/
theorem vacate_chan {e : CallEnv} {r : RunPosition} {c : Calls} {k : Channel} (h : r ≠ .onChannel k) :
    ∃ v, (vacate e r c).chan k = { c.chan k with reserved := v } := by
  cases r with
  | notRunning => exact ⟨_, rfl⟩
  | waiting => exact ⟨_, rfl⟩
  | onChannel ch => exact ⟨_, stopChannel_chan_of_ne e c fun hk => h (by rw [hk])⟩
  | inGap ch n =>
    by_cases hk : k = ch
    · subst hk; exact ⟨none, Calls.chan_setChan_self _ _ _⟩
    · exact ⟨_, Calls.chan_setChan_of_ne _ _ hk⟩

/-! ## What an evacuation keeps of the scene -/

/-- The fire condition as seen, the run of the staff alert and the evacuation flags of the paging zones, as they were. -/
def Calls.SameScene (c c' : Calls) : Prop :=
  c'.fireSeen = c.fireSeen ∧ c'.arbiterFire = c.arbiterFire ∧ c'.staffAlert = c.staffAlert ∧
    ∀ z : Fin 12, c'.paging[z].evac = c.paging[z].evac

theorem Calls.SameScene.refl (c : Calls) : c.SameScene c := ⟨rfl, rfl, rfl, fun _ => rfl⟩

theorem Calls.SameScene.trans {a b c : Calls} (h : a.SameScene b) (k : b.SameScene c) : a.SameScene c := by
  obtain ⟨h1, h2, h3, h4⟩ := h
  obtain ⟨k1, k2, k3, k4⟩ := k
  exact ⟨k1.trans h1, k2.trans h2, k3.trans h3, fun z => (k4 z).trans (h4 z)⟩

theorem Calls.SameStage.scene {c c' : Calls} (h : c.SameStage c') : c.SameScene c' := by
  obtain ⟨h1, h2, h3, -, -, -, h7⟩ := h
  exact ⟨h1, h2, h7, fun z => by rw [h3]⟩

theorem zonesWhere_ext {c c' : Calls} {f : PagingZone → Bool} (h : ∀ z : Fin 12, f c'.paging[z] = f c.paging[z]) :
    c'.zonesWhere f = c.zonesWhere f := by
  apply BitVec.eq_of_getLsbD_eq
  intro i hi
  rw [Calls.zonesWhere_bit c' f ⟨i, hi⟩, Calls.zonesWhere_bit c f ⟨i, hi⟩, h]

theorem evacZones_eq_zero_iff (c : Calls) : c.evacZones = 0 ↔ ∀ z : Fin 12, c.paging[z].evac = false := by
  rw [zoneSet_eq_zero_iff]
  exact forall_congr' fun z => by rw [Calls.evacZones, Calls.zonesWhere_bit]

/-- The number of evacuation zones, as the notice of R163 gives it. -/
theorem zoneCount_evacZones (c : Calls) :
    zoneCount c.evacZones = ((List.finRange 12).filter fun z => c.paging[z].evac).length := by
  have hr : List.range 12 = (List.finRange 12).map Fin.val := by decide
  rw [zoneCount, hr, List.filter_map, List.length_map]
  congr 2
  exact funext fun z => Calls.zonesWhere_bit c _ z

theorem release_zone (ch : Channel) (c : Calls) (z : Fin 12) :
    (c.release ch).paging[z] =
      if c.paging[z].conn = some ch then { c.paging[z] with conn := none } else c.paging[z] := vmap_get _ _ z

theorem sameScene_release (ch : Channel) (c : Calls) : c.SameScene (c.release ch) :=
  ⟨rfl, rfl, rfl, fun z => by rw [release_zone]; split <;> rfl⟩

theorem sameScene_setChan (ch : Channel) (r : ChannelRecord) (c : Calls) : c.SameScene (c.setChan ch r) := by
  cases ch <;> exact .refl c

theorem sameScene_stopChannel (e : CallEnv) (ch : Channel) (c : Calls) : c.SameScene (stopChannel e ch c) :=
  (sameScene_release ch c).trans (sameScene_setChan ch _ _)

theorem vacate_evac (e : CallEnv) (r : RunPosition) (c : Calls) (z : Fin 12) :
    (vacate e r c).paging[z].evac = c.paging[z].evac := by
  cases r with
  | notRunning => rfl
  | waiting => rfl
  | onChannel ch => exact (sameScene_stopChannel e ch c).2.2.2 z
  | inGap ch n => exact (sameScene_setChan ch _ c).2.2.2 z

/-! ## The staff alert pre-empted -/

/-- The staff alert as an evacuation ends it (R161): no run is left of it. -/
theorem endStaffAlert_scene (e : CallEnv) (o : CallOutcome) (w : Act Calls) :
    w.val.SameScene { (endBuiltIn e .staffAlert o w).val with staffAlert := w.val.staffAlert } ∧
      (endBuiltIn e .staffAlert o w).val.staffAlert = .notRunning := by
  by_cases h : w.val.run .staffAlert = .notRunning
  · have he : endBuiltIn e .staffAlert o w = w := by unfold endBuiltIn; rw [h]
    rw [he]
    exact ⟨.refl _, h⟩
  · rw [endBuiltIn_eq h]
    simp only [Act.map]
    have hz := vacate_evac e (w.val.run .staffAlert) (finishBuiltIn e.now .staffAlert o w).val
    rw [vacate_others, finishBuiltIn_others] at *
    exact ⟨⟨rfl, rfl, rfl, hz⟩, rfl⟩

theorem spares_endBuiltIn (e : CallEnv) (b : BuiltIn) (o : CallOutcome) (w : Act Calls) :
    w.val.Spares (· = builtInCall b) (endBuiltIn e b o w).val := by
  by_cases h : w.val.run b = .notRunning
  · have he : endBuiltIn e b o w = w := by unfold endBuiltIn; rw [h]
    rw [he]; exact .refl _ _
  · rw [endBuiltIn_eq h]
    exact (spares_finishBuiltIn e.now b o w).trans (spares_vacate _ e _ _)

theorem endBuiltIn_finished (e : CallEnv) (b : BuiltIn) (o : CallOutcome) (w : Act Calls) (x : CallId)
    (h : .general x ∈ (endBuiltIn e b o w).val.finished) : .general x ∈ w.val.finished := by
  by_cases hr : w.val.run b = .notRunning
  · have he : endBuiltIn e b o w = w := by unfold endBuiltIn; rw [hr]
    rwa [he] at h
  · rw [endBuiltIn_eq hr] at h
    refine finishBuiltIn_finished e.now b o w x ?_
    have hv : (vacate e (w.val.run b) (finishBuiltIn e.now b o w).val).finished =
        (finishBuiltIn e.now b o w).val.finished := by rw [vacate_others]
    exact hv ▸ h

theorem endBuiltIn_table {e : CallEnv} {b : BuiltIn} {o : CallOutcome} {w : Act Calls} (h : w.val.run b ≠ .notRunning)
    (hf : .general (builtInCall b) ∉ w.val.finished) :
    (endBuiltIn e b o w).val.table[builtInCall b].life = .finished ∧
      (endBuiltIn e b o w).val.table[builtInCall b].outcome = some o := by
  have ht : (endBuiltIn e b o w).val.table = (finishBuiltIn e.now b o w).val.table := by
    rw [endBuiltIn_eq h]; exact vacate_table _ _ _
  rw [ht]
  exact finishBuiltIn_table hf

/-- A channel that the built-in call was not on keeps all but its reservation. -/
theorem endBuiltIn_chan {e : CallEnv} {b : BuiltIn} {o : CallOutcome} {w : Act Calls} {k : Channel}
    (h : w.val.run b ≠ .onChannel k) : ∃ v, (endBuiltIn e b o w).val.chan k = { w.val.chan k with reserved := v } := by
  by_cases hr : w.val.run b = .notRunning
  · have he : endBuiltIn e b o w = w := by unfold endBuiltIn; rw [hr]
    rw [he]; exact ⟨_, rfl⟩
  · rw [endBuiltIn_eq hr]
    obtain ⟨v, hv⟩ := vacate_chan (e := e) (c := (finishBuiltIn e.now b o w).val) h
    have hc : (finishBuiltIn e.now b o w).val.chan k = w.val.chan k := by
      rw [finishBuiltIn_others]; cases b <;> cases k <;> rfl
    exact ⟨v, by rw [← hc]; exact hv⟩

/-! ## The channels cleared (R162) -/

theorem finishOnChannel_stage (e : CallEnv) (ch : Channel) (w : Act Calls) :
    w.val.SameStage (finishOnChannel e ch w).val := by
  unfold finishOnChannel
  split
  · exact sameStage_finishCall _ _ _ w
  · exact .refl _

theorem spares_finishOnChannel (e : CallEnv) (ch : Channel) (w : Act Calls) :
    w.val.Spares (w.val.generalOn ch = some ·) (finishOnChannel e ch w).val := by
  unfold finishOnChannel
  split
  · next i hi => exact (spares_finishCall _ i _ w).mono fun x hx => by rw [hx, hi]
  · exact .refl _ _

theorem finishOnChannel_ended {e : CallEnv} {ch : Channel} {w : Act Calls} {x : CallId}
    (h : w.val.generalOn ch = some x) :
    (finishOnChannel e ch w).val.ended x w.val.table[x].creator .preEmpted e.now := by
  unfold finishOnChannel
  rw [h]
  exact finishCall_ended _ _ _ _

theorem Calls.SameStage.generalOn {c c' : Calls} (h : c.SameStage c') (ch : Channel) :
    c'.generalOn ch = c.generalOn ch := by
  obtain ⟨-, -, -, ha, hb, -⟩ := h
  have hc : c'.chan ch = c.chan ch := by cases ch <;> [exact ha; exact hb]
  unfold Calls.generalOn
  rw [hc]

theorem stopForEvacuation_chan_of_ne (e : CallEnv) {ch k : Channel} (c : Calls) (h : k ≠ ch) :
    (stopForEvacuation e ch c).chan k = c.chan k := by
  unfold stopForEvacuation
  split
  · exact stopChannel_chan_of_ne e c h
  · exact Calls.chan_setChan_of_ne _ _ h

theorem stopForEvacuation_free {e : CallEnv} {ch : Channel} {c : Calls} (h : (c.chan ch).carrying = false) :
    (stopForEvacuation e ch c).chan ch = { c.chan ch with stopStrobe := true } := by
  unfold stopForEvacuation
  rw [if_neg (by simp [h])]
  exact Calls.chan_setChan_self _ _ _

theorem stopForEvacuation_carrying (e : CallEnv) (ch : Channel) (c : Calls) :
    ((stopForEvacuation e ch c).chan ch).carrying = false := by
  by_cases h : (c.chan ch).carrying = true
  · unfold stopForEvacuation
    rw [if_pos h]
    unfold stopChannel
    rw [Calls.chan_setChan_self]
    split <;> rfl
  · rw [stopForEvacuation_free (by simpa using h)]
    simpa [ChannelRecord.carrying] using h

theorem spares_stopForEvacuation (J : CallId → Prop) (e : CallEnv) (ch : Channel) (c : Calls) :
    c.Spares J (stopForEvacuation e ch c) := by
  unfold stopForEvacuation
  split
  · exact spares_stopChannel J e ch c
  · exact spares_setChan J ch _ c

theorem sameScene_stopForEvacuation (e : CallEnv) (ch : Channel) (c : Calls) :
    c.SameScene (stopForEvacuation e ch c) := by
  unfold stopForEvacuation
  split
  · exact sameScene_stopChannel e ch c
  · exact sameScene_setChan ch _ c

/-- Every paging zone is FREE (R148). -/
def Calls.Unconnected (c : Calls) : Prop := ∀ z : Fin 12, c.paging[z].conn = none

/-- Both channels give up their zones (R162). -/
def Calls.releaseBoth (c : Calls) : Calls := (c.release .a).release .b

theorem unconnected_releaseBoth (c : Calls) : c.releaseBoth.Unconnected := by
  intro z
  unfold Calls.releaseBoth
  rw [release_zone, release_zone]
  rcases hc : c.paging[z].conn with _ | _ | _ <;> simp [-Fin.getElem_fin, hc]

theorem sameScene_releaseBoth (c : Calls) : c.SameScene c.releaseBoth :=
  (sameScene_release .a c).trans (sameScene_release .b _)

theorem Calls.Unconnected.release {c : Calls} (h : c.Unconnected) (ch : Channel) : (c.release ch).Unconnected := by
  intro z
  rw [release_zone, h z]
  simpa using h z

theorem Calls.Unconnected.stopForEvacuation {c : Calls} (h : c.Unconnected) (e : CallEnv) (ch : Channel) :
    (stopForEvacuation e ch c).Unconnected := by
  unfold Machine.stopForEvacuation
  split
  · have := h.release ch
    cases ch <;> exact this
  · cases ch <;> exact h

/-! ## The evacuation call at its first search -/

/-- The calls with both channels and every zone cleared and the run begun (R162). -/
def Calls.clearedFor (e : CallEnv) (c : Calls) : Calls :=
  beginRun e .evacuation (stopForEvacuation e .b (stopForEvacuation e .a c))

/-- The general calls of both channels finish PRE_EMPTED (R162). -/
def finishBoth (e : CallEnv) (w : Act Calls) : Act Calls := finishOnChannel e .b (finishOnChannel e .a w)

/-- The calls at the moment the evacuation call first looks for a channel (R162). -/
def evacuationReady (e : CallEnv) (w : Act Calls) : Act Calls :=
  (finishBoth e (w.map Calls.releaseBoth)).map (Calls.clearedFor e)

theorem sameStage_finishBoth (e : CallEnv) (w : Act Calls) : w.val.SameStage (finishBoth e w).val :=
  (finishOnChannel_stage e .a w).trans (finishOnChannel_stage e .b _)

theorem sameScene_clearedFor (e : CallEnv) (c : Calls) : c.SameScene (c.clearedFor e) :=
  ((sameScene_stopForEvacuation e .a c).trans (sameScene_stopForEvacuation e .b _)).trans ⟨rfl, rfl, rfl, fun _ => rfl⟩

theorem evacuationReady_scene (e : CallEnv) (w : Act Calls) : w.val.SameScene (evacuationReady e w).val := by
  have h1 : w.val.SameScene (w.map Calls.releaseBoth).val := sameScene_releaseBoth w.val
  have h2 := (sameStage_finishBoth e (w.map Calls.releaseBoth)).scene
  exact (h1.trans h2).trans (sameScene_clearedFor e _)

theorem evacuationReady_unconnected (e : CallEnv) (w : Act Calls) : (evacuationReady e w).val.Unconnected := by
  obtain ⟨-, -, hp, -⟩ := sameStage_finishBoth e (w.map Calls.releaseBoth)
  have h : (finishBoth e (w.map Calls.releaseBoth)).val.Unconnected :=
    fun z => by rw [hp]; exact unconnected_releaseBoth w.val z
  exact (h.stopForEvacuation e .a).stopForEvacuation e .b

theorem clearedFor_chan (e : CallEnv) (c : Calls) (k : Channel) :
    ((c.clearedFor e).chan k).carrying = false ∧
      ((c.chan k).carrying = false → (c.clearedFor e).chan k = { c.chan k with stopStrobe := true }) := by
  have hb : (c.clearedFor e).chan k = (stopForEvacuation e .b (stopForEvacuation e .a c)).chan k := by cases k <;> rfl
  rw [hb]
  cases k with
  | a =>
    rw [stopForEvacuation_chan_of_ne e _ (by decide)]
    exact ⟨stopForEvacuation_carrying e .a c, stopForEvacuation_free⟩
  | b =>
    refine ⟨stopForEvacuation_carrying e .b _, fun h => ?_⟩
    have hu : (stopForEvacuation e .a c).chan .b = c.chan .b := stopForEvacuation_chan_of_ne e _ (by decide)
    rw [stopForEvacuation_free (by rw [hu]; exact h), hu]

/-- No channel carries a call at the search, and one that carried none keeps its state. -/
theorem evacuationReady_chan (e : CallEnv) (w : Act Calls) (k : Channel) :
    ((evacuationReady e w).val.chan k).carrying = false ∧
      ((w.val.chan k).carrying = false →
        (evacuationReady e w).val.chan k = { w.val.chan k with stopStrobe := true }) := by
  obtain ⟨-, -, -, ha, hb, -⟩ := sameStage_finishBoth e (w.map Calls.releaseBoth)
  have hk : (finishBoth e (w.map Calls.releaseBoth)).val.chan k = w.val.chan k := by
    cases k <;> [exact ha; exact hb]
  rw [← hk]
  exact clearedFor_chan e _ k

theorem evacuationReady_noGeneral (e : CallEnv) (w : Act Calls) : (evacuationReady e w).val.NoGeneral := fun k => by
  unfold Calls.generalOn
  rw [(evacuationReady_chan e w k).1]
  rfl

theorem spares_releaseBoth (J : CallId → Prop) (c : Calls) : c.Spares J c.releaseBoth :=
  .of_same rfl rfl rfl rfl rfl rfl rfl

/-- Between the pre-emptions and the search only the descriptor of the evacuation call is written. -/
theorem spares_clearedFor (e : CallEnv) (c : Calls) : c.Spares (· = 0) (c.clearedFor e) :=
  ((spares_stopForEvacuation _ e .a c).trans (spares_stopForEvacuation _ e .b _)).trans (spares_beginRun e .evacuation _)

theorem spares_finishBoth (e : CallEnv) (w : Act Calls) :
    w.val.Spares (fun x => ∃ k, w.val.generalOn k = some x) (finishBoth e w).val := by
  have hs := finishOnChannel_stage e .a w
  exact ((spares_finishOnChannel e .a w).mono fun x hx => ⟨.a, hx⟩).trans
    ((spares_finishOnChannel e .b _).mono fun x hx => ⟨.b, by rw [← hs.generalOn]; exact hx⟩)

/-- A general call on one channel alone finishes PRE_EMPTED. -/
theorem finishBoth_ended {e : CallEnv} {w : Act Calls} {ch : Channel} {x : CallId}
    (h : w.val.generalOn ch = some x) (hu : ∀ k, w.val.generalOn k = some x → k = ch)
    (hf : .general x ∉ w.val.finished) :
    (finishBoth e w).val.ended x w.val.table[x].creator .preEmpted e.now := by
  have hs := finishOnChannel_stage e .a w
  cases ch with
  | a =>
    refine (spares_finishOnChannel e .b _).ended x _ _ _ (fun hb => ?_) (finishOnChannel_ended h)
    exact absurd (hu .b (by rw [← hs.generalOn]; exact hb)) (by decide)
  | b =>
    have hn : ¬ w.val.generalOn .a = some x := fun ha => absurd (hu .a ha) (by decide)
    rw [← (spares_finishOnChannel e .a w).table_eq hn hf]
    exact finishOnChannel_ended (by rw [hs.generalOn]; exact h)

theorem releaseBoth_generalOn (c : Calls) (k : Channel) : c.releaseBoth.generalOn k = c.generalOn k := by cases k <;> rfl

theorem spares_evacuationReady (e : CallEnv) (w : Act Calls) :
    w.val.Spares (fun x => x = 0 ∨ ∃ k, w.val.generalOn k = some x) (evacuationReady e w).val := by
  have h1 : w.val.Spares (fun x => x = 0 ∨ ∃ k, w.val.generalOn k = some x) (w.map Calls.releaseBoth).val :=
    spares_releaseBoth _ w.val
  have h2 := (spares_finishBoth e (w.map Calls.releaseBoth)).mono
    (K := fun x => x = 0 ∨ ∃ k, w.val.generalOn k = some x)
    fun x ⟨k, hk⟩ => .inr ⟨k, by rw [← releaseBoth_generalOn]; exact hk⟩
  exact (h1.trans h2).trans ((spares_clearedFor e _).mono fun x hx => .inl hx)

/-- A general call on one channel alone has been pre-empted by then. -/
theorem evacuationReady_ended {e : CallEnv} {w : Act Calls} {ch : Channel} {x : CallId} (hx : x ≠ 0)
    (h : w.val.generalOn ch = some x) (hu : ∀ k, w.val.generalOn k = some x → k = ch)
    (hf : .general x ∉ w.val.finished) :
    (evacuationReady e w).val.ended x w.val.table[x].creator .preEmpted e.now :=
  (spares_clearedFor e _).ended x _ _ _ hx <|
    finishBoth_ended (w := w.map Calls.releaseBoth) ((releaseBoth_generalOn _ _).trans h)
      (fun k hk => hu k ((releaseBoth_generalOn _ _).symm.trans hk)) hf

/-! ## The search (R162, R163) -/

theorem seekEvacuation_announces {e : CallEnv} {w : Act Calls} (hr : w.val.evacuation = .waiting)
    (h : (w.val.chanA.state = .faulted ∧ w.val.chanB.state = .faulted) ∨ w.val.evacZones = 0) :
    seekEvacuation e true w = w.emit (unannounced w.val) := by
  unfold seekEvacuation
  rw [if_pos hr]
  split
  · rfl
  · next hz =>
    obtain ⟨ha, hb⟩ := h.resolve_right hz
    have hc : w.val.evacChannel = none := by simp [Calls.evacChannel, ha, hb]
    rw [hc]
    exact if_pos ⟨rfl, ha, hb⟩

theorem seekEvacuation_starts {e : CallEnv} {w : Act Calls} (hr : w.val.evacuation = .waiting) (hg : w.val.NoGeneral)
    (ha : w.val.chanA.state = .idle) (hz : w.val.evacZones ≠ 0) :
    seekEvacuation e true w = w.map (Calls.builtInStarted .evacuation .a w.val.evacZones) := by
  have hc : w.val.evacChannel = some .a := if_pos ha
  unfold seekEvacuation
  rw [if_pos hr, if_neg hz, hc]
  exact startBuiltIn_eq hg

theorem builtInStarted_zone (b : BuiltIn) (ch : Channel) (zones : ZoneSet) (c : Calls) (z : Fin 12) :
    (c.builtInStarted b ch zones).paging[z] =
      if zones.getLsbD z = true then { c.paging[z] with conn := some ch } else c.paging[z] := by
  cases b <;> cases ch <;> exact vmapIdx_get _ _ z

/-- The search leaves the scene, and the evacuation call keeps its run. -/
theorem seekEvacuation_scene {e : CallEnv} {w : Act Calls} (hr : w.val.evacuation = .waiting) (hg : w.val.NoGeneral) :
    w.val.SameScene (seekEvacuation e true w).val ∧ (seekEvacuation e true w).val.evacuation ≠ .notRunning ∧
      w.val.Spares (· = 0) (seekEvacuation e true w).val := by
  rcases seekEvacuation_cases (e := e) true hg with ⟨ch, k⟩ | k <;> rw [k]
  · refine ⟨⟨?_, ?_, ?_, fun z => ?_⟩, ?_, spares_builtInStarted .evacuation ch _ w.val⟩
    · cases ch <;> rfl
    · cases ch <;> rfl
    · cases ch <;> rfl
    · simp only [Act.map]; rw [builtInStarted_zone]; split <;> rfl
    · cases ch <;> exact fun h => nomatch h
  · exact ⟨.refl _, by rw [hr]; exact (fun h => nomatch h), .refl _ _⟩

end Sys2Proof.Machine
end

section
/-! SUPPORT. The calls as a change to EVACUATE leaves them (R140, R156, R161 to R163), read from the calls before it. -/
namespace Sys2Proof.Machine

/-- The calls with the new condition seen by the Call Scheduler and the Call Arbiter (R140, R156). -/
def Calls.seesEvacuate (c : Calls) : Calls := { c with fireSeen := .evacuate, arbiterFire := .evacuate }

/-- The calls at the search for a channel, from those before the change to EVACUATE. -/
def evacuationSearch (e : CallEnv) (c : Calls) : Act Calls :=
  evacuationReady e (endBuiltIn e .staffAlert .preEmpted ⟨c.seesEvacuate, []⟩)

theorem schedulerFireHandoff_evacuate (e : CallEnv) (w : Act Calls) :
    schedulerFireHandoff .evacuate e w = w.map fun c => { c with fireSeen := .evacuate } := by
  unfold schedulerFireHandoff
  exact if_neg fun h => absurd h.2 (by decide)

theorem evacuationSearch_run (e : CallEnv) (c : Calls) : (evacuationSearch e c).val.evacuation = .waiting := rfl

theorem evacuationSearch_noGeneral (e : CallEnv) (c : Calls) : (evacuationSearch e c).val.NoGeneral :=
  evacuationReady_noGeneral e _

/-- What the search finds of the scene: EVACUATE seen, no staff alert, the evacuation zones as configured. -/
theorem evacuationSearch_scene (e : CallEnv) (c : Calls) :
    (evacuationSearch e c).val.fireSeen = .evacuate ∧ (evacuationSearch e c).val.arbiterFire = .evacuate ∧
      (evacuationSearch e c).val.staffAlert = .notRunning ∧
      ∀ z : Fin 12, (evacuationSearch e c).val.paging[z].evac = c.paging[z].evac := by
  obtain ⟨⟨h1, h2, -, h4⟩, h3⟩ := endStaffAlert_scene e .preEmpted ⟨c.seesEvacuate, []⟩
  obtain ⟨k1, k2, k3, k4⟩ := evacuationReady_scene e (endBuiltIn e .staffAlert .preEmpted ⟨c.seesEvacuate, []⟩)
  exact ⟨k1.trans h1, k2.trans h2, k3.trans h3, fun z => (k4 z).trans (h4 z)⟩

theorem evacuationSearch_evacZones (e : CallEnv) (c : Calls) : (evacuationSearch e c).val.evacZones = c.evacZones :=
  zonesWhere_ext (evacuationSearch_scene e c).2.2.2

/-- A channel that carries nothing before the change keeps its state and its fault until the search. -/
theorem evacuationSearch_chan {e : CallEnv} {c : Calls} (h : c.lawful) {k : Channel} (hk : (c.chan k).carrying = false) :
    ((evacuationSearch e c).val.chan k).state = (c.chan k).state := by
  obtain ⟨hcall, -, -, hrun⟩ := h.channel k
  have hs : c.staffAlert ≠ .onChannel k := fun hs => by
    have hone := hrun.mp hs
    rw [hone, hk] at hcall
    exact absurd hcall (by decide)
  obtain ⟨v, hv⟩ := endBuiltIn_chan (e := e) (b := .staffAlert) (o := .preEmpted) (w := ⟨c.seesEvacuate, []⟩) hs
  have hc : (c.seesEvacuate.chan k) = c.chan k := by cases k <;> rfl
  rw [hc] at hv
  unfold evacuationSearch
  rw [(evacuationReady_chan e _ k).2 (by rw [hv]; exact hk), hv]

theorem carrying_of_state {r : ChannelRecord} (h : r.state = .idle ∨ r.state = .faulted) : r.carrying = false := by
  unfold ChannelRecord.carrying
  rcases h with h | h <;> rw [h] <;> rfl

theorem Calls.generalOn_eq_some_iff {c : Calls} {k : Channel} {x : CallId} :
    c.generalOn k = some x ↔ (c.chan k).carrying = true ∧ (c.chan k).call = some x ∧ 2 ≤ x.val := by
  unfold Calls.generalOn
  split
  · next h => simp [h, isGeneral, Option.filter_eq_some_iff]
  · next h => simp [h]

/-- The staff alert as it ends takes no general call from a channel, where the collections are lawful. -/
theorem endStaffAlert_generalOn {e : CallEnv} {c : Calls} (h : c.lawful) (k : Channel) (x : CallId) :
    (endBuiltIn e .staffAlert .preEmpted ⟨c.seesEvacuate, []⟩).val.generalOn k = some x ↔ c.generalOn k = some x := by
  rw [Calls.generalOn_eq_some_iff, Calls.generalOn_eq_some_iff]
  have hk : c.seesEvacuate.chan k = c.chan k := by cases k <;> rfl
  by_cases hs : c.staffAlert = .onChannel k
  · obtain ⟨-, -, -, hrun⟩ := h.channel k
    have hcall : ((endBuiltIn e .staffAlert .preEmpted ⟨c.seesEvacuate, []⟩).val.chan k).call = none := by
      have hr : (Act.mk c.seesEvacuate []).val.run .staffAlert = .onChannel k := hs
      rw [endBuiltIn_eq (by rw [hr]; exact fun hn => nomatch hn), hr]
      exact stopChannel_call e k _
    rw [hcall, hrun.mp hs]
    constructor
    · rintro ⟨-, hn, -⟩; exact absurd hn (by simp)
    · rintro ⟨-, he, hx⟩; rw [← Option.some.inj he] at hx; exact absurd hx (by decide)
  · obtain ⟨v, hv⟩ := endBuiltIn_chan (e := e) (b := .staffAlert) (o := .preEmpted) (w := ⟨c.seesEvacuate, []⟩) hs
    rw [hv, hk]
    rfl

/-- A general call on a channel has been pre-empted by the search, where the collections are lawful (R162). -/
theorem evacuationSearch_preEmpts {e : CallEnv} {c : Calls} (h : c.lawful) {ch : Channel} {x : CallId} (hx : 2 ≤ x.val)
    (hc : (c.chan ch).call = some x) :
    (evacuationSearch e c).val.ended x c.table[x].creator .preEmpted e.now := by
  obtain ⟨hg, hplay, hch⟩ := h.onChannel hx hc
  have only (k : Channel) (hk : c.generalOn k = some x) : k = ch := by
    obtain ⟨-, hcall, -⟩ := Calls.generalOn_eq_some_iff.mp hk
    exact Option.some.inj ((h.onChannel hx hcall).2.2.symm.trans hch)
  have hf : .general x ∉ c.finished := fun hm => by
    have hfin := (h.mem_finished hx).mp hm
    rw [hplay] at hfin; exact absurd hfin (by decide)
  have h0 : x ≠ 0 := fun he => by rw [he] at hx; exact absurd hx (by decide)
  have h1 : x ≠ builtInCall .staffAlert := fun he => by rw [he] at hx; exact absurd hx (by decide)
  have hsp := spares_endBuiltIn e .staffAlert .preEmpted ⟨c.seesEvacuate, []⟩
  have ht : (endBuiltIn e .staffAlert .preEmpted ⟨c.seesEvacuate, []⟩).val.table[x] = c.table[x] := hsp.table_eq h1 hf
  have he := evacuationReady_ended (e := e) (w := endBuiltIn e .staffAlert .preEmpted ⟨c.seesEvacuate, []⟩) h0
    ((endStaffAlert_generalOn h ch x).mpr hg) (fun k hk => only k ((endStaffAlert_generalOn h k x).mp hk))
    (mt (hsp.finished x h1) hf)
  rw [ht] at he
  exact he

/-- The staff alert in its run has finished PRE_EMPTED by the search (R161). -/
theorem evacuationSearch_staffAlert {e : CallEnv} {c : Calls} (h : c.lawful) (hr : c.staffAlert ≠ .notRunning) :
    (evacuationSearch e c).val.table[(1 : CallId)].life = .finished ∧
      (evacuationSearch e c).val.table[(1 : CallId)].outcome = some .preEmpted ∧
      .general (1 : CallId) ∉ (evacuationSearch e c).val.finished := by
  have hf : .general (1 : CallId) ∉ c.finished := (h.builtIn_nowhere (by decide)).2.2.2
  have hw := mt (endBuiltIn_finished e .staffAlert .preEmpted ⟨c.seesEvacuate, []⟩ 1) hf
  have hsp := spares_evacuationReady e (endBuiltIn e .staffAlert .preEmpted ⟨c.seesEvacuate, []⟩)
  have hn : ¬ ((1 : CallId) = 0 ∨
      ∃ k, (endBuiltIn e .staffAlert .preEmpted ⟨c.seesEvacuate, []⟩).val.generalOn k = some 1) := by
    rintro (h0 | ⟨k, hk⟩)
    · exact absurd h0 (by decide)
    · exact absurd (Calls.generalOn_eq_some_iff.mp hk).2.2 (by decide)
  obtain ⟨t1, t2⟩ := endBuiltIn_table (e := e) (b := .staffAlert) (o := .preEmpted) (w := ⟨c.seesEvacuate, []⟩) hr hf
  have ht : (evacuationSearch e c).val.table[(1 : CallId)] = _ := hsp.table_eq hn hw
  rw [ht]
  exact ⟨t1, t2, mt (hsp.finished 1 hn) hw⟩

/-! ## After the search -/

/-- The calls as a change to EVACUATE leaves them. -/
def evacuationFound (e : CallEnv) (c : Calls) : Act Calls := seekEvacuation e true (evacuationSearch e c)

theorem arbiterFireHandoff_evacuate (e : CallEnv) (c : Calls) :
    arbiterFireHandoff .evacuate e ⟨{ c with fireSeen := .evacuate }, []⟩ = evacuationFound e c := rfl

theorem evacuationFound_spares (e : CallEnv) (c : Calls) :
    (evacuationSearch e c).val.Spares (· = 0) (evacuationFound e c).val :=
  (seekEvacuation_scene (evacuationSearch_run e c) (evacuationSearch_noGeneral e c)).2.2

/-- Both units have seen EVACUATE, the staff alert is over and the evacuation call runs (R156, R161, R162). -/
theorem evacuationFound_scene (e : CallEnv) (c : Calls) :
    (evacuationFound e c).val.fireSeen = .evacuate ∧ (evacuationFound e c).val.arbiterFire = .evacuate ∧
      (evacuationFound e c).val.staffAlert = .notRunning ∧ (evacuationFound e c).val.evacuation ≠ .notRunning := by
  obtain ⟨h1, h2, h3, -⟩ := evacuationSearch_scene e c
  have hs := seekEvacuation_scene (e := e) (evacuationSearch_run e c) (evacuationSearch_noGeneral e c)
  unfold evacuationFound
  generalize evacuationSearch e c = u at h1 h2 h3 hs ⊢
  generalize seekEvacuation e true u = v at hs ⊢
  obtain ⟨⟨k1, k2, k3, -⟩, k4, -⟩ := hs
  exact ⟨k1.trans h1, k2.trans h2, k3.trans h3, k4⟩

/-- With channel A IDLE and an evacuation zone the call starts on A in its zones alone (R151, R162). -/
theorem evacuationFound_starts {e : CallEnv} {c : Calls} (h : c.lawful) (ha : c.chanA.state = .idle)
    (hz : ∃ z : Fin 12, c.paging[z].evac = true) :
    (evacuationFound e c).val.evacuation = .onChannel .a ∧ (evacuationFound e c).val.chanA.state = .starting ∧
      (evacuationFound e c).val.chanA.call = some 0 ∧ (evacuationFound e c).val.chanA.live = c.evacZones ∧
      ∀ z : Fin 12, (evacuationFound e c).val.paging[z].conn = if c.paging[z].evac = true then some .a else none := by
  have hidle : ((evacuationSearch e c).val.chan .a).state = .idle :=
    (evacuationSearch_chan h (k := .a) (carrying_of_state (.inl ha))).trans ha
  have hne : (evacuationSearch e c).val.evacZones ≠ 0 := by
    rw [evacuationSearch_evacZones, ne_eq, evacZones_eq_zero_iff]
    obtain ⟨z, hz⟩ := hz
    exact fun hn => absurd hz (by rw [hn z]; decide)
  have hfree := evacuationReady_unconnected e (endBuiltIn e .staffAlert .preEmpted ⟨c.seesEvacuate, []⟩)
  have hstart : evacuationFound e c = _ :=
    seekEvacuation_starts (evacuationSearch_run e c) (evacuationSearch_noGeneral e c) hidle hne
  rw [hstart, evacuationSearch_evacZones]
  have hchan := builtInStarted_chan .evacuation .a c.evacZones (evacuationSearch e c).val .a
  rw [if_pos rfl] at hchan
  have hchan' : ((evacuationSearch e c).map (Calls.builtInStarted .evacuation .a c.evacZones)).val.chanA = _ := hchan
  rw [hchan']
  refine ⟨rfl, rfl, rfl, rfl, fun z => ?_⟩
  simp only [Act.map]
  rw [builtInStarted_zone, Calls.evacZones, Calls.zonesWhere_bit]
  split
  · rfl
  · exact hfree z

/-- With both channels FAULTED or no evacuation zone the call stays waiting, and the notice of R163 is raised from the
calls as they are left. -/
theorem evacuationFound_unannounced {e : CallEnv} {c : Calls} (h : c.lawful)
    (hn : c.chanA.state = .faulted ∧ c.chanB.state = .faulted ∨ ∀ z : Fin 12, c.paging[z].evac = false) :
    (⟨[.prompt, .house], .evacuationUnannounced (evacuationFound e c).val.chanA.fault
        (evacuationFound e c).val.chanB.fault ((List.finRange 12).filter fun z => c.paging[z].evac).length⟩ : Mail) ∈
      (evacuationFound e c).out := by
  have faulted (k : Channel) (hk : (c.chan k).state = .faulted) : ((evacuationSearch e c).val.chan k).state = .faulted :=
    (evacuationSearch_chan h (carrying_of_state (.inr hk))).trans hk
  have hs : evacuationFound e c = (evacuationSearch e c).emit (unannounced (evacuationSearch e c).val) := by
    refine seekEvacuation_announces (evacuationSearch_run e c) (hn.imp (fun ⟨ha, hb⟩ => ⟨faulted .a ha, faulted .b hb⟩) ?_)
    intro hz
    rw [evacuationSearch_evacZones, evacZones_eq_zero_iff]
    exact hz
  rw [hs, ← zoneCount_evacZones, ← evacuationSearch_evacZones e c]
  exact List.mem_append_right _ List.mem_cons_self

end Sys2Proof.Machine
end

section
/-! SUPPORT. A change to EVACUATE as a whole (R14, R57, R58, R67, R118, R162): what each block makes of it, and the
order of the notices at a desk (R36, R59). -/
namespace Sys2Proof.Machine

/-! ## The stages of the change -/

/-- The state in which the Call Arbiter hears of EVACUATE: the record is complete and told, and the curtain, the lights
and the Call Scheduler have heard (Table 3-3). -/
def beforeArbiter (cause : FireCause) (s : State) : State :=
  ((((conditionRecorded .evacuate cause s).post
      [fireMail (conditionRecorded .evacuate cause s).fire s.fire.condition cause]).onCurtain
    fun e => curtainFireHandoff e true (some .evacuate)).onLights (lightsFireHandoff .evacuate)).onCalls
    (schedulerFireHandoff .evacuate)

theorem changeCondition_evacuate (cause : FireCause) (s : State) :
    changeCondition .evacuate cause s = stopShow ((beforeArbiter cause s).onCalls (arbiterFireHandoff .evacuate)) := rfl

theorem quietly_conditionRecorded (new : Condition) (cause : FireCause) (s : State) :
    Quietly s (conditionRecorded new cause s) :=
  (quietly_blocks s s.house (s.fire.withCondition s.clock s.params.investigation new cause) s.curtain s.lights
    s.calls).trans (quietly_promoteOnEvacuate new _)

theorem quietly_afterFireMail (cause : FireCause) (s : State) :
    Quietly ((conditionRecorded .evacuate cause s).post
      [fireMail (conditionRecorded .evacuate cause s).fire s.fire.condition cause]) (beforeArbiter cause s) :=
  ((quietly_onCurtain _ _).trans (quietly_onLights _ _)).trans (quietly_onCalls _ _)

theorem quietly_beforeArbiter (cause : FireCause) (s : State) : Quietly s (beforeArbiter cause s) :=
  ((quietly_conditionRecorded .evacuate cause s).trans (quietly_post _ _)).trans (quietly_afterFireMail cause s)

theorem beforeArbiter_calls (cause : FireCause) (s : State) :
    (beforeArbiter cause s).calls = { s.calls with fireSeen := .evacuate } := by
  have hc : (conditionRecorded .evacuate cause s).calls = s.calls := by rw [conditionRecorded_others]
  unfold beforeArbiter
  rw [State.onCalls_calls, schedulerFireHandoff_evacuate]
  show { (conditionRecorded .evacuate cause s).calls with fireSeen := Condition.evacuate } = _
  rw [hc]

/-! ## The record and the zones -/

/-- The condition record of an evacuation, with the zones and the list of the moment (R46, R57, R58). -/
theorem evacuation_record (cause : FireCause) (s : State) :
    (conditionRecorded .evacuate cause s).fire = { s.fire with
      condition := .evacuate, previous := some s.fire.condition, cause := some cause, enteredAt := s.clock
      investigation := none, demand := true, zones := (conditionRecorded .evacuate cause s).fire.zones
      alarmList := (conditionRecorded .evacuate cause s).fire.alarmList } := by
  rw [conditionRecorded_fire]
  split
  · rw [promoteZones_others]; rfl
  · rfl

/-- A promotion reads the zones and the list alone. -/
theorem promoteZones_withCondition (now period : Nat) (new : Condition) (cause : FireCause) (f : Fire) :
    (promoteZones now (f.withCondition now period new cause)).zones = (promoteZones now f).zones ∧
      (promoteZones now (f.withCondition now period new cause)).alarmList = f.alarmList ++ f.delayedWith .active := by
  refine ⟨Vector.ext fun i hi => ?_, promoteZones_alarmList _ _⟩
  exact (promoteZones_zones now (f.withCondition now period new cause) ⟨i, hi⟩).trans
    (promoteZones_zones now f ⟨i, hi⟩).symm

/-- With show mode on an evacuation promotes (R58). -/
theorem evacuation_promotes {cause : FireCause} {s : State} (hm : s.house.showMode = true) :
    (changeCondition .evacuate cause s).fire.zones = (promoteZones s.clock s.fire).zones ∧
      (changeCondition .evacuate cause s).fire.alarmList = s.fire.alarmList ++ s.alarming := by
  rw [changeCondition_fire, conditionRecorded_fire, if_pos ⟨rfl, hm⟩]
  exact promoteZones_withCondition _ _ _ _ _

/-- With show mode off or nothing DELAYED an evacuation changes no zone. -/
theorem evacuation_keepsZones {cause : FireCause} {s : State} (h : NoneDelayed s ∨ s.house.showMode = false) :
    (changeCondition .evacuate cause s).fire.zones = s.fire.zones ∧
      (changeCondition .evacuate cause s).fire.alarmList = s.fire.alarmList := by
  cases hm : s.house.showMode with
  | false =>
    rw [changeCondition_fire, conditionRecorded_fire, if_neg (by simp [hm])]
    exact ⟨rfl, rfl⟩
  | true =>
    have hn : NoneDelayed s := h.resolve_right (by simp [hm])
    obtain ⟨hz, hl⟩ := evacuation_promotes (cause := cause) hm
    rw [hz, hl, alarming_eq, delayedWith_eq_nil hn, List.append_nil]
    exact ⟨Vector.ext fun i hi => promoteZones_of_not_delayed (y := ⟨i, hi⟩) (hn ⟨i, hi⟩), rfl⟩

/-! ## What the blocks make of EVACUATE -/

/-- The demand of an evacuation releases a curtain that had none (R67). -/
theorem curtainFireHandoff_evacuate (e : CurtainEnv) (w : Act Curtain) :
    (curtainFireHandoff e true (some .evacuate) w).val.fireDemand = true ∧
      (w.val.fireDemand = false → (curtainFireHandoff e true (some .evacuate) w).val.state.heldOut = false) := by
  have demanded : (meetDemand e true w).val.fireDemand = true := by
    unfold meetDemand
    cases hd : w.val.fireDemand with
    | true => simpa using hd
    | false =>
      obtain ⟨h, -⟩ := releaseDemand_demands e
        (w.map fun c => { c with fireDemand := true, causes := { c.causes with fire := true } })
      exact h
  have released (hd : w.val.fireDemand = false) : (meetDemand e true w).val.state.heldOut = false := by
    unfold meetDemand
    rw [if_pos (by simp [hd])]
    exact releaseDemand_notHeldOut e _
  rw [curtainFireHandoff_eq]
  split
  · next h => exact ⟨demanded, fun hd => absurd (released hd) (by rw [h.1]; decide)⟩
  · exact ⟨demanded, released⟩

theorem changeAuthority_fireSeen (e : LightEnv) (a : Authority) (cause : AuthorityCause) (w : Act Lights) :
    (changeAuthority e a cause w).val.fireSeen = w.val.fireSeen := by
  unfold changeAuthority; split <;> rfl

/-- Nothing is restored on a change to EVACUATE: the authority alone is taken (R118, R123). -/
theorem lightsFireHandoff_evacuate_eq (e : LightEnv) (w : Act Lights) :
    lightsFireHandoff .evacuate e w =
      changeAuthority e .house .evacuate (w.map fun l => { l with fireSeen := .evacuate }) := by
  unfold lightsFireHandoff
  dsimp only
  exact (if_pos rfl).trans (congrArg _ (if_neg fun h => h.2.1 rfl))

/-- EVACUATE takes the authority to the house (R118). -/
theorem lightsFireHandoff_evacuate (e : LightEnv) (w : Act Lights) :
    (lightsFireHandoff .evacuate e w).val.fireSeen = .evacuate ∧
      (lightsFireHandoff .evacuate e w).val.authority = .house := by
  rw [lightsFireHandoff_evacuate_eq]
  exact ⟨changeAuthority_fireSeen _ _ _ _, changeAuthority_house _ _ _⟩

/-- The hand-off of a phase leaves the condition as seen, and an authority that the house has (R118). -/
theorem lightsPhaseHandoff_keeps (phase : Phase) (stop : Option StopRecord) (e : LightEnv) (w : Act Lights) :
    (lightsPhaseHandoff phase stop e w).val.fireSeen = w.val.fireSeen ∧
      (w.val.authority = .house → (lightsPhaseHandoff phase stop e w).val.authority = .house) := by
  unfold lightsPhaseHandoff
  dsimp only
  by_cases hc : phase.consolePhase = true
  · rw [if_pos hc]
    split <;> exact ⟨rfl, id⟩
  · rw [if_neg hc]
    refine ⟨(changeAuthority_fireSeen _ _ _ _).trans ?_, fun _ => changeAuthority_house _ _ _⟩
    split <;> rfl

/-- The stop of the show keeps the lights under the house and the condition as seen. -/
theorem stopShow_lights (s : State) :
    (stopShow s).lights.fireSeen = s.lights.fireSeen ∧
      (s.lights.authority = .house → (stopShow s).lights.authority = .house) := by
  unfold stopShow
  rw [completeChange_eq, handShowMode_calm (.inl fun _ => rfl)]
  by_cases h : s.house.phase = s.house.evacuated.phase ∧ s.house.stop = s.house.evacuated.stop
  · obtain ⟨h1, -⟩ := handRecord_samePhase (cause := .cleared) (s := { s with house := s.house.evacuated }) h.1 h.2
    dsimp only
    rw [h1]
    exact ⟨rfl, id⟩
  · obtain ⟨h1, -⟩ := handRecord_newPhase (cause := .cleared) (s := { s with house := s.house.evacuated }) h
    dsimp only
    rw [h1]
    exact lightsPhaseHandoff_keeps _ _ _ _

theorem evacuated_anchors (h : House) : h.evacuated.anchors = h.anchors := by
  unfold House.evacuated; split <;> rfl

/-- The stop of the show reaches the calls as a phase alone: no anchor moves. -/
theorem stopShow_calls (s : State) : ∃ p, (stopShow s).calls = { s.calls with phaseSeen := p } := by
  have ha : handAnchors (anchorEvents s.house.anchors s.house.evacuated.anchors) { s with house := s.house.evacuated } =
      { s with house := s.house.evacuated } := by
    rw [evacuated_anchors, anchorEvents_self, handAnchors_nil]
  unfold stopShow
  rw [completeChange_eq, handShowMode_calm (.inl fun _ => rfl)]
  by_cases h : s.house.phase = s.house.evacuated.phase ∧ s.house.stop = s.house.evacuated.stop
  · obtain ⟨-, h1⟩ := handRecord_samePhase (cause := .cleared) (s := { s with house := s.house.evacuated }) h.1 h.2
    exact ⟨s.calls.phaseSeen, by dsimp only; rw [h1, ha]⟩
  · obtain ⟨-, h1⟩ := handRecord_newPhase (cause := .cleared) (s := { s with house := s.house.evacuated }) h
    exact ⟨s.house.evacuated.phase, by dsimp only; rw [h1, ha]⟩

/-- The calls after an evacuation are those of `evacuationFound`, but for the phase as seen. -/
theorem evacuation_calls (cause : FireCause) (s : State) :
    ∃ p, (changeCondition .evacuate cause s).calls =
      { (evacuationFound (beforeArbiter cause s).callEnv s.calls).val with phaseSeen := p } := by
  obtain ⟨p, hp⟩ := stopShow_calls ((beforeArbiter cause s).onCalls (arbiterFireHandoff .evacuate))
  refine ⟨p, ?_⟩
  rw [changeCondition_evacuate, hp, State.onCalls_calls, beforeArbiter_calls, arbiterFireHandoff_evacuate]

theorem beforeArbiter_now (cause : FireCause) (s : State) : (beforeArbiter cause s).callEnv.now = s.clock :=
  (quietly_beforeArbiter cause s).1.1.1

theorem reaches_onCalls {f : CallEnv → Act Calls → Act Calls} {s : State} {m : Mail} {q : Port} (hq : q ∈ m.ports)
    (hm : m ∈ (f s.callEnv ⟨s.calls, []⟩).out) : Reaches q m.notice s (s.onCalls f) := Reaches.of_post rfl hm hq

/-- A notice of the search reaches the ports to which it is routed (R163). -/
theorem evacuation_tells {cause : FireCause} {s : State} {m : Mail} {q : Port} (hq : q ∈ m.ports)
    (hm : m ∈ (evacuationFound (beforeArbiter cause s).callEnv s.calls).out) :
    Reaches q m.notice s (changeCondition .evacuate cause s) := by
  rw [changeCondition_evacuate]
  have ha := quietly_onCalls (arbiterFireHandoff .evacuate) (beforeArbiter cause s)
  have hs := quietly_stopShow ((beforeArbiter cause s).onCalls (arbiterFireHandoff .evacuate))
  have hb := (quietly_beforeArbiter cause s).2
  have ho : m ∈ (arbiterFireHandoff .evacuate (beforeArbiter cause s).callEnv ⟨(beforeArbiter cause s).calls, []⟩).out := by
    rw [beforeArbiter_calls, arbiterFireHandoff_evacuate]; exact hm
  exact ((reaches_onCalls hq ho).after hb ha.2).then (hb.trans ha.2) hs.2

end Sys2Proof.Machine
end

section
/-! SUPPORT. The order of the notices of one event at a port (R36, R59, R176), and the obligation on the three ways to
evacuate the house. -/
namespace Sys2Proof.Machine

/-! ## The order of the notices -/

/-- Whatever joins a port when notices are raised is one of them. -/
theorem PortRecord.queueNotice_joined {now : Nat} {n : Notice} {r : PortRecord} {f : TxFrame}
    (h : f ∈ (r.queueNotice now n).tx.drop r.tx.length) : f = .notice n := by
  rcases r.queueNotice_cases now n with ⟨-, k⟩ | ⟨-, -, k⟩ | ⟨-, -, k⟩ <;> rw [k] at h
  · simp at h
  · simpa using h
  · simp at h

/-- What has joined a port over two stretches joined in the first or in the second. -/
theorem PortRecord.joined_cases {a b c : PortRecord} (h : a.onlyNotices b) (k : b.onlyNotices c) {f : TxFrame}
    (hf : f ∈ c.tx.drop a.tx.length) : f ∈ b.tx.drop a.tx.length ∨ f ∈ c.tx.drop b.tx.length := by
  obtain ⟨-, -, -, -, -, -, ⟨ns, hns, -⟩, -⟩ := (PortRecord.onlyNotices_iff _ _).mp h
  obtain ⟨-, -, -, -, -, -, ⟨ms, hms, -⟩, -⟩ := (PortRecord.onlyNotices_iff _ _).mp k
  rw [hms, List.drop_left]
  rw [hms, hns, List.append_assoc, List.drop_left, List.mem_append] at hf
  rw [hns, List.drop_left]
  exact hf

theorem Links.raise_joined {now : Nat} {m : Mail} {l : Links} {p : Port} {f : TxFrame}
    (h : f ∈ ((l.raise now m).get p).tx.drop (l.get p).tx.length) : f = .notice m.notice := by
  have rest (ps : List Port) (l : Links) :
      (l.get p).onlyNotices ((ps.foldl (fun l q => l.set q ((l.get q).queueNotice now m.notice)) l).get p) :=
    Links.raise_onlyNotices now ⟨ps, m.notice⟩ l p
  unfold Links.raise at h
  generalize m.ports = ps at h
  induction ps generalizing l with
  | nil => simp at h
  | cons q ps ih =>
    rcases PortRecord.joined_cases (rest [q] l) (rest ps _) h with hj | hj
    · simp only [List.foldl_cons, List.foldl_nil, Links.get_set] at hj
      split at hj
      · next e => subst e; exact PortRecord.queueNotice_joined hj
      · simp at hj
    · exact ih hj

theorem Links.post_joined {now : Nat} {ms : List Mail} {l : Links} {p : Port} {f : TxFrame}
    (h : f ∈ ((l.post now ms).get p).tx.drop (l.get p).tx.length) : ∃ m ∈ ms, f = .notice m.notice := by
  unfold Links.post at h
  induction ms generalizing l with
  | nil => simp at h
  | cons m ms ih =>
    rcases PortRecord.joined_cases (l.raise_onlyNotices now m p) (Links.post_onlyNotices now ms _ p) h with hj | hj
    · exact ⟨m, List.mem_cons_self, Links.raise_joined hj⟩
    · obtain ⟨m', hm, hf⟩ := ih hj
      exact ⟨m', .tail _ hm, hf⟩

/-- A notice told in a first stretch that does not tell the second one stands before it. -/
theorem ToldBefore.of_stages {q : Port} {a b : Notice} {s u t : State} (hs : KeepsLinks s u) (ht : KeepsLinks u t)
    (ha : Told q a s u) (hb : Told q b s t)
    (hn : ∀ f ∈ (u.links.get q).tx.drop (s.links.get q).tx.length, f ≠ .notice b) : ToldBefore q a b s t := by
  refine ⟨hb, ?_⟩
  obtain ⟨-, -, -, -, -, -, ⟨ns, hns, -⟩, -⟩ := (PortRecord.onlyNotices_iff _ _).mp (hs q)
  obtain ⟨-, -, -, -, -, -, ⟨ms, hms, -⟩, -⟩ := (PortRecord.onlyNotices_iff _ _).mp (ht q)
  unfold Told at ha
  rw [hns, List.drop_left] at ha hn
  rw [hms, hns, List.append_assoc, List.drop_left, List.takeWhile_append_of_pos fun f hf => by simpa using hn f hf]
  exact List.mem_append_left _ ha

/-- The reply stands before the notices of its request and does not change their order. -/
theorem ToldBefore.finishRequest {p q : Port} {kind : Byte} {x : Answer} {a b : Notice} {s u : State}
    (hl : KeepsLinks s u) (h : ToldBefore q a b s u) :
    ToldBefore q a b s (finishRequest p kind (s.links.get p).tx.length (u, x)) := by
  obtain ⟨ns, hns, ht⟩ := finishRequest_tx p kind x hl q
  obtain ⟨h1, h2⟩ := h
  unfold ToldBefore Told at *
  rw [hns, List.drop_left] at h1 h2
  rw [ht, List.drop_left]
  split
  · exact ⟨.tail _ h1, by simpa [List.takeWhile_cons] using h2⟩
  · exact ⟨h1, h2⟩

/-! ## The notices of an evacuation (R36, R58, R59) -/

/-- The FIRE CONDITION notice of an evacuation. -/
def evacuationNotice (cause : FireCause) (s t : State) : Notice :=
  .fireCondition ⟨.evacuate, s.fire.condition, cause, s.clock, t.fire.alarmList.length, t.fire.alarmList.head?, none, true⟩

theorem fireMail_evacuation (cause : FireCause) (s : State) :
    fireMail (conditionRecorded .evacuate cause s).fire s.fire.condition cause =
      ⟨[.prompt, .house, .console], evacuationNotice cause s (changeCondition .evacuate cause s)⟩ := by
  unfold fireMail evacuationNotice
  rw [changeCondition_fire]
  generalize hf : (conditionRecorded .evacuate cause s).fire = f
  have hr := evacuation_record cause s
  rw [hf] at hr
  have h1 : f.condition = .evacuate := by rw [hr]
  have h2 : f.enteredAt = s.clock := by rw [hr]
  have h3 : f.investigation = none := by rw [hr]
  have h4 : f.demand = true := by rw [hr]
  rw [h1, h2, h3, h4]

/-- What follows the record and the promotion raises notices alone. -/
theorem keepsLinks_recorded_changed (cause : FireCause) (s : State) :
    KeepsLinks (conditionRecorded .evacuate cause s) (changeCondition .evacuate cause s) := by
  rw [changeCondition_evacuate]
  exact ((((quietly_post _ _).trans (quietly_afterFireMail cause s)).trans (quietly_onCalls _ _)).trans
    (quietly_stopShow _)).2

/-- Both desks and the console are told of the evacuation (R59). -/
theorem evacuation_tellsCondition (cause : FireCause) (s : State) {q : Port} (hq : q ≠ .panel) :
    Reaches q (evacuationNotice cause s (changeCondition .evacuate cause s)) s (changeCondition .evacuate cause s) := by
  have hc := quietly_conditionRecorded .evacuate cause s
  have hp := quietly_post [fireMail (conditionRecorded .evacuate cause s).fire s.fire.condition cause]
    (conditionRecorded .evacuate cause s)
  have hr := reaches_post_one (conditionRecorded .evacuate cause s) (p := q) [.prompt, .house, .console]
    (evacuationNotice cause s (changeCondition .evacuate cause s)) (by cases q <;> simp at hq ⊢)
  rw [← fireMail_evacuation] at hr
  refine (hr.after hc.2 hp.2).then (hc.trans hp).2 ?_
  rw [changeCondition_evacuate]
  exact (((quietly_afterFireMail cause s).trans (quietly_onCalls _ _)).trans (quietly_stopShow _)).2

/-- The ZONE CHANGE notice of a zone that a promotion brings into ALARM (R33, R36). -/
def promotionNotice (y : ZoneId) (s t : State) : Notice :=
  .zoneChange ⟨y, .delayed, .alarm, .active, .promotion, s.fire.zones[y].cls, s.fire.zones[y].area,
    s.fire.zones[y].suppressed, some s.clock, none, t.fire.alarmList.head? == some y⟩

/-- With show mode on the completion of the record raises the ZONE CHANGE notices of the promotion, and no other. -/
theorem conditionRecorded_links {cause : FireCause} {s : State} (hm : s.house.showMode = true) :
    (conditionRecorded .evacuate cause s).links = s.links.post s.clock
      (promotionMails (s.fire.withCondition s.clock s.params.investigation .evacuate cause)
        (conditionRecorded .evacuate cause s).fire) := by
  have h : conditionRecorded .evacuate cause s =
      promoteInEvacuate { s with fire := s.fire.withCondition s.clock s.params.investigation .evacuate cause } :=
    if_pos ⟨rfl, hm⟩
  rw [h]
  rfl

theorem zoneMail_promoted {cause : FireCause} {s : State} {y : ZoneId} (hm : s.house.showMode = true)
    (hd : s.fire.zones[y].state = .delayed) (hi : s.fire.zones[y].input = .active) :
    (zoneMail (conditionRecorded .evacuate cause s).fire .delayed .promotion y).notice =
      promotionNotice y s (changeCondition .evacuate cause s) := by
  have hz : (conditionRecorded .evacuate cause s).fire.zones[y] = s.fire.zones[y].alarmed s.clock := by
    rw [← changeCondition_fire, (evacuation_promotes hm).1, promoteZones_zones,
      if_neg (by simp [-Fin.getElem_fin, hi]), if_pos ⟨hd, hi⟩]
  unfold zoneMail promotionNotice
  rw [hz, changeCondition_fire]
  simp [-Fin.getElem_fin, Zone.alarmed, Zone.flagged, hi]

/-- At a desk the promoted zones are told before the condition (R59). -/
theorem evacuation_tellsZonesFirst {cause : FireCause} {s : State} {q : Port} {y : ZoneId}
    (hq : q = .prompt ∨ q = .house) (hp : (s.links.get q).present = true)
    (ho : ((changeCondition .evacuate cause s).links.get q).overrun = none) (hm : s.house.showMode = true)
    (hd : s.fire.zones[y].state = .delayed) (hi : s.fire.zones[y].input = .active) :
    ToldBefore q (promotionNotice y s (changeCondition .evacuate cause s))
      (evacuationNotice cause s (changeCondition .evacuate cause s)) s (changeCondition .evacuate cause s) := by
  have hc := (quietly_conditionRecorded .evacuate cause s).2
  have hk := keepsLinks_recorded_changed cause s
  have hl := conditionRecorded_links (cause := cause) hm
  refine ToldBefore.of_stages hc hk ?_ (evacuation_tellsCondition cause s (by rcases hq with rfl | rfl <;> decide) hp ho) ?_
  · rw [← zoneMail_promoted hm hd hi]
    refine Reaches.of_post hl (List.mem_map_of_mem (List.mem_append_left _ ?_)) ?_ hp
      (PortRecord.overrun_none_of_onlyNotices (hk q) ho)
    · exact mem_delayedWith.mpr ⟨hd, hi⟩
    · unfold zoneMail
      rcases hq with rfl | rfl <;> dsimp only <;> split <;> decide
  · intro f hf
    rw [hl] at hf
    obtain ⟨m, hmem, rfl⟩ := Links.post_joined hf
    obtain ⟨z, -, rfl⟩ := List.mem_map.mp hmem
    exact fun he => nomatch he

/-! ## What an evacuation makes of every block -/

theorem evacuated_eq (h : House) : h.evacuated = { h with
    phase := if h.phase = .houseOpen ∨ h.phase = .act ∨ h.phase = .interval then .stopped else h.phase
    stop := if h.phase = .houseOpen ∨ h.phase = .act ∨ h.phase = .interval then some ⟨h.phase, .fire⟩
      else if h.phase = .stopped then h.stop.map fun r => ⟨r.origin, .fire⟩ else h.stop
    showMode := false } := by
  unfold House.evacuated House.stopped
  cases hp : h.phase <;> simp [Phase.stoppable]

/-- The condition record that an evacuation writes (R46, R57). -/
theorem evacuation_fire (cause : FireCause) (s : State) :
    (changeCondition .evacuate cause s).fire.condition = .evacuate ∧
      (changeCondition .evacuate cause s).fire.previous = some s.fire.condition ∧
      (changeCondition .evacuate cause s).fire.cause = some cause ∧
      (changeCondition .evacuate cause s).fire.enteredAt = s.clock ∧
      (changeCondition .evacuate cause s).fire.investigation = none ∧
      (changeCondition .evacuate cause s).fire.demand = true := by
  rw [changeCondition_fire]
  have hr := evacuation_record cause s
  generalize (conditionRecorded .evacuate cause s).fire = f at hr
  rw [hr]
  exact ⟨rfl, rfl, rfl, rfl, rfl, rfl⟩

/-- The curtain under the demand of an evacuation (R67). -/
theorem evacuation_curtain (cause : FireCause) (s : State) :
    (changeCondition .evacuate cause s).curtain.fireDemand = true ∧
      (s.curtain.fireDemand = false → (changeCondition .evacuate cause s).curtain.state.heldOut = false) := by
  have hs : (conditionRecorded .evacuate cause s).curtain = s.curtain := by rw [conditionRecorded_others]
  rw [changeCondition_evacuate, (stopShow_others _).2.2, ← hs]
  exact curtainFireHandoff_evacuate _ ⟨(conditionRecorded .evacuate cause s).curtain, []⟩

/-- The lights under the house, with the override on (R118, R122). -/
theorem evacuation_lights (cause : FireCause) (s : State) :
    (changeCondition .evacuate cause s).lights.fireSeen = .evacuate ∧
      (changeCondition .evacuate cause s).lights.authority = .house ∧
      (changeCondition .evacuate cause s).lights.override = true := by
  obtain ⟨l1, l2⟩ := stopShow_lights ((beforeArbiter cause s).onCalls (arbiterFireHandoff .evacuate))
  obtain ⟨le, w, hb⟩ : ∃ le w, (beforeArbiter cause s).lights = (lightsFireHandoff .evacuate le w).val := ⟨_, _, rfl⟩
  obtain ⟨f1, f2⟩ := lightsFireHandoff_evacuate le w
  rw [State.onCalls_lights, hb] at l1 l2
  rw [changeCondition_evacuate]
  exact ⟨l1.trans f1, l2 f2, by unfold Lights.override; rw [l1.trans f1]; exact Bool.or_true _⟩

/-- Both units have seen EVACUATE and the evacuation call runs (R156, R162). -/
theorem evacuation_callsSeen (cause : FireCause) (s : State) :
    (changeCondition .evacuate cause s).calls.fireSeen = .evacuate ∧
      (changeCondition .evacuate cause s).calls.arbiterFire = .evacuate ∧
      (changeCondition .evacuate cause s).calls.evacuation ≠ .notRunning := by
  obtain ⟨p, hp⟩ := evacuation_calls cause s
  have hs := evacuationFound_scene (beforeArbiter cause s).callEnv s.calls
  rw [hp]
  generalize evacuationFound (beforeArbiter cause s).callEnv s.calls = v at hs ⊢
  obtain ⟨k1, k2, -, k3⟩ := hs
  exact ⟨k1, k2, k3⟩

/-- A change to EVACUATE evacuates the house (R57). -/
theorem changeCondition_evacuated (cause : FireCause) (s : State) :
    Evacuated cause s (changeCondition .evacuate cause s) := by
  obtain ⟨f1, f2, f3, f4, f5, f6⟩ := evacuation_fire cause s
  obtain ⟨c1, c2⟩ := evacuation_curtain cause s
  obtain ⟨l1, l2, l3⟩ := evacuation_lights cause s
  obtain ⟨k1, k2, k3⟩ := evacuation_callsSeen cause s
  have hh := ((changeCondition_house .evacuate cause s).trans (if_pos rfl)).trans (evacuated_eq s.house)
  exact ⟨f1, f2, f3, f4, f5, f6, c1, c2, l1, l2, l3, k1, k2, k3, hh, (quietly_changeCondition .evacuate cause s).1⟩

theorem Evacuated.relink {cause : FireCause} {s u t : State} (h : Evacuated cause s u)
    (ht : t = { u with links := t.links }) : Evacuated cause s t := by
  rw [ht]; exact h

end Sys2Proof.Machine
end

section
/-! The three ways to evacuate the house, and what the desks and the calls make of them (R14, R50 to R59, R162, R163). -/
namespace Sys2Proof.Machine

/-- A request to evacuate, taken outside EVACUATE, is the change of condition with its reply. -/
theorem takeRequest_evacuates {p : Port} {i : Instr} {cause : FireCause} {s : State}
    (ht : takeable p (requestFrame i) s = true) (hk : kindKnown (requestFrame i).kind = true)
    (hp : permitted p (requestFrame i).kind = true) (hs : shapeOk i = true) (hc : s.fire.condition ≠ .evacuate) :
    ∃ t, takeRequest p i (evacuateBlock cause) s = .next t ∧
      AnsweredWith p (requestFrame i).kind (done (.condition .evacuate)) s t ∧
      t = { changeCondition .evacuate cause s with links := t.links } ∧
      (∀ q n, Reaches q n s (changeCondition .evacuate cause s) → Reaches q n s t) ∧
      ∀ q, (t.links.get q).overrun = ((changeCondition .evacuate cause s).links.get q).overrun ∧
        ∀ a b, ToldBefore q a b s (changeCondition .evacuate cause s) → ToldBefore q a b s t := by
  have hb : evacuateBlock cause s = (changeCondition .evacuate cause s, done (.condition .evacuate)) := if_neg hc
  have hl := (quietly_changeCondition .evacuate cause s).2
  refine ⟨_, takeRequest_block ht hk hp hs, ?_, ?_, fun q n h => ?_, fun q => ⟨?_, fun a b h => ?_⟩⟩
  · rw [hb]; exact finishRequest_answered p _ _ hl
  · rw [hb]; rfl
  · rw [hb]; exact h.finishRequest hl
  · rw [hb, finishRequest_overrun]
  · rw [hb]; exact h.finishRequest hl

/-- What an evacuation makes of the calls, where their collections are lawful (R162). -/
theorem evacuation_callsStart {cause : FireCause} {s : State} (h : s.calls.lawful) (ha : s.calls.chanA.state = .idle)
    (hz : ∃ z : Fin 12, s.calls.paging[z].evac = true) :
    (changeCondition .evacuate cause s).calls.evacuation = .onChannel .a ∧
      (changeCondition .evacuate cause s).calls.chanA.state = .starting ∧
      (changeCondition .evacuate cause s).calls.chanA.call = some 0 ∧
      (changeCondition .evacuate cause s).calls.chanA.live = s.calls.evacZones ∧
      ∀ z : Fin 12, (changeCondition .evacuate cause s).calls.paging[z].conn =
        if s.calls.paging[z].evac = true then some .a else none := by
  obtain ⟨p, hp⟩ := evacuation_calls cause s
  have hs := evacuationFound_starts (e := (beforeArbiter cause s).callEnv) h ha hz
  rw [hp]
  generalize evacuationFound (beforeArbiter cause s).callEnv s.calls = v at hs ⊢
  exact hs

/-- A running staff alert has finished PRE_EMPTED (R161). -/
theorem evacuation_endsStaffAlert {cause : FireCause} {s : State} (h : s.calls.lawful)
    (hr : s.calls.staffAlert ≠ .notRunning) :
    (changeCondition .evacuate cause s).calls.staffAlert = .notRunning ∧
      (changeCondition .evacuate cause s).calls.table[(1 : CallId)].life = .finished ∧
      (changeCondition .evacuate cause s).calls.table[(1 : CallId)].outcome = some .preEmpted := by
  obtain ⟨p, hp⟩ := evacuation_calls cause s
  obtain ⟨h1, h2, h3⟩ := evacuationSearch_staffAlert (e := (beforeArbiter cause s).callEnv) h hr
  have ht := (evacuationFound_spares (beforeArbiter cause s).callEnv s.calls).table_eq (x := 1) (by decide) h3
  have hs := evacuationFound_scene (beforeArbiter cause s).callEnv s.calls
  rw [← ht] at h1 h2
  rw [hp]
  generalize evacuationFound (beforeArbiter cause s).callEnv s.calls = v at hs h1 h2 ⊢
  exact ⟨hs.2.2.1, h1, h2⟩

/-- A general call on a channel has finished PRE_EMPTED (R162). -/
theorem evacuation_preEmpts {cause : FireCause} {s : State} (h : s.calls.lawful) {ch : Channel} {x : CallId}
    (hx : 2 ≤ x.val) (hc : (s.calls.chan ch).call = some x) :
    (changeCondition .evacuate cause s).calls.finishedAs x s.calls.table[x].creator .preEmpted s.clock := by
  obtain ⟨p, hp⟩ := evacuation_calls cause s
  have he := (evacuationFound_spares (beforeArbiter cause s).callEnv s.calls).ended x _ _ _
    (fun h0 => by rw [h0] at hx; exact absurd hx (by decide))
    (evacuationSearch_preEmpts (e := (beforeArbiter cause s).callEnv) h hx hc)
  rw [beforeArbiter_now] at he
  rw [hp]
  generalize evacuationFound (beforeArbiter cause s).callEnv s.calls = v at he ⊢
  exact (Calls.ended_congr he (c' := { v.val with phaseSeen := p }) rfl
    (by cases s.calls.table[x].creator <;> rfl)).finishedAs

/-- With both channels FAULTED or no evacuation zone the desks are told that nothing announces (R163). -/
theorem evacuation_tellsUnannounced {cause : FireCause} {s : State} (h : s.calls.lawful) {q : Port}
    (hq : q = .prompt ∨ q = .house)
    (hn : s.calls.chanA.state = .faulted ∧ s.calls.chanB.state = .faulted ∨
      ∀ z : Fin 12, s.calls.paging[z].evac = false) :
    Reaches q (.evacuationUnannounced (changeCondition .evacuate cause s).calls.chanA.fault
      (changeCondition .evacuate cause s).calls.chanB.fault
      ((List.finRange 12).filter fun z => s.calls.paging[z].evac).length) s (changeCondition .evacuate cause s) := by
  obtain ⟨p, hp⟩ := evacuation_calls cause s
  have hm := evacuationFound_unannounced (e := (beforeArbiter cause s).callEnv) h hn
  have hr := evacuation_tells (cause := cause) (s := s) (q := q) (by simpa using hq) hm
  rw [hp]
  generalize evacuationFound (beforeArbiter cause s).callEnv s.calls = v at hr ⊢
  exact hr

/-- Settles O18: each way to evacuate is one change of condition; then its zones and notices, and the calls, part by
part. -/
theorem evacuationIsHandedToEveryBlock : Obligations.EvacuationIsHandedToEveryBlock := by
  refine ⟨fun s => ⟨fun ht hc => ?_, fun ht hc => ?_, fun hi hc hv => ?_, fun ht hc => ?_⟩, fun s ht hc => ?_,
    fun s ht hc => ?_⟩
  · obtain ⟨t, hx, ha, hu, -⟩ := takeRequest_evacuates (i := .evacuateNow .house) (cause := .houseDesk) ht (by decide)
      (by decide) rfl hc
    exact ⟨t, hx, ha, (changeCondition_evacuated .houseDesk s).relink hu⟩
  · obtain ⟨t, hx, ha, hu, -⟩ := takeRequest_evacuates (i := .panelEvacuate .panel) (cause := .firePanel) ht (by decide)
      (by decide) rfl hc
    exact ⟨t, hx, ha, (changeCondition_evacuated .firePanel s).relink hu⟩
  · exact ⟨_, if_pos (by rw [hi, hc, hv]; rfl), (quietly_changeCondition _ _ s).2, changeCondition_evacuated _ s⟩
  · exact takeRequest_unchanged (i := .evacuateNow .house) ht (by decide) (by decide) rfl (if_pos hc)
  · obtain ⟨t, hx, -, hu, hr, hb⟩ := takeRequest_evacuates (i := .evacuateNow .house) (cause := .houseDesk) ht
      (by decide) (by decide) rfl hc
    have hf : t.fire = (changeCondition .evacuate .houseDesk s).fire := by rw [hu]
    refine ⟨t, hx, fun h => ?_, fun hm => ?_, ?_⟩
    · rw [hf]; exact evacuation_keepsZones h
    · obtain ⟨hz, hl⟩ := evacuation_promotes (cause := .houseDesk) hm
      rw [← hf] at hz hl
      exact ⟨hl, promoted_of_zones hz⟩
    · rintro n rfl
      rw [hf]
      exact ⟨fun q hq => hr q _ (evacuation_tellsCondition .houseDesk s hq), fun q y hq hp hov hm hd hi =>
        (hb q).2 _ _ (evacuation_tellsZonesFirst hq hp ((hb q).1.symm.trans hov) hm hd hi)⟩
  · obtain ⟨t, hx, -, hu, hr, -⟩ := takeRequest_evacuates (i := .evacuateNow .house) (cause := .houseDesk) ht
      (by decide) (by decide) rfl hc
    have hcalls : t.calls = (changeCondition .evacuate .houseDesk s).calls := by rw [hu]
    refine ⟨t, hx, fun h ha hz => ?_, fun h hs => ?_, fun h ch x hx' hc' => ?_, fun q hq h hn => ?_⟩ <;> rw [hcalls]
    · exact evacuation_callsStart h ha hz
    · exact evacuation_endsStaffAlert h hs
    · exact evacuation_preEmpts h hx' hc'
    · exact hr q _ (evacuation_tellsUnannounced h hq hn)

end Sys2Proof.Machine
end

section
/-! SUPPORT. An event at the zones as a whole (R29, R33, R36, R47): one that brings no zone into ALARM writes the zone
table and raises its notice; one that does is a batch, and the ladder climbed from it moves no zone further. -/
namespace Sys2Proof.Machine

/-! ## An event that brings no zone into ALARM -/

/-- An event at which no zone enters ALARM leaves the fire record that it writes and the notices that it raises. -/
theorem zoneEvent_of_write {g : ZoneEvent} {s : State} {f : Fire} {ms : List Mail}
    (h : g s.fireEnv ⟨s.fire, []⟩ = (⟨f, ms⟩, [])) :
    zoneEvent g s = { s with fire := f, links := s.links.post s.clock ms } := by
  simp only [zoneEvent, State.onZones, h, List.isEmpty_nil, if_true]

theorem zoneEvent_keepsOtherBlocks {g : ZoneEvent} {s : State} {f : Fire} {ms : List Mail}
    (h : g s.fireEnv ⟨s.fire, []⟩ = (⟨f, ms⟩, [])) :
    (zoneEvent g s).fire = f ∧ KeepsOtherBlocks s (zoneEvent g s) := by
  rw [zoneEvent_of_write h]
  exact ⟨rfl, .refl s, rfl, rfl, rfl, rfl⟩

/-- A notice among those of such an event reaches the ports to which it is routed. -/
theorem zoneEvent_tells {g : ZoneEvent} {s : State} {f : Fire} {ms : List Mail} {m : Mail} {p : Port}
    (h : g s.fireEnv ⟨s.fire, []⟩ = (⟨f, ms⟩, [])) (hm : m ∈ ms) (hp : p ∈ m.ports) :
    Reaches p m.notice s (zoneEvent g s) := by
  rw [zoneEvent_of_write h]
  exact Reaches.of_post rfl hm hp

theorem KeepsOtherBlocks.relink {s u t : State} (h : KeepsOtherBlocks s u) (ht : t = { u with links := t.links }) :
    KeepsOtherBlocks s t := by
  rw [ht]; exact h

/-! ## Promotion and the ladder after a promotion (R33, R47, R58) -/

theorem promoteZones_settled {now : Nat} {f : Fire} (ha : f.delayedWith .active = [])
    (hf : f.delayedWith .faulty = []) : promoteZones now f = f := by
  simp [promoteZones, ha, hf]

/-- A promotion leaves no zone DELAYED on ACTIVE or on FAULTY. -/
theorem promoteZones_delayedWith (now : Nat) (f : Fire) {r : Reading} (hr : r ≠ .quiet) :
    (promoteZones now f).delayedWith r = [] := by
  refine List.eq_nil_iff_forall_not_mem.mpr fun y hy => ?_
  obtain ⟨hs, hi⟩ := mem_delayedWith.mp hy
  rw [promoteZones_zones] at hs hi
  split_ifs at hs hi with h1 h2
  · simp [Zone.faulted] at hs
  · simp [Zone.alarmed] at hs
  · cases r with
    | quiet => exact hr rfl
    | active => exact h2 ⟨hs, hi⟩
    | faulty => exact h1 ⟨hs, hi⟩

/-- A climb that finds no zone to promote leaves the zones and the list. -/
theorem climbLadder_settled {entering : List ZoneId} {s : State} (ha : s.fire.delayedWith .active = [])
    (hf : s.fire.delayedWith .faulty = []) :
    (climbLadder entering s).fire.zones = s.fire.zones ∧
      (climbLadder entering s).fire.alarmList = s.fire.alarmList := by
  have changed (new : Condition) (cause : FireCause) : (changeCondition new cause s).fire.zones = s.fire.zones ∧
      (changeCondition new cause s).fire.alarmList = s.fire.alarmList := by
    rw [changeCondition_fire, conditionRecorded_fire]
    split
    · rw [promoteZones_settled (f := s.fire.withCondition s.clock s.params.investigation new cause) ha hf]
      exact ⟨rfl, rfl⟩
    · exact ⟨rfl, rfl⟩
  rcases climbLadder_cases entering s with ⟨-, k⟩ | ⟨-, cause, k⟩ | ⟨-, -, -, -, k⟩ <;> rw [k]
  · rw [evaluateDemand_fire]; exact ⟨rfl, rfl⟩
  · exact changed _ _
  · exact changed _ _

/-! ## A batch (R29, R33, R36, R47) -/

/-- The zones that a zone entering ALARM takes with it: those DELAYED on ACTIVE beside it. -/
theorem delayedWith_enterAlarm (now : Nat) (f : Fire) (z : ZoneId) :
    (enterAlarm now f z).delayedWith .active = (f.delayedWith .active).filter (· ≠ z) := by
  unfold Fire.delayedWith
  rw [List.filter_filter]
  refine List.filter_congr fun y _ => ?_
  rw [enterAlarm_zones]
  by_cases h : y = z <;> simp [-Fin.getElem_fin, h, Zone.alarmed]

/-- An event at which a zone enters ALARM, seen as a whole: the batch, with the climb of the ladder from it. -/
theorem zoneEvent_batch {g : ZoneEvent} {s : State} {f : Fire} {z : ZoneId} {previous : ZoneState} {cause : ZoneCause}
    {out : List Mail} (h : g s.fireEnv ⟨s.fire, []⟩ = alarmBatch s.clock z previous cause ⟨f, out⟩) :
    (s.onZones g).1.fire = promoteZones s.clock (enterAlarm s.clock f z) ∧
      zoneEvent g s = climbLadder (z :: (f.delayedWith .active).filter (· ≠ z)) (s.onZones g).1 := by
  have he : (s.onZones g).2 = z :: (f.delayedWith .active).filter (· ≠ z) := by
    simp only [State.onZones, h, alarmBatch, delayedWith_enterAlarm]
  refine ⟨by rw [State.onZones_fire, h]; rfl, ?_⟩
  rcases zoneEvent_cases g s with ⟨hn, -⟩ | ⟨-, k⟩
  · rw [he] at hn; cases hn
  · rw [k, he]

/-- What a batch leaves of the zones and the list (R33, R36): the ladder moves them no further. -/
theorem zoneEvent_batch_zones {g : ZoneEvent} {s : State} {f : Fire} {z : ZoneId} {previous : ZoneState}
    {cause : ZoneCause} {out : List Mail}
    (h : g s.fireEnv ⟨s.fire, []⟩ = alarmBatch s.clock z previous cause ⟨f, out⟩) :
    (zoneEvent g s).fire.zones = (promoteZones s.clock (enterAlarm s.clock f z)).zones ∧
      (zoneEvent g s).fire.alarmList = f.alarmList ++ z :: (f.delayedWith .active).filter (· ≠ z) ∧
      (zoneEvent g s).fire.condition ≠ .quiet := by
  obtain ⟨hf, hc⟩ := zoneEvent_batch h
  rw [hc]
  obtain ⟨hz, hl⟩ := climbLadder_settled (entering := z :: (f.delayedWith .active).filter (· ≠ z))
    (by rw [hf]; exact promoteZones_delayedWith _ _ (by decide))
    (by rw [hf]; exact promoteZones_delayedWith _ _ (by decide))
  refine ⟨by rw [hz, hf], ?_, climbLadder_condition _ _⟩
  rw [hl, hf, promoteZones_alarmList, delayedWith_enterAlarm, enterAlarm_alarmList, List.append_assoc]
  rfl

/-- The zone of a batch is in ALARM from now. -/
theorem zoneEvent_batch_self {g : ZoneEvent} {s : State} {f : Fire} {z : ZoneId} {previous : ZoneState}
    {cause : ZoneCause} {out : List Mail}
    (h : g s.fireEnv ⟨s.fire, []⟩ = alarmBatch s.clock z previous cause ⟨f, out⟩) :
    (zoneEvent g s).fire.zones[z] = f.zones[z].alarmed s.clock := by
  rw [(zoneEvent_batch_zones h).1, promoteZones_of_not_delayed] <;>
    simp [-Fin.getElem_fin, Zone.alarmed]

/-- A batch at one zone whose record alone has been written before: every other DELAYED zone is promoted with it. -/
theorem zoneEvent_batch_promotes {g : ZoneEvent} {s : State} {q : Zone} {z : ZoneId} {previous : ZoneState}
    {cause : ZoneCause} {out : List Mail}
    (h : g s.fireEnv ⟨s.fire, []⟩ = alarmBatch s.clock z previous cause ⟨s.fire.setZone z q, out⟩) :
    Batch z s (zoneEvent g s) := by
  obtain ⟨hz, hl, -⟩ := zoneEvent_batch_zones h
  have alone : ((s.fire.setZone z q).delayedWith .active).filter (· ≠ z) = s.alarming.filter (· ≠ z) := by
    unfold Fire.delayedWith State.alarming
    rw [List.filter_filter, List.filter_filter]
    refine List.filter_congr fun y _ => ?_
    rw [Fire.setZone_zones]
    by_cases hy : y = z <;> simp [hy]
  refine ⟨by rw [hl, alone]; rfl, fun y hy hd => ?_⟩
  unfold Promoted
  rw [hz, promoteZones_zones, enterAlarm_zones, if_neg hy, Fire.setZone_zones, if_neg hy]
  refine ⟨fun hi => ?_, fun hi => ?_⟩
  · rw [if_neg (by simp [-Fin.getElem_fin, hi]), if_pos ⟨hd, hi⟩]; rfl
  · rw [if_pos ⟨hd, hi⟩]; rfl

/-- From QUIET a batch of DETECTORs that makes the list two or longer evacuates the house with COINCIDENT_ALARMS
(R47). -/
theorem climb_coincident {f : Fire} {entering : List ZoneId} (hq : f.condition = .quiet)
    (hd : ∀ y ∈ entering, f.zones[y].cls = .detector) (hn : 2 ≤ f.alarmList.length) :
    f.climb entering = some (.evacuate, .coincidentAlarms) := by
  have none_of {c : ZoneClass} (hc : c ≠ .detector) : f.hasClass entering c = false := by
    simp only [Fire.hasClass, List.any_eq_false, beq_iff_eq]
    exact fun y hy e => hc (e.symm.trans (hd y hy))
  simp [Fire.climb, hq, none_of, hn]

/-- An evacuation from the state that an event at the zones has left is one from the state before it. -/
theorem Evacuated.before_zones {cause : FireCause} {g : ZoneEvent} {s t : State}
    (h : Evacuated cause (s.onZones g).1 t) (hc : (s.onZones g).1.fire.condition = s.fire.condition) :
    Evacuated cause s t := by
  unfold Evacuated at h ⊢
  rw [hc] at h
  exact h

/-- A batch of two or more DETECTORs onto an empty list evacuates the house from QUIET (R47). -/
theorem zoneEvent_batch_coincident {g : ZoneEvent} {s : State} {q : Zone} {z : ZoneId} {previous : ZoneState}
    {cause : ZoneCause} {out : List Mail}
    (h : g s.fireEnv ⟨s.fire, []⟩ = alarmBatch s.clock z previous cause ⟨s.fire.setZone z q, out⟩)
    (hq : s.fire.condition = .quiet) (hne : s.alarming.filter (· ≠ z) ≠ []) (hz : q.cls = .detector)
    (hd : ∀ y ∈ s.alarming, s.fire.zones[y].cls = .detector) : Evacuated .coincidentAlarms s (zoneEvent g s) := by
  obtain ⟨hl, -⟩ := zoneEvent_batch_promotes h
  obtain ⟨hf, hc⟩ := zoneEvent_batch h
  have hcond : (s.onZones g).1.fire.condition = s.fire.condition := by rw [hf, promoteZones_condition]; rfl
  have hlist : (s.onZones g).1.fire.alarmList = s.fire.alarmList ++ z :: s.alarming.filter (· ≠ z) := by
    rw [← hl, (zoneEvent_batch_zones h).2.1, hf, promoteZones_alarmList, delayedWith_enterAlarm, enterAlarm_alarmList,
      List.append_assoc]
    rfl
  have hcls : ∀ y ∈ z :: ((s.fire.setZone z q).delayedWith .active).filter (· ≠ z),
      (s.onZones g).1.fire.zones[y].cls = .detector := by
    intro y hy
    rw [hf, promoteZones_cls, enterAlarm_zones]
    by_cases e : y = z
    · rw [if_pos e, Fire.setZone_zones, if_pos rfl]; exact hz
    · simp only [List.mem_cons, e, false_or, List.mem_filter, mem_delayedWith, Fire.setZone_zones, if_false] at hy
      rw [if_neg e, Fire.setZone_zones, if_neg e]
      exact hd y (mem_delayedWith.mpr hy.1)
  have two : 2 ≤ (s.onZones g).1.fire.alarmList.length := by
    have := List.length_pos_iff.mpr hne
    rw [hlist, List.length_append, List.length_cons]
    omega
  rw [hc]
  unfold climbLadder
  rw [climb_coincident (hcond.trans hq) hcls two]
  exact (changeCondition_evacuated .coincidentAlarms _).before_zones hcond

end Sys2Proof.Machine
end

section
/-! SUPPORT. What an arrival, an expired delay and the end of an isolation write, by the state of the zone (R29 to R32,
R34, R37 to R39). -/
namespace Sys2Proof.Machine

/-! ## One zone written -/

theorem Fire.setZone_self (z : ZoneId) (f : Fire) : f.setZone z f.zones[z] = f := by
  simp [Fire.setZone]

theorem enterFault_setZone (z : ZoneId) (q : Zone) (f : Fire) :
    enterFault (f.setZone z q) z = f.setZone z q.faulted := by
  rw [enterFault, Fire.setZone_zones, if_pos rfl, Fire.setZone_setZone]; rfl

theorem enterDelayed_setZone (delay : Nat) (z : ZoneId) (q : Zone) (f : Fire) :
    enterDelayed delay (f.setZone z q) z = f.setZone z (q.delayedFor delay) := by
  rw [enterDelayed, Fire.setZone_zones, if_pos rfl, Fire.setZone_setZone]; rfl

/-! ## An ACTIVE input outside ALARM (R29) -/

theorem delayConditions_iff (e : FireEnv) (z : ZoneId) (f : Fire) :
    delayConditions e z f = true ↔ z.val < 8 ∧ f.zones[z].cls = .detector ∧ f.zones[z].delayEligible = true ∧
      e.showMode = true ∧ f.alarmList = [] ∧ 0 < e.showDelay := by
  simp [-Fin.getElem_fin, delayConditions, isLocal, and_assoc]

/-- The delay conditions look at the class and the delay flag of the zone alone. -/
theorem delayConditions_setZone {e : FireEnv} {z : ZoneId} {q : Zone} {f : Fire} (hc : q.cls = f.zones[z].cls)
    (hd : q.delayEligible = f.zones[z].delayEligible) :
    delayConditions e z (f.setZone z q) = delayConditions e z f := by
  unfold delayConditions
  rw [Fire.setZone_zones, if_pos rfl, hc, hd]
  rfl

theorem activeArrival_delays {e : FireEnv} {z : ZoneId} {q : Zone} {f : Fire} {previous : ZoneState}
    {cause : ZoneCause} {out : List Mail} (h : delayConditions e z (f.setZone z q) = true) :
    ∃ ms, activeArrival e z previous cause ⟨f.setZone z q, out⟩ =
      (⟨f.setZone z (q.delayedFor e.showDelay), ms⟩, []) := by
  unfold activeArrival
  rw [if_pos h, changeZone, enterDelayed_setZone]
  exact ⟨_, rfl⟩

theorem activeArrival_alarms {e : FireEnv} {z : ZoneId} {w : Act Fire} {previous : ZoneState} {cause : ZoneCause}
    (h : delayConditions e z w.val = false) :
    activeArrival e z previous cause w = alarmBatch e.now z previous cause w :=
  if_neg (by simp [h])

/-! ## Arrivals (R29, R30, R31, R34, R38) -/

theorem zoneArrival_active {z : ZoneId} {f : Fire} (hs : f.zones[z].state = .normal ∨ f.zones[z].state = .fault)
    (e : FireEnv) :
    zoneArrival z .active e ⟨f, []⟩ =
      activeArrival e z f.zones[z].state .input ⟨f.setZone z { f.zones[z] with input := .active }, []⟩ := by
  have hz : (f.setZone z { f.zones[z] with input := .active }).zones[z] = { f.zones[z] with input := .active } := by
    rw [Fire.setZone_zones, if_pos rfl]
  unfold zoneArrival
  simp only [Act.map, recordInput, hz]
  rcases hs with hs | hs <;> rw [hs]

/-- A zone record after an arrival that starts no delay and raises no alarm. -/
def Zone.arrived (r : Reading) (x : Zone) : Zone :=
  match x.state, r with
  | .normal, .faulty => { x with input := r }.faulted
  | .fault, .quiet => { x with input := r, state := .normal }
  | .delayed, .quiet => { x with input := r }.cleared
  | .isolated, .active => { x with input := r, activeWhileIsolated := true }
  | _, _ => { x with input := r }

theorem Zone.arrived_normal_faulty {x : Zone} (h : x.state = .normal) :
    x.arrived .faulty = { x with input := .faulty }.faulted := by cases x; cases h; rfl

theorem Zone.arrived_fault_quiet {x : Zone} (h : x.state = .fault) :
    x.arrived .quiet = { x with input := .quiet, state := .normal } := by cases x; cases h; rfl

theorem Zone.arrived_delayed_quiet {x : Zone} (h : x.state = .delayed) :
    x.arrived .quiet = { x with input := .quiet }.cleared := by cases x; cases h; rfl

theorem Zone.arrived_alarm {x : Zone} (h : x.state = .alarm) (r : Reading) :
    x.arrived r = { x with input := r } := by cases x; cases h; rfl

theorem Zone.arrived_isolated_active {x : Zone} (h : x.state = .isolated) :
    x.arrived .active = { x with input := .active, activeWhileIsolated := true } := by cases x; cases h; rfl

/-- Any other arrival writes the zone alone, and in ALARM and ISOLATED it tells nobody. -/
theorem zoneArrival_writes {z : ZoneId} {r : Reading} {f : Fire}
    (h : ¬ ((f.zones[z].state = .normal ∨ f.zones[z].state = .fault) ∧ r = .active)) (e : FireEnv) :
    ∃ ms, zoneArrival z r e ⟨f, []⟩ = (⟨f.setZone z (f.zones[z].arrived r), ms⟩, []) ∧
      (f.zones[z].state = .alarm ∨ f.zones[z].state = .isolated → ms = []) := by
  have hz : (f.setZone z { f.zones[z] with input := r }).zones[z] = { f.zones[z] with input := r } := by
    rw [Fire.setZone_zones, if_pos rfl]
  unfold zoneArrival Zone.arrived
  simp only [Act.map, recordInput, hz, Fire.setZone_setZone, changeZone, enterFault_setZone]
  cases hx : f.zones[z].state <;> cases r
  case normal.active => exact absurd ⟨.inl hx, rfl⟩ h
  case fault.active => exact absurd ⟨.inr hx, rfl⟩ h
  all_goals exact ⟨_, rfl, by simp⟩

/-- Such an arrival as an event of the whole part. -/
theorem zoneEvent_arrived {z : ZoneId} {r : Reading} {s : State}
    (h : ¬ ((s.fire.zones[z].state = .normal ∨ s.fire.zones[z].state = .fault) ∧ r = .active)) :
    (zoneEvent (zoneArrival z r) s).fire = s.fire.setZone z (s.fire.zones[z].arrived r) ∧
      KeepsOtherBlocks s (zoneEvent (zoneArrival z r) s) := by
  obtain ⟨ms, hg, -⟩ := zoneArrival_writes h s.fireEnv
  exact zoneEvent_keepsOtherBlocks hg

theorem zoneEvent_arrived_silently {z : ZoneId} {r : Reading} {s : State}
    (h : s.fire.zones[z].state = .alarm ∨ s.fire.zones[z].state = .isolated) :
    zoneEvent (zoneArrival z r) s = { s with fire := s.fire.setZone z (s.fire.zones[z].arrived r) } := by
  have hn : ¬ ((s.fire.zones[z].state = .normal ∨ s.fire.zones[z].state = .fault) ∧ r = .active) := by
    rcases h with h | h <;> simp [-Fin.getElem_fin, h]
  obtain ⟨ms, hg, hms⟩ := zoneArrival_writes hn s.fireEnv
  rw [zoneEvent_of_write hg, hms h]
  rfl

/-- An ACTIVE arrival under the delay conditions (R29). -/
theorem zoneEvent_delays {z : ZoneId} {s : State}
    (hs : s.fire.zones[z].state = .normal ∨ s.fire.zones[z].state = .fault)
    (hc : delayConditions s.fireEnv z s.fire = true) :
    (zoneEvent (zoneArrival z .active) s).fire =
        s.fire.setZone z ({ s.fire.zones[z] with input := .active }.delayedFor s.params.showDelay) ∧
      KeepsOtherBlocks s (zoneEvent (zoneArrival z .active) s) := by
  obtain ⟨ms, hg⟩ := activeArrival_delays (previous := s.fire.zones[z].state) (cause := .input) (out := [])
    ((delayConditions_setZone (q := { s.fire.zones[z] with input := .active }) rfl rfl).trans hc)
  exact zoneEvent_keepsOtherBlocks ((zoneArrival_active hs _).trans hg)

/-- An ACTIVE arrival where they do not hold is a batch (R29, R33). -/
theorem zoneArrival_batch {z : ZoneId} {s : State}
    (hs : s.fire.zones[z].state = .normal ∨ s.fire.zones[z].state = .fault)
    (hc : delayConditions s.fireEnv z s.fire = false) :
    zoneArrival z .active s.fireEnv ⟨s.fire, []⟩ = alarmBatch s.clock z s.fire.zones[z].state .input
      ⟨s.fire.setZone z { s.fire.zones[z] with input := .active }, []⟩ := by
  rw [zoneArrival_active hs]
  refine activeArrival_alarms ?_
  rw [← hc]
  exact delayConditions_setZone (q := { s.fire.zones[z] with input := .active }) rfl rfl

/-- The zone of such an arrival is in ALARM from now, its input recorded. -/
theorem zoneEvent_arrival_alarmed {z : ZoneId} {s : State}
    (hs : s.fire.zones[z].state = .normal ∨ s.fire.zones[z].state = .fault)
    (hc : delayConditions s.fireEnv z s.fire = false) :
    (zoneEvent (zoneArrival z .active) s).fire.zones[z] =
      { s.fire.zones[z] with input := .active }.alarmed s.clock := by
  rw [zoneEvent_batch_self (zoneArrival_batch hs hc), Fire.setZone_zones, if_pos rfl]

/-- A panel zone is never DELAYED (R29). -/
theorem delayConditions_panel {z : ZoneId} (h : 8 ≤ z.val) (e : FireEnv) (f : Fire) :
    delayConditions e z f = false := by
  rw [← Bool.not_eq_true, delayConditions_iff]; omega

theorem Batch.take {z : ZoneId} {s t : State} (h : Batch z s t) :
    t.fire.alarmList.take (s.fire.alarmList.length + 1) = s.fire.alarmList ++ [z] := by
  rw [h.1]; simp [List.take_append]

theorem Batch.relink {z : ZoneId} {s u t : State} (h : Batch z s u) (ht : t = { u with links := t.links }) :
    Batch z s t := by
  rw [ht]; exact h

/-! ## The show delay runs out (R32) -/

theorem delayExpiry_batch {z : ZoneId} {s : State} (hs : s.fire.zones[z].state = .delayed)
    (hd : s.fire.zones[z].delayRemaining = some 0) (hi : s.fire.zones[z].input = .active) :
    delayExpiry z s.fireEnv ⟨s.fire, []⟩ =
      alarmBatch s.clock z .delayed .delayExpiry ⟨s.fire.setZone z s.fire.zones[z], []⟩ := by
  rw [Fire.setZone_self]
  unfold delayExpiry
  dsimp only
  rw [hs, hd, hi, if_pos ⟨rfl, rfl⟩]
  rfl

theorem zoneEvent_delayExpiry_faulty {z : ZoneId} {s : State} (hs : s.fire.zones[z].state = .delayed)
    (hd : s.fire.zones[z].delayRemaining = some 0) (hi : s.fire.zones[z].input = .faulty) :
    (zoneEvent (delayExpiry z) s).fire = s.fire.setZone z s.fire.zones[z].faulted ∧
      KeepsOtherBlocks s (zoneEvent (delayExpiry z) s) := by
  have hg : delayExpiry z s.fireEnv ⟨s.fire, []⟩ =
      changeZone z .delayed .delayExpiry (enterFault s.fire z) ⟨s.fire, []⟩ := by
    unfold delayExpiry
    dsimp only
    rw [hs, hd, hi, if_pos ⟨rfl, rfl⟩]
  exact zoneEvent_keepsOtherBlocks hg

/-! ## Isolation ends (R39) -/

/-- The record of an ISOLATED zone when it is restored, before its input is taken as an arrival. -/
def Zone.restored (x : Zone) : Zone := { x with state := .normal, activeWhileIsolated := false }

theorem setZone_restored_input {z : ZoneId} {f : Fire} {r : Reading} (hi : f.zones[z].input = r) :
    (f.setZone z { f.zones[z] with state := .normal, activeWhileIsolated := false }).zones[z].input = r := by
  rw [Fire.setZone_zones, if_pos rfl]; exact hi

theorem restoreIsolated_quiet {z : ZoneId} {s : State} (hi : s.fire.zones[z].input = .quiet) :
    (zoneEvent (restoreIsolated z) s).fire = s.fire.setZone z s.fire.zones[z].restored ∧
      KeepsOtherBlocks s (zoneEvent (restoreIsolated z) s) := by
  have hg : restoreIsolated z s.fireEnv ⟨s.fire, []⟩ = changeZone z .isolated .restore
      (s.fire.setZone z s.fire.zones[z].restored) ⟨s.fire.setZone z s.fire.zones[z].restored, []⟩ := by
    unfold restoreIsolated
    dsimp only [Act.map]
    rw [setZone_restored_input hi]
    rfl
  exact zoneEvent_keepsOtherBlocks hg

theorem restoreIsolated_faulty {z : ZoneId} {s : State} (hi : s.fire.zones[z].input = .faulty) :
    (zoneEvent (restoreIsolated z) s).fire = s.fire.setZone z s.fire.zones[z].restored.faulted ∧
      KeepsOtherBlocks s (zoneEvent (restoreIsolated z) s) := by
  have hg : restoreIsolated z s.fireEnv ⟨s.fire, []⟩ = changeZone z .isolated .restore
      (s.fire.setZone z s.fire.zones[z].restored.faulted) ⟨s.fire.setZone z s.fire.zones[z].restored, []⟩ := by
    unfold restoreIsolated
    dsimp only [Act.map]
    rw [setZone_restored_input hi, ← enterFault_setZone]
    rfl
  exact zoneEvent_keepsOtherBlocks hg

theorem restoreIsolated_active {z : ZoneId} {f : Fire} (hi : f.zones[z].input = .active) (e : FireEnv) :
    restoreIsolated z e ⟨f, []⟩ =
      activeArrival e z .isolated .restore ⟨f.setZone z f.zones[z].restored, []⟩ := by
  unfold restoreIsolated
  dsimp only [Act.map]
  rw [setZone_restored_input hi]
  rfl

end Sys2Proof.Machine
end

section
/-! The requests that name one zone, and the reset, the isolation and the acknowledgement that they make (R34 to
R41). -/
namespace Sys2Proof.Machine

/-! ## The zone that a request names -/

theorem onZone_named {zone : Byte} {z : ZoneId} {allowed : ZoneId → Bool} {block : ZoneId → State → State × Answer}
    {s : State} (hb : zone.toNat = z.val) (ha : allowed z = true) : onZone zone allowed block s = block z s := by
  unfold onZone
  rw [identifier_of_lt hb]
  exact if_pos ha

theorem onZone_refused {zone : Byte} {allowed : ZoneId → Bool} {block : ZoneId → State → State × Answer} {s : State}
    (h : ∀ z : ZoneId, zone.toNat = z.val → allowed z = false) :
    onZone zone allowed block s = (s, refuse .badNumber) := by
  unfold onZone
  by_cases hb : zone.toNat < 32
  · rw [identifier_of_lt (i := ⟨zone.toNat, hb⟩) rfl]
    exact if_neg (by rw [h ⟨zone.toNat, hb⟩ rfl]; decide)
  · rw [identifier_of_ge (not_lt.mp hb)]

theorem onZone_out {zone : Byte} {allowed : ZoneId → Bool} {block : ZoneId → State → State × Answer} {s : State}
    (h : 32 ≤ zone.toNat) : onZone zone allowed block s = (s, refuse .badNumber) :=
  onZone_refused fun z hz => absurd z.isLt (by omega)

/-! ## ACKNOWLEDGE ZONES (R41) -/

theorem acknowledgeNamed_one {k : Desk} {b : Byte} {z : ZoneId} {s : State} (hb : b.toNat = z.val) :
    acknowledgeNamed k b s = acknowledgeBlock k (some z) s := by
  have hn : b ≠ noneByte := by
    rintro rfl
    have := z.isLt
    rw [← hb] at this
    exact absurd this (by decide)
  unfold acknowledgeNamed
  rw [if_neg hn, onZone_named hb rfl]

theorem acknowledgeNamed_out {k : Desk} {b : Byte} {s : State} (hb : 32 ≤ b.toNat) (hn : b ≠ 0xFF) :
    acknowledgeNamed k b s = (s, refuse .badNumber) := by
  unfold acknowledgeNamed
  rw [if_neg (show b ≠ noneByte from hn), onZone_out hb]

/-- Settles O24: the block writes the flags of the desk that asks, and tells nobody. -/
theorem acknowledgeClearsOneDesksFlags : Obligations.AcknowledgeClearsOneDesksFlags := by
  refine ⟨fun s => ⟨fun z b hb => ⟨fun ht => ?_, fun ht => ?_⟩, fun ht => ?_, fun ht => ?_⟩, ?_⟩
  · exact takeRequest_silent (i := .acknowledgeZones .prompt b) ht rfl rfl rfl
      (acknowledgeNamed_one (k := .prompt) hb) rfl
  · exact takeRequest_silent (i := .acknowledgeZones .house b) ht rfl rfl rfl
      (acknowledgeNamed_one (k := .house) hb) rfl
  · exact ⟨_, takeRequest_silent (i := .acknowledgeZones .prompt 0xFF) ht rfl rfl rfl
      (show acknowledgeNamed .prompt 0xFF s = acknowledgeBlock .prompt none s from if_pos rfl) rfl,
      fun z => vmap_get (Zone.acknowledged .prompt) s.fire.zones z, rfl⟩
  · exact ⟨_, takeRequest_silent (i := .acknowledgeZones .house 0xFF) ht rfl rfl rfl
      (show acknowledgeNamed .house 0xFF s = acknowledgeBlock .house none s from if_pos rfl) rfl,
      fun z => vmap_get (Zone.acknowledged .house) s.fire.zones z, rfl⟩
  · rintro s b hb hn p (rfl | rfl) ht
    · exact takeRequest_unchanged (i := .acknowledgeZones .prompt b) ht rfl rfl rfl (acknowledgeNamed_out hb hn)
    · exact takeRequest_unchanged (i := .acknowledgeZones .house b) ht rfl rfl rfl (acknowledgeNamed_out hb hn)

/-! ## The FIRE demand formed again (R56) -/

theorem Fire.demandFor_iff (f : Fire) (c : Condition) :
    f.demandFor c = true ↔ c = .evacuate ∨ c = .alert ∧ ∃ x ∈ f.alarmList, f.zones[x].curtainRelease = true := by
  cases c <;> simp [-Fin.getElem_fin, Fire.demandFor]

theorem evaluateDemand_others (s : State) :
    (evaluateDemand s).lights = s.lights ∧ (evaluateDemand s).calls = s.calls := by
  unfold evaluateDemand
  dsimp only
  split <;> exact ⟨rfl, rfl⟩

/-- A demand that does not rise leaves the curtain in its state (R56, R67). -/
theorem evaluateDemand_curtainState {s : State} (h : s.fire.demandFor s.fire.condition = true → s.fire.demand = true) :
    (evaluateDemand s).curtain.state = s.curtain.state := by
  unfold evaluateDemand
  dsimp only
  split
  · rfl
  · next hne =>
    have hd : s.fire.demandFor s.fire.condition = false := by
      cases hd : s.fire.demandFor s.fire.condition with
      | false => rfl
      | true => exact absurd (hd.trans (h hd).symm) hne
    rw [hd]
    exact curtainFireHandoff_state_quiet _ _ (.inl rfl) _

/-! ## RESET ZONE and PANEL RESET ZONE (R34, R35, R36) -/

/-- A zone record that a reset takes out of ALARM. -/
def Zone.resetFrom (x : Zone) : Zone :=
  if x.input = .quiet then { x with state := .normal, alarmTime := none }
  else { x.flagged with state := .fault, alarmTime := none }

/-- The fire record after a reset. -/
def Fire.zoneReset (z : ZoneId) (f : Fire) : Fire :=
  { f with alarmList := f.alarmList.erase z, zones := f.zones.set z f.zones[z].resetFrom }

theorem onZones_leaveAlarm {z : ZoneId} {s : State} (hi : s.fire.zones[z].input ≠ .active) :
    (s.onZones (leaveAlarm z)).1.fire = s.fire.zoneReset z := by
  unfold State.onZones leaveAlarm Fire.zoneReset Zone.resetFrom
  dsimp only
  cases hr : s.fire.zones[z].input with
  | active => exact absurd hr hi
  | quiet => rw [if_pos rfl]; rfl
  | faulty => rw [if_neg (by decide)]; rfl

/-- After a reset the demand is that of the zones that are still listed: no zone has got another release flag. -/
theorem zoneReset_demand (z : ZoneId) (f : Fire) (c : Condition) :
    (f.zoneReset z).demandFor c = true ↔
      c = .evacuate ∨ c = .alert ∧ ∃ x ∈ f.alarmList.erase z, f.zones[x].curtainRelease = true := by
  rw [Fire.demandFor_iff]
  have hz (x : ZoneId) : (f.zoneReset z).zones[x].curtainRelease = f.zones[x].curtainRelease := by
    rw [show (f.zoneReset z).zones = (f.setZone z f.zones[z].resetFrom).zones from rfl, Fire.setZone_zones]
    split
    · next e => rw [e]; unfold Zone.resetFrom; split <;> rfl
    · rfl
  simp only [hz]
  rfl

theorem resetZoneBlock_leaves {z : ZoneId} {s : State} (hs : s.fire.zones[z].state = .alarm)
    (hi : s.fire.zones[z].input ≠ .active) :
    resetZoneBlock z s = (evaluateDemand (s.onZones (leaveAlarm z)).1, done .empty) := by
  unfold resetZoneBlock
  exact (if_pos hs).trans (if_neg hi)

/-- What a reset out of ALARM leaves of every block. -/
theorem reset_leaves {z : ZoneId} {s t : State} (hi : s.fire.zones[z].input ≠ .active)
    (ht : t = { evaluateDemand (s.onZones (leaveAlarm z)).1 with links := t.links }) :
    t.fire = { s.fire.zoneReset z with demand := (s.fire.zoneReset z).demandFor s.fire.condition } ∧
      t.lights = s.lights ∧ t.calls = s.calls ∧ KeepsBase s t ∧
      (s.handedOn → t.house = s.house ∧ t.curtain.state = s.curtain.state) := by
  have hf := onZones_leaveAlarm hi
  have hq := (quietly_onZones (leaveAlarm z) s).trans (quietly_evaluateDemand _)
  obtain ⟨hl, hc⟩ := evaluateDemand_others (s.onZones (leaveAlarm z)).1
  have he := evaluateDemand_fire (s.onZones (leaveAlarm z)).1
  have hcond : (s.onZones (leaveAlarm z)).1.fire.condition = s.fire.condition := by rw [hf]; rfl
  have hh := evaluateDemand_house (s.onZones (leaveAlarm z)).1
  have hcs : s.handedOn → (evaluateDemand (s.onZones (leaveAlarm z)).1).curtain.state = s.curtain.state := by
    rintro ⟨-, -, -, -, -, -, -, -, hd⟩
    refine evaluateDemand_curtainState fun h => ?_
    rw [hcond, hf, zoneReset_demand] at h
    rw [hf, show (s.fire.zoneReset z).demand = s.fire.demand from rfl, hd, Fire.demandFor_iff]
    exact h.imp_right fun ⟨ha, x, hx, hr⟩ => ⟨ha, x, List.mem_of_mem_erase hx, hr⟩
  rw [ht]
  refine ⟨?_, hl, hc, hq.1, fun h => ⟨hh, hcs h⟩⟩
  dsimp only
  rw [he, hcond, hf]

theorem resetZone_request {z : ZoneId} {b : Byte} {p : Port} {kind : Byte} {i : Instr} (hb : b.toNat = z.val)
    (h : (p = .house ∧ kind = 0x16 ∧ i = .resetZone .house b ∧ z.val < 8) ∨
      (p = .panel ∧ kind = 0x14 ∧ i = .panelResetZone .panel b ∧ 8 ≤ z.val)) :
    requestFrame i = ⟨kind, [b]⟩ ∧ kindKnown (requestFrame i).kind = true ∧
      permitted p (requestFrame i).kind = true ∧ shapeOk i = true ∧
      ∃ block, (∀ s, exec i s = takeRequest p i block s) ∧ ∀ s, block s = resetZoneBlock z s := by
  rcases h with ⟨rfl, rfl, rfl, hz⟩ | ⟨rfl, rfl, rfl, hz⟩
  · exact ⟨rfl, rfl, rfl, rfl, _, fun _ => rfl, fun s => onZone_named hb (by simpa [isLocal] using hz)⟩
  · exact ⟨rfl, rfl, rfl, rfl, _, fun _ => rfl, fun s => onZone_named hb (by simpa [isLocal] using hz)⟩

/-- Settles O22: a reset out of ALARM writes the zone, takes it off the list and forms the demand again; any other is
answered alone. -/
theorem resetOfAZone : Obligations.ResetOfAZone := by
  refine ⟨fun s z b p kind i hb hr ht => ?_, fun s b => ⟨fun ht h => ?_, fun ht h => ?_⟩⟩
  · obtain ⟨hf, hk, hp, hs, block, hx, hblock⟩ := resetZone_request hb hr
    obtain rfl : (requestFrame i).kind = kind := by rw [hf]
    rw [← hf] at ht
    rw [hx]
    refine ⟨fun ha hi => ?_, fun ha hi => ?_, fun ha => ?_⟩
    · obtain ⟨t, hn, hans, hu, -⟩ := takeRequest_answers ht hk hp hs ((hblock s).trans (resetZoneBlock_leaves ha hi))
        ((quietly_onZones (leaveAlarm z) s).trans (quietly_evaluateDemand _)).2
      obtain ⟨h1, h2, h3, h4, h5⟩ := reset_leaves hi hu
      refine ⟨t, hn, hans, ?_⟩
      rw [h1]
      exact ⟨rfl, rfl, rfl, rfl, rfl, rfl, zoneReset_demand z s.fire s.fire.condition, h2, h3, h4, h5⟩
    · exact takeRequest_unchanged ht hk hp hs ((hblock s).trans ((if_pos ha).trans (if_pos hi)))
    · exact takeRequest_unchanged ht hk hp hs ((hblock s).trans (if_neg ha))
  · exact takeRequest_unchanged (i := .resetZone .house b) ht rfl rfl rfl
      (onZone_refused fun z hz => by simp [isLocal]; omega)
  · exact takeRequest_unchanged (i := .panelResetZone .panel b) ht rfl rfl rfl
      (onZone_refused fun z hz => by have := z.isLt; simp [isLocal]; omega)

/-! ## ISOLATE ZONE and RESTORE ZONE (R37, R38, R39) -/

/-- The record of a zone on isolation (R37). -/
def Zone.isolatedNow (x : Zone) : Zone :=
  { x with state := .isolated, activeWhileIsolated := decide (x.input = .active) }

/-- The isolation of a zone in NORMAL or FAULT, as an event at the zones. -/
def isolation (z : ZoneId) (r : Zone) : ZoneEvent := fun _ w =>
  changeZone z r.state .isolate (w.val.setZone z r.isolatedNow) w

theorem isolateBlock_isolates {z : ZoneId} {s : State}
    (hs : s.fire.zones[z].state = .normal ∨ s.fire.zones[z].state = .fault) :
    isolateBlock z s = (zoneEvent (isolation z s.fire.zones[z]) s, done .empty) := by
  have hb : (s.fire.zones[z].input == Reading.active) = decide (s.fire.zones[z].input = .active) := rfl
  unfold isolateBlock isolation Zone.isolatedNow
  dsimp only
  rw [← hb]
  rcases hs with hs | hs <;> rw [hs]

theorem isolation_writes (z : ZoneId) (s : State) :
    isolation z s.fire.zones[z] s.fireEnv ⟨s.fire, []⟩ =
      (⟨s.fire.setZone z s.fire.zones[z].isolatedNow,
        [zoneMail (s.fire.setZone z s.fire.zones[z].isolatedNow) s.fire.zones[z].state .isolate z]⟩, []) := rfl

/-- The ports that hear of a zone: the two desks, and the panel of a local zone (R45). -/
theorem mem_zonePorts (q : Port) (z : ZoneId) :
    (q ∈ if isLocal z then [Port.prompt, .house, .panel] else [.prompt, .house]) ↔
      q = .prompt ∨ q = .house ∨ (q = .panel ∧ z.val < 8) := by
  by_cases h : z.val < 8 <;> simp [isLocal, h]

/-- The notice of an isolation, with the ports it goes to (R45). -/
theorem zoneMail_isolated (z : ZoneId) (f : Fire) :
    zoneMail (f.setZone z f.zones[z].isolatedNow) f.zones[z].state .isolate z =
      ⟨if isLocal z then [.prompt, .house, .panel] else [.prompt, .house],
        .zoneChange ⟨z, f.zones[z].state, .isolated, f.zones[z].input, .isolate, f.zones[z].cls, f.zones[z].area,
          f.zones[z].suppressed, none, none, f.alarmList.head? == some z⟩⟩ := by
  unfold zoneMail
  rw [Fire.setZone_zones, if_pos rfl]
  rfl

/-- ISOLATE ZONE by the state of the zone (R37). -/
theorem isolateZone_by_state {s : State} {z : ZoneId} {b : Byte} (hb : b.toNat = z.val)
    (ht : takeable .house ⟨0x17, [b]⟩ s = true) :
    (s.fire.zones[z].state = .normal ∨ s.fire.zones[z].state = .fault →
      ∃ t, exec (.isolateZone .house b) s = .next t ∧ AnsweredWith .house 0x17 (done .empty) s t ∧
        t.fire = s.fire.setZone z s.fire.zones[z].isolatedNow ∧ KeepsOtherBlocks s t ∧
        ∀ q : Port, q = .prompt ∨ q = .house ∨ (q = .panel ∧ z.val < 8) →
          Reaches q (.zoneChange ⟨z, s.fire.zones[z].state, .isolated, s.fire.zones[z].input, .isolate,
            s.fire.zones[z].cls, s.fire.zones[z].area, s.fire.zones[z].suppressed, none, none,
            s.fire.alarmList.head? == some z⟩) s t) ∧
    (s.fire.zones[z].state = .alarm ∨ s.fire.zones[z].state = .delayed →
      exec (.isolateZone .house b) s = .next (s.withReply .house 0x17 (refuse .inAlarm))) ∧
    (s.fire.zones[z].state = .isolated →
      exec (.isolateZone .house b) s = .next (s.withReply .house 0x17 (done .empty))) := by
  have named : onZone b (fun _ => true) isolateBlock s = isolateBlock z s := onZone_named hb rfl
  refine ⟨fun hs => ?_, fun hs => ?_, fun hs => ?_⟩
  · obtain ⟨hf, hk⟩ := zoneEvent_keepsOtherBlocks (isolation_writes z s)
    obtain ⟨t, hx, ha, hu, hr⟩ := takeRequest_answers (i := .isolateZone .house b) ht rfl rfl rfl
      (named.trans (isolateBlock_isolates hs)) (quietly_zoneEvent _ s).2
    refine ⟨t, hx, ha, by rw [hu]; exact hf, hk.relink hu, fun q hq => hr q _ ?_⟩
    refine zoneEvent_tells (isolation_writes z s) (m := ⟨_, _⟩)
      (List.mem_singleton.mpr (zoneMail_isolated z s.fire).symm) ?_
    exact (mem_zonePorts q z).mpr hq
  · refine takeRequest_unchanged (i := .isolateZone .house b) ht rfl rfl rfl (named.trans ?_)
    unfold isolateBlock
    rcases hs with hs | hs <;> simp only [hs]
  · refine takeRequest_unchanged (i := .isolateZone .house b) ht rfl rfl rfl (named.trans ?_)
    unfold isolateBlock
    simp only [hs]

theorem restoreIsolated_delays {z : ZoneId} {s : State} (hi : s.fire.zones[z].input = .active)
    (hc : delayConditions s.fireEnv z s.fire = true) :
    (zoneEvent (restoreIsolated z) s).fire =
        s.fire.setZone z (s.fire.zones[z].restored.delayedFor s.params.showDelay) ∧
      KeepsOtherBlocks s (zoneEvent (restoreIsolated z) s) := by
  obtain ⟨ms, hg⟩ := activeArrival_delays (previous := .isolated) (cause := .restore) (out := [])
    ((delayConditions_setZone (q := s.fire.zones[z].restored) rfl rfl).trans hc)
  exact zoneEvent_keepsOtherBlocks ((restoreIsolated_active hi _).trans hg)

theorem restoreIsolated_batch {z : ZoneId} {s : State} (hi : s.fire.zones[z].input = .active)
    (hc : delayConditions s.fireEnv z s.fire = false) :
    restoreIsolated z s.fireEnv ⟨s.fire, []⟩ = alarmBatch s.clock z .isolated .restore
      ⟨s.fire.setZone z s.fire.zones[z].restored, []⟩ := by
  rw [restoreIsolated_active hi]
  refine activeArrival_alarms ?_
  rw [← hc]
  exact delayConditions_setZone (q := s.fire.zones[z].restored) rfl rfl

/-- RESTORE ZONE of an ISOLATED zone, by its recorded input (R39). -/
theorem restoreIsolated_by_input (z : ZoneId) (s : State) :
    (s.fire.zones[z].input = .quiet ∧ KeepsOtherBlocks s (zoneEvent (restoreIsolated z) s) ∧
      (zoneEvent (restoreIsolated z) s).fire = s.fire.setZone z s.fire.zones[z].restored) ∨
    (s.fire.zones[z].input = .faulty ∧ KeepsOtherBlocks s (zoneEvent (restoreIsolated z) s) ∧
      (zoneEvent (restoreIsolated z) s).fire = s.fire.setZone z s.fire.zones[z].restored.faulted) ∨
    (s.fire.zones[z].input = .active ∧ delayConditions s.fireEnv z s.fire = true ∧
      KeepsOtherBlocks s (zoneEvent (restoreIsolated z) s) ∧
      (zoneEvent (restoreIsolated z) s).fire =
        s.fire.setZone z (s.fire.zones[z].restored.delayedFor s.params.showDelay)) ∨
    (s.fire.zones[z].input = .active ∧ delayConditions s.fireEnv z s.fire = false ∧
      z ∈ (zoneEvent (restoreIsolated z) s).fire.alarmList ∧
      (zoneEvent (restoreIsolated z) s).fire.zones[z] = s.fire.zones[z].restored.alarmed s.clock) := by
  cases hi : s.fire.zones[z].input with
  | quiet => exact .inl ⟨rfl, (restoreIsolated_quiet hi).symm⟩
  | faulty => exact .inr (.inl ⟨rfl, (restoreIsolated_faulty hi).symm⟩)
  | active =>
    cases hc : delayConditions s.fireEnv z s.fire with
    | true => exact .inr (.inr (.inl ⟨rfl, rfl, (restoreIsolated_delays hi hc).symm⟩))
    | false =>
      have hg := restoreIsolated_batch hi hc
      refine .inr (.inr (.inr ⟨rfl, rfl, ?_, ?_⟩))
      · rw [(zoneEvent_batch_zones hg).2.1]; simp
      · rw [zoneEvent_batch_self hg, Fire.setZone_zones, if_pos rfl]

/-- RESTORE ZONE of an ISOLATED zone: the reply, and the fire record by the recorded input (R39). -/
theorem restoreZone_restores {s : State} {z : ZoneId} {b : Byte} (hb : b.toNat = z.val)
    (ht : takeable .house ⟨0x18, [b]⟩ s = true) (hs : s.fire.zones[z].state = .isolated) :
    ∃ t, exec (.restoreZone .house b) s = .next t ∧ AnsweredWith .house 0x18 (done .empty) s t ∧
      t = { zoneEvent (restoreIsolated z) s with links := t.links } := by
  have hblock : onZone b (fun _ => true) restoreZoneBlock s = (zoneEvent (restoreIsolated z) s, done .empty) :=
    (onZone_named hb rfl).trans (if_pos hs)
  obtain ⟨t, hx, ha, hu, -⟩ := takeRequest_answers (i := .restoreZone .house b) ht rfl rfl rfl hblock
    (quietly_zoneEvent _ s).2
  exact ⟨t, hx, ha, hu⟩

/-- Settles O23: ISOLATE ZONE by the state of the zone, RESTORE ZONE by its recorded input. -/
theorem zonesAreIsolatedAndRestored : Obligations.ZonesAreIsolatedAndRestored := by
  refine ⟨fun s z b hb ht => isolateZone_by_state hb ht, fun s z b hb ht => ⟨fun hs => ?_, fun hs => ?_⟩,
    fun s b hb => ⟨fun ht => ?_, fun ht => ?_⟩⟩
  · exact takeRequest_unchanged (i := .restoreZone .house b) ht rfl rfl rfl ((onZone_named hb rfl).trans (if_neg hs))
  · obtain ⟨t, hx, ha, hu⟩ := restoreZone_restores hb ht hs
    have hf : t.fire = (zoneEvent (restoreIsolated z) s).fire := by rw [hu]
    have hd := delayConditions_iff s.fireEnv z s.fire
    refine ⟨t, hx, ha, ?_⟩
    rw [hf]
    rcases restoreIsolated_by_input z s with ⟨hi, hk, h⟩ | ⟨hi, hk, h⟩ | ⟨hi, hc, hk, h⟩ | ⟨hi, hc, hm, h⟩
    · rw [h, Fire.setZone_zones, if_pos rfl]
      exact ⟨rfl, rfl, fun _ => ⟨rfl, hk.relink hu⟩, fun he => absurd (hi.symm.trans he) (by decide),
        fun he => absurd (hi.symm.trans he) (by decide)⟩
    · rw [h, Fire.setZone_zones, if_pos rfl]
      exact ⟨rfl, rfl, fun he => absurd (hi.symm.trans he) (by decide), fun _ => ⟨rfl, hk.relink hu⟩,
        fun he => absurd (hi.symm.trans he) (by decide)⟩
    · rw [h, Fire.setZone_zones, if_pos rfl]
      refine ⟨rfl, rfl, fun he => absurd (hi.symm.trans he) (by decide),
        fun he => absurd (hi.symm.trans he) (by decide), fun _ => ?_⟩
      exact (if_pos (hd.mp hc)).mpr ⟨rfl, hk.relink hu⟩
    · rw [h]
      refine ⟨rfl, rfl, fun he => absurd (hi.symm.trans he) (by decide),
        fun he => absurd (hi.symm.trans he) (by decide), fun _ => ?_⟩
      exact (if_neg (mt hd.mpr (by rw [hc]; decide))).mpr ⟨rfl, rfl, hm⟩
  · exact takeRequest_unchanged (i := .isolateZone .house b) ht rfl rfl rfl (onZone_out hb)
  · exact takeRequest_unchanged (i := .restoreZone .house b) ht rfl rfl rfl (onZone_out hb)

end Sys2Proof.Machine
end

section
/-! ZONE REPORT, the settled change of a zone line and the expiry of a show delay (R28 to R33, R36, R38, R47). -/
namespace Sys2Proof.Machine

/-! ## A report as a whole (R28) -/

/-- What one pair of a report says: the zone, and the input that arrives (Table 10-8). -/
def pairRead (q : Byte × Byte) : ZoneId × Reading :=
  (Fin.ofNat 32 q.1.toNat, if q.2 = 0 then .quiet else if q.2 = 1 then .active else .faulty)

theorem panelInput_eq {b : Byte} (h : b.toNat ≤ 2) :
    panelInput b = some (if b = 0 then .quiet else if b = 1 then .active else .faulty) := by
  have hb : b = BitVec.ofNat 8 b.toNat := by simp
  generalize b.toNat = n at h hb
  subst hb
  interval_cases n <;> rfl

/-- A report of panel zones is read whole. -/
theorem reportPairs_eq {ps : List (Byte × Byte)} (h : ∀ q ∈ ps, 8 ≤ q.1.toNat ∧ q.1.toNat ≤ 31 ∧ q.2.toNat ≤ 2) :
    reportPairs ps = some (ps.map pairRead) := by
  induction ps with
  | nil => rfl
  | cons q ps ih =>
    obtain ⟨h1, h2, h3⟩ := h q List.mem_cons_self
    have hz : q.1.toNat = (Fin.ofNat 32 q.1.toNat).val := (Nat.mod_eq_of_lt (by omega)).symm
    have hl : isLocal (Fin.ofNat 32 q.1.toNat) = false := by
      unfold isLocal; rw [← hz]; simpa using h1
    unfold reportPairs
    rw [identifier_of_lt hz, panelInput_eq h3, ih fun x hx => h x (.tail _ hx)]
    dsimp only
    rw [hl]
    rfl

/-- A report that names a local zone or no zone is refused whole. -/
theorem reportPairs_none {ps : List (Byte × Byte)} (h : ∃ q ∈ ps, q.1.toNat < 8 ∨ 32 ≤ q.1.toNat) :
    reportPairs ps = none := by
  obtain ⟨q, hq, hz⟩ := h
  by_contra hne
  obtain ⟨rs, hr⟩ := Option.ne_none_iff_exists'.mp hne
  have named : ∃ r ∈ rs, r.1.val = q.1.toNat := by
    clear hne hz
    induction ps generalizing rs with
    | nil => cases hq
    | cons x ps ih =>
      unfold reportPairs at hr
      split at hr
      · next z r qs hi _ hqs =>
        split at hr
        · cases hr
        · cases hr
          rcases List.mem_cons.mp hq with rfl | hq
          · refine ⟨(z, r), List.mem_cons_self, ?_⟩
            unfold identifier at hi
            split at hi
            · cases hi; rfl
            · cases hi
          · obtain ⟨y, hy, e⟩ := ih hq _ hqs
            exact ⟨y, .tail _ hy, e⟩
      · cases hr
  obtain ⟨r, hr', e⟩ := named
  have h1 := reportPairs_panel hr r hr'
  have h2 := r.1.isLt
  omega

theorem quietly_zoneReport (rs : List (ZoneId × Reading)) (s : State) :
    Quietly s (rs.foldl (fun s p => zoneEvent (zoneArrival p.1 p.2) s) s) := by
  induction rs generalizing s with
  | nil => exact .refl s
  | cons r rs ih => exact (quietly_zoneEvent _ s).trans (ih _)

/-- An arrival records no input of another zone. -/
theorem zoneEvent_arrival_input_of_ne {y z : ZoneId} (r : Reading) (s : State) (h : y ≠ z) :
    (zoneEvent (zoneArrival z r) s).fire.zones[y].input = s.fire.zones[y].input := by
  have arrival : (zoneArrival z r s.fireEnv ⟨s.fire, []⟩).1.val.zones[y].input = s.fire.zones[y].input := by
    rcases zoneArrival_cases z r s.fireEnv s.fire [] with ⟨-, -, hg⟩ | ⟨q, ms, hg, -⟩ <;> rw [hg]
    · rw [activeArrival_input, Fire.setZone_zones, if_neg h]
    · rw [Fire.setZone_zones, if_neg h]
  rcases zoneEvent_cases (zoneArrival z r) s with ⟨-, k⟩ | ⟨-, k⟩ <;> rw [k]
  · exact arrival
  · rw [climbLadder_input]; exact arrival

/-- After a report a zone reads as its last pair says, or as before where no pair names it. -/
theorem zoneReport_input {ps : List (Byte × Byte)} (h : ∀ q ∈ ps, q.1.toNat ≤ 31) (z : ZoneId) (s : State) :
    ((ps.map pairRead).foldl (fun s p => zoneEvent (zoneArrival p.1 p.2) s) s).fire.zones[z].input =
      ((ps.reverse.find? fun x => x.1.toNat == z.val).map fun q => (pairRead q).2).getD s.fire.zones[z].input := by
  induction ps generalizing s with
  | nil => rfl
  | cons q ps ih =>
    have hq : (pairRead q).1.val = q.1.toNat := Nat.mod_eq_of_lt (by have := h q List.mem_cons_self; omega)
    rw [List.map_cons, List.foldl_cons, ih fun x hx => h x (.tail _ hx), List.reverse_cons, List.find?_append]
    cases ps.reverse.find? fun x => x.1.toNat == z.val with
    | some x => rfl
    | none =>
      by_cases hz : q.1.toNat = z.val
      · have he : z = (pairRead q).1 := Fin.ext (hz.symm.trans hq.symm)
        rw [List.find?_cons_of_pos (by simpa using hz), he, zoneEvent_arrival_input]
        rfl
      · have hne : z ≠ (pairRead q).1 := fun e => hz (by rw [← hq, ← e])
        rw [List.find?_cons_of_neg (by simpa using hz), zoneEvent_arrival_input_of_ne _ _ hne]
        rfl

theorem shapeOk_zoneReport {ps : List (Byte × Byte)} (h1 : 1 ≤ ps.length) (h2 : ps.length ≤ 59)
    (h : ∀ q ∈ ps, q.2.toNat ≤ 2) : shapeOk (.zoneReport .panel ps) = true := by
  simp only [shapeOk, Bool.and_eq_true, decide_eq_true_eq, List.all_eq_true]
  exact ⟨⟨h1, h2⟩, h⟩

/-! ## A report of one pair -/

/-- A byte that names an input (Table 10-8). -/
def namesReading (st : Byte) (r : Reading) : Prop := st = 0 ∧ r = .quiet ∨ st = 1 ∧ r = .active ∨ st = 2 ∧ r = .faulty

theorem zoneReportBlock_one {z : ZoneId} {b st : Byte} {r : Reading} (hz : 8 ≤ z.val) (hb : b.toNat = z.val)
    (hr : namesReading st r) (s : State) :
    zoneReportBlock [(b, st)] s = (zoneEvent (zoneArrival z r) s, done .empty) := by
  have hst : st.toNat ≤ 2 := by rcases hr with ⟨rfl, -⟩ | ⟨rfl, -⟩ | ⟨rfl, -⟩ <;> decide
  have hp : pairRead (b, st) = (z, r) := by
    refine Prod.ext (Fin.ext ?_) ?_
    · exact (Nat.mod_eq_of_lt (by show b.toNat < 32; rw [hb]; exact z.isLt)).trans hb
    · rcases hr with ⟨rfl, rfl⟩ | ⟨rfl, rfl⟩ | ⟨rfl, rfl⟩ <;> rfl
  have h := reportPairs_eq (ps := [(b, st)]) (by simp only [List.mem_singleton, forall_eq]; omega)
  unfold zoneReportBlock
  rw [h, List.map_singleton, hp]
  rfl

theorem zoneReport_one {z : ZoneId} {b st : Byte} {r : Reading} {s : State} (hz : 8 ≤ z.val) (hb : b.toNat = z.val)
    (hr : namesReading st r) (ht : takeable .panel ⟨0x13, [1, b, st]⟩ s = true) :
    ∃ t, exec (.zoneReport .panel [(b, st)]) s = .next t ∧
      t = { zoneEvent (zoneArrival z r) s with links := t.links } := by
  have hs : shapeOk (.zoneReport .panel [(b, st)]) = true := by rcases hr with ⟨rfl, -⟩ | ⟨rfl, -⟩ | ⟨rfl, -⟩ <;> rfl
  obtain ⟨t, hx, -, hu, -⟩ := takeRequest_answers (i := .zoneReport .panel [(b, st)]) ht rfl rfl hs
    (zoneReportBlock_one hz hb hr s) (quietly_zoneEvent _ s).2
  exact ⟨t, hx, hu⟩

/-- A pair that names a zone in ALARM or ISOLATED is recorded, and tells nobody (R34, R38). -/
theorem zoneReport_one_silent {z : ZoneId} {b st : Byte} {r : Reading} {s : State} (hz : 8 ≤ z.val)
    (hb : b.toNat = z.val) (hr : namesReading st r) (ht : takeable .panel ⟨0x13, [1, b, st]⟩ s = true)
    (hs : s.fire.zones[z].state = .alarm ∨ s.fire.zones[z].state = .isolated) :
    exec (.zoneReport .panel [(b, st)]) s = .next (State.withReply .panel 0x13 (done .empty)
      { s with fire := s.fire.setZone z (s.fire.zones[z].arrived r) }) := by
  have hsh : shapeOk (.zoneReport .panel [(b, st)]) = true := by rcases hr with ⟨rfl, -⟩ | ⟨rfl, -⟩ | ⟨rfl, -⟩ <;> rfl
  exact takeRequest_silent (i := .zoneReport .panel [(b, st)]) ht rfl rfl hsh
    ((zoneReportBlock_one hz hb hr s).trans (by rw [zoneEvent_arrived_silently hs])) rfl

/-- An ACTIVE pair that names a panel zone in NORMAL or FAULT is a batch (R29, R33). -/
theorem zoneArrival_panel_batch {z : ZoneId} {s : State} (hz : 8 ≤ z.val)
    (hs : s.fire.zones[z].state = .normal ∨ s.fire.zones[z].state = .fault) :
    Batch z s (zoneEvent (zoneArrival z .active) s) :=
  zoneEvent_batch_promotes (zoneArrival_batch hs (delayConditions_panel hz _ _))

/-- Settles O20: a report is its pairs taken one after another, and each arrival acts by the state of its zone. -/
theorem zoneReportsReachTheirZones : Obligations.ZoneReportsReachTheirZones := by
  refine ⟨⟨fun s ps ht h1 h2 h => ?_, fun s ps ht h1 h2 h hq => ?_⟩, fun s z b hz hb => ⟨fun ht hs => ?_,
    fun ht hs => ?_, fun ht hs => ?_, fun st r hr ht hs => ?_, fun ht hs => ?_⟩⟩
  · have hb : zoneReportBlock ps s =
        ((ps.map pairRead).foldl (fun s p => zoneEvent (zoneArrival p.1 p.2) s) s, done .empty) := by
      unfold zoneReportBlock; rw [reportPairs_eq h]
    obtain ⟨t, hx, ha, hu, -⟩ := takeRequest_answers (i := .zoneReport .panel ps) ht rfl rfl
      (shapeOk_zoneReport h1 h2 fun q hq => (h q hq).2.2) hb (quietly_zoneReport _ s).2
    refine ⟨t, hx, ha, fun z q hf => ?_⟩
    have hi := zoneReport_input (fun q hq => (h q hq).2.1) z s
    rw [hf] at hi
    rw [hu]
    exact hi
  · refine takeRequest_unchanged (i := .zoneReport .panel ps) ht rfl rfl (shapeOk_zoneReport h1 h2 h) ?_
    unfold zoneReportBlock
    rw [reportPairs_none hq]
    rfl
  · obtain ⟨t, hx, hu⟩ := zoneReport_one hz hb (.inr (.inl ⟨rfl, rfl⟩)) ht
    refine ⟨t, hx, ?_, ((zoneArrival_panel_batch hz hs).relink hu).take⟩
    rw [hu]
    exact zoneEvent_arrival_alarmed hs (delayConditions_panel hz _ _)
  · obtain ⟨t, hx, hu⟩ := zoneReport_one hz hb (.inr (.inr ⟨rfl, rfl⟩)) ht
    obtain ⟨hf, hk⟩ := zoneEvent_arrived (z := z) (r := .faulty) (s := s) (by simp)
    refine ⟨t, hx, ?_, hk.relink hu⟩
    rw [hu]
    exact hf.trans (by rw [Zone.arrived_normal_faulty hs]; rfl)
  · obtain ⟨t, hx, hu⟩ := zoneReport_one hz hb (.inl ⟨rfl, rfl⟩) ht
    obtain ⟨hf, hk⟩ := zoneEvent_arrived (z := z) (r := .quiet) (s := s) (by simp)
    refine ⟨t, hx, ?_, hk.relink hu⟩
    rw [hu]
    exact hf.trans (by rw [Zone.arrived_fault_quiet hs]; rfl)
  · rw [zoneReport_one_silent hz hb hr ht (.inl hs), Zone.arrived_alarm hs]
    rfl
  · rw [zoneReport_one_silent hz hb (.inr (.inl ⟨rfl, rfl⟩)) ht (.inr hs), Zone.arrived_isolated_active hs]
    rfl

/-! ## The show delay (R29, R31, R32, R33) -/

theorem settleExpiry_zone {s : State} {l : Line} {z : ZoneId} {r : Reading} (hi : s.inert = false) (hl : l.val < 8)
    (hz : z.val = l.val) (hc : s.lines[l].candidate = some (r, 0)) :
    exec (.settleExpiry l) s = .next (zoneEvent (zoneArrival z r) (s.lineSettled l r)) := by
  rw [settleExpiry_next l hi, settleLine_due hc, handLine_zone hl,
    show (⟨l.val, by omega⟩ : ZoneId) = z from Fin.ext hz.symm]

theorem showDelayExpiry_next {s : State} (z : ZoneId) (hi : s.inert = false) :
    exec (.showDelayExpiry z) s = .next (zoneEvent (delayExpiry z) s) := if_neg (by rw [hi]; decide)

/-- The delay conditions at a local zone, as the rule lists them (R29). -/
theorem delayConditions_local_false {z : ZoneId} {e : FireEnv} {f : Fire}
    (h : f.zones[z].cls ≠ .detector ∨ f.zones[z].delayEligible = false ∨ e.showMode = false ∨ f.alarmList ≠ [] ∨
      e.showDelay = 0) : delayConditions e z f = false := by
  rw [← Bool.not_eq_true, delayConditions_iff]
  rintro ⟨-, h1, h2, h3, h4, h5⟩
  rcases h with h | h | h | h | h
  · exact h h1
  · rw [h] at h2; cases h2
  · rw [h] at h3; cases h3
  · exact h h4
  · omega

/-- Settles O25: the arrival under the delay conditions, the two ends of a delay, and the batch that an alarm makes of
every DELAYED zone. -/
theorem showDelayStartsAndRunsOut : Obligations.ShowDelayStartsAndRunsOut := by
  refine ⟨fun s l z hi hl hz => ⟨fun hc hs => ?_, fun hc hs => ?_⟩, fun s z hi hs hd => ⟨fun ha => ?_, fun hf => ?_⟩,
    fun s z hi hs hd ha => ?_, fun s z b hz hb ht hs => ?_⟩
  · refine ⟨_, settleExpiry_zone hi hl hz hc, fun h1 h2 h3 h4 h5 => ?_, fun h => ?_⟩
    · obtain ⟨hf, -, k⟩ := zoneEvent_delays (s := s.lineSettled l .active) hs
        ((delayConditions_iff _ _ _).mpr ⟨hz ▸ hl, h1, h2, h3, h4, h5⟩)
      exact ⟨hf, k⟩
    · have hn : delayConditions (s.lineSettled l .active).fireEnv z (s.lineSettled l .active).fire = false :=
        delayConditions_local_false h
      have hg := zoneArrival_batch (s := s.lineSettled l .active) hs hn
      have hzone := zoneEvent_arrival_alarmed (s := s.lineSettled l .active) hs hn
      exact ⟨by rw [hzone]; rfl, by rw [hzone]; rfl, (zoneEvent_batch_promotes hg).take, (zoneEvent_batch_zones hg).2.2⟩
  · obtain ⟨hf, -, k⟩ := zoneEvent_arrived (z := z) (r := .quiet) (s := s.lineSettled l .quiet) (by simp)
    refine ⟨_, settleExpiry_zone hi hl hz hc, ?_, k⟩
    rw [hf, show (s.lineSettled l .quiet).fire = s.fire from rfl, Zone.arrived_delayed_quiet hs]
    rfl
  · have hg := delayExpiry_batch hs hd ha
    have hzone := zoneEvent_batch_self hg
    rw [Fire.setZone_zones, if_pos rfl] at hzone
    exact ⟨_, showDelayExpiry_next z hi, (quietly_zoneEvent _ s).2, by rw [hzone]; rfl, by rw [hzone]; rfl,
      by rw [hzone]; rfl, (zoneEvent_batch_promotes hg).take, (zoneEvent_batch_zones hg).2.2⟩
  · obtain ⟨h1, h2⟩ := zoneEvent_delayExpiry_faulty hs hd hf
    exact ⟨_, showDelayExpiry_next z hi, (quietly_zoneEvent _ s).2, h1, h2⟩
  · have hg := delayExpiry_batch hs hd ha
    refine ⟨_, showDelayExpiry_next z hi, zoneEvent_batch_promotes hg, fun hq _ hne hcls => ?_⟩
    exact zoneEvent_batch_coincident hg hq hne (hcls z (mem_delayedWith.mpr ⟨hs, ha⟩)) hcls
  · obtain ⟨t, hx, hu⟩ := zoneReport_one hz hb (.inr (.inl ⟨rfl, rfl⟩)) ht
    refine ⟨t, hx, (zoneArrival_panel_batch hz hs).relink hu, fun hq _ hne hcz hcls => ?_⟩
    have hall : s.alarming.filter (· ≠ z) = s.alarming := by
      refine List.filter_eq_self.mpr fun y hy => ?_
      have hd := (mem_delayedWith.mp hy).1
      have : y ≠ z := by rintro rfl; rcases hs with hs | hs <;> rw [hs] at hd <;> cases hd
      simpa using this
    exact (zoneEvent_batch_coincident (zoneArrival_batch hs (delayConditions_panel hz _ _)) hq (by rwa [hall]) hcz
      hcls).relink hu

end Sys2Proof.Machine
end

section
/-! The zone, paging zone and line records of the Configuration Store (R24 to R26, R48, R56, R148, R181, R182). -/
namespace Sys2Proof.Machine

/-! ## A record that is taken (R181) -/

theorem configure_open {write : Option (State → State × Answer)} {f : State → State × Answer} {s : State}
    (h : s.house.phase = .unconfigured ∨ s.house.phase = .dark) (hw : write = some f) :
    configure write s = f s := by
  unfold configure
  rw [if_pos (by unfold State.configOpen; rcases h with h | h <;> rw [h] <;> rfl), hw]

theorem flag_toNat (x : Bool) : (if x then (1 : Byte) else 0).toNat = x.toNat := by cases x <;> rfl

/-! ## What a zone is configured to (R24) -/

/-- The four configured fields of a zone. -/
def Zone.config (x : Zone) : ZoneClass × Area × Bool × Bool := (x.cls, x.area, x.curtainRelease, x.delayEligible)

theorem promoteZones_config (now : Nat) (f : Fire) (y : ZoneId) :
    (promoteZones now f).zones[y].config = f.zones[y].config := by
  rw [promoteZones_zones]; split_ifs <;> rfl

theorem changeCondition_config (new : Condition) (cause : FireCause) (s : State) (y : ZoneId) :
    (changeCondition new cause s).fire.zones[y].config = s.fire.zones[y].config := by
  rw [changeCondition_fire, conditionRecorded_fire]
  split
  · exact promoteZones_config _ _ _
  · rfl

/-! ## A zone record (R24, R48, R56) -/

/-- The state in which a zone record has been written and nothing has followed from it. -/
def State.zoneWritten (z : ZoneId) (c : ZoneClass) (a : Area) (release eligible : Bool) (s : State) : State :=
  { s with fire := s.fire.setZone z (s.fire.zones[z].configured c a release eligible) }

theorem zoneWritten_zone (z y : ZoneId) (c : ZoneClass) (a : Area) (release eligible : Bool) (s : State) :
    (s.zoneWritten z c a release eligible).fire.zones[y] =
      if y = z then s.fire.zones[z].configured c a release eligible else s.fire.zones[y] := Fire.setZone_zones _ _ _ _

/-- Everything that can follow from a zone record: nothing on a zone that is not listed; on a listed one the evacuation
of R48, or the demand formed again (R56). -/
theorem afterZoneWrite_cases (z : ZoneId) (old : Zone) (s : State) :
    (z ∉ s.fire.alarmList ∧ afterZoneWrite z old s = s) ∨
      (z ∈ s.fire.alarmList ∧ s.fire.condition = .alert ∧ s.fire.zones[z].cls ≠ old.cls ∧
        ∃ cause, rewriteCause s.fire.zones[z].cls = some cause ∧
          afterZoneWrite z old s = changeCondition .evacuate cause s) ∨
      (z ∈ s.fire.alarmList ∧ (rewriteCause s.fire.zones[z].cls = none ∨
        ¬ (s.fire.condition = .alert ∧ s.fire.zones[z].cls ≠ old.cls)) ∧
        afterZoneWrite z old s = evaluateDemand s) := by
  unfold afterZoneWrite
  by_cases hm : z ∈ s.fire.alarmList
  · rw [if_pos (by simpa using hm)]
    cases hc : rewriteCause s.fire.zones[z].cls with
    | none => exact .inr (.inr ⟨hm, .inl rfl, rfl⟩)
    | some cause =>
      dsimp only
      by_cases hn : s.fire.condition = .alert ∧ s.fire.zones[z].cls ≠ old.cls
      · exact .inr (.inl ⟨hm, hn.1, hn.2, cause, rfl, if_pos hn⟩)
      · exact .inr (.inr ⟨hm, .inr hn, if_neg hn⟩)
  · rw [if_neg (by simpa using hm)]
    exact .inl ⟨hm, rfl⟩

theorem quietly_afterZoneWrite (z : ZoneId) (old : Zone) (s : State) : Quietly s (afterZoneWrite z old s) := by
  rcases afterZoneWrite_cases z old s with ⟨-, k⟩ | ⟨-, -, -, cause, -, k⟩ | ⟨-, -, k⟩ <;> rw [k]
  · exact .refl s
  · exact quietly_changeCondition _ _ s
  · exact quietly_evaluateDemand s

/-- What follows from a zone record configures no zone. -/
theorem afterZoneWrite_config (z : ZoneId) (old : Zone) (s : State) (y : ZoneId) :
    (afterZoneWrite z old s).fire.zones[y].config = s.fire.zones[y].config := by
  rcases afterZoneWrite_cases z old s with ⟨-, k⟩ | ⟨-, -, -, cause, -, k⟩ | ⟨-, -, k⟩ <;> rw [k]
  · exact changeCondition_config _ _ s y
  · rw [evaluateDemand_fire]

/-- The class that a byte names (Table 10-8). -/
theorem zoneClassOf_named {c : Byte} {cls : ZoneClass}
    (h : c = 0 ∧ cls = .detector ∨ c = 1 ∧ cls = .callPoint ∨ c = 2 ∧ cls = .suppression) :
    zoneClassOf c = some cls ∧ cls.code = c.toNat ∧
      (rewriteCause cls = none ↔ cls = .detector) ∧
      ∀ cause, rewriteCause cls = some cause → cause = if c = 1 then .callPoint else .suppression := by
  rcases h with ⟨rfl, rfl⟩ | ⟨rfl, rfl⟩ | ⟨rfl, rfl⟩
  · exact ⟨rfl, rfl, by decide, fun _ h => nomatch h⟩
  · exact ⟨rfl, rfl, by decide, fun _ h => (Option.some.inj h).symm⟩
  · exact ⟨rfl, rfl, by decide, fun _ h => (Option.some.inj h).symm⟩

theorem areaOf_named {a : Byte} {area : Area}
    (h : a = 0 ∧ area = .stage ∨ a = 1 ∧ area = .auditorium ∨ a = 2 ∧ area = .front ∨ a = 3 ∧ area = .backstage) :
    areaOf a = some area ∧ area.code = a.toNat := by
  rcases h with ⟨rfl, rfl⟩ | ⟨rfl, rfl⟩ | ⟨rfl, rfl⟩ | ⟨rfl, rfl⟩ <;> exact ⟨rfl, rfl⟩

/-- The demand formed again from the list, with the release flag as written (R56). -/
theorem zoneWritten_demand (z : ZoneId) (c : ZoneClass) (a : Area) (release eligible : Bool) (s : State) :
    (s.zoneWritten z c a release eligible).fire.demandFor s.fire.condition = true ↔
      s.fire.condition = .evacuate ∨ s.fire.condition = .alert ∧
        ∃ x ∈ s.fire.alarmList, (if x = z then release else s.fire.zones[x].curtainRelease) = true := by
  rw [Fire.demandFor_iff]
  refine or_congr_right (and_congr_right fun _ => exists_congr fun x => and_congr_right fun _ => ?_)
  rw [zoneWritten_zone]
  split <;> rfl

/-- The fields of a zone read from its configuration. -/
theorem Zone.config_eq_iff (x : Zone) (c : ZoneClass) (a : Area) (r d : Bool) :
    x.config = (c, a, r, d) ↔ x.cls = c ∧ x.area = a ∧ x.curtainRelease = r ∧ x.delayEligible = d := by
  simp [Zone.config]

theorem execConfigureZone_named {b c a r e : Byte} {z : ZoneId} {cls : ZoneClass} {area : Area} (hb : b.toNat = z.val)
    (hc : zoneClassOf c = some cls) (ha : areaOf a = some area) (s : State) :
    exec (.configureZone .house b c a r e) s = takeRequest .house (.configureZone .house b c a r e)
      (configure (some (writeZone z cls area (flagOf r) (flagOf e)))) s := by
  show execConfigureZone .house b c a r e s = _
  unfold execConfigureZone
  rw [identifier_of_lt hb, hc, ha]

/-- A zone record that is taken: the reply with the record as stored, and the write with what follows from it. -/
theorem configureZone_taken {s : State} {z : ZoneId} {b c a : Byte} {cls : ZoneClass} {area : Area}
    {release eligible : Bool} (hp : s.house.phase = .unconfigured ∨ s.house.phase = .dark) (hb : b.toNat = z.val)
    (hc : zoneClassOf c = some cls ∧ cls.code = c.toNat) (ha : areaOf a = some area ∧ area.code = a.toNat) {r e : Byte}
    (hr : r = if release then 1 else 0) (he : e = if eligible then 1 else 0)
    (ht : takeable .house ⟨0x01, [0, b, c, a, r, e]⟩ s = true) :
    ∃ t, exec (.configureZone .house b c a r e) s = .next t ∧
      AnsweredWith .house 0x01 (done (.config 0 (some z.val) [c.toNat, a.toNat, r.toNat, e.toNat])) s t ∧
      t = { afterZoneWrite z s.fire.zones[z] (s.zoneWritten z cls area release eligible) with links := t.links } := by
  have flags : flagOf r = release ∧ flagOf e = eligible := by
    rw [hr, he]; exact ⟨flagOf_of_bool release, flagOf_of_bool eligible⟩
  have stores : configure (some (writeZone z cls area (flagOf r) (flagOf e))) s =
      (afterZoneWrite z s.fire.zones[z] (s.zoneWritten z cls area release eligible),
        done (.config 0 (some z.val) [c.toNat, a.toNat, r.toNat, e.toNat])) := by
    rw [configure_open hp rfl, flags.1, flags.2, hr, he, flag_toNat, flag_toNat, ← hc.2, ← ha.2]
    rfl
  have shape : shapeOk (.configureZone .house b c a r e) = true := by
    show (isFlag r && isFlag e) = true
    rw [hr, he, isFlag_of_bool, isFlag_of_bool]
    rfl
  obtain ⟨t, hx, hans, hu, -⟩ := takeRequest_answers (i := .configureZone .house b c a r e) ht rfl rfl shape stores
    (quietly_afterZoneWrite z s.fire.zones[z] (s.zoneWritten z cls area release eligible)).2
  exact ⟨t, (execConfigureZone_named hb hc.1 ha.1 s).trans hx, hans, hu⟩

/-- Settles O47: the record is written, and what follows is nothing, the evacuation of R48 or the demand of R56. -/
theorem configureZoneWrites : Obligations.ConfigureZoneWrites := by
  intro s z b c a cls area release eligible hp hb hc ha r hr e he ht
  obtain ⟨hcls, hcode, hdet, hcause⟩ := zoneClassOf_named hc
  obtain ⟨t, hx, hans, hu⟩ := configureZone_taken hp hb ⟨hcls, hcode⟩ (areaOf_named ha) hr he ht
  have hq := quietly_afterZoneWrite z s.fire.zones[z] (s.zoneWritten z cls area release eligible)
  have hconf := afterZoneWrite_config z s.fire.zones[z] (s.zoneWritten z cls area release eligible)
  have hcases := afterZoneWrite_cases z s.fire.zones[z] (s.zoneWritten z cls area release eligible)
  have hself : (s.zoneWritten z cls area release eligible).fire.zones[z] =
      s.fire.zones[z].configured cls area release eligible := by rw [zoneWritten_zone, if_pos rfl]
  have hnew : (s.zoneWritten z cls area release eligible).fire.zones[z].cls = cls := by rw [hself]; rfl
  rw [hnew] at hcases
  generalize afterZoneWrite z s.fire.zones[z] (s.zoneWritten z cls area release eligible) = u at hq hconf hcases hu
  have hf : t.fire = u.fire := by rw [hu]
  obtain ⟨h1, h2, h3, h4⟩ := (Zone.config_eq_iff _ _ _ _ _).mp ((hconf z).trans (congrArg Zone.config hself))
  refine ⟨t, hx, hans, hf ▸ h1, hf ▸ h2, hf ▸ h3, hf ▸ h4, fun y hy => ?_, fun hm => ?_, fun hm hal hne hnd => ?_,
    fun hm hn => ?_⟩
  · have hy' := hconf y
    rw [zoneWritten_zone, if_neg hy] at hy'
    rw [hf]
    exact (Zone.config_eq_iff _ _ _ _ _).mp hy'
  · rcases hcases with ⟨-, k⟩ | ⟨hm', -⟩ | ⟨hm', -⟩
    · rw [k] at hu
      exact ⟨by rw [hu]; exact ⟨.refl s, rfl, rfl, rfl, rfl⟩, by rw [hu]; rfl⟩
    · exact absurd hm' hm
    · exact absurd hm' hm
  · rcases hcases with ⟨hm', -⟩ | ⟨-, -, -, cause, hca, k⟩ | ⟨-, hno, -⟩
    · exact absurd hm hm'
    · obtain rfl := hcause cause hca
      have hev := changeCondition_evacuated (if c = 1 then .callPoint else .suppression)
        (s.zoneWritten z cls area release eligible)
      rw [← k] at hev
      exact Evacuated.relink (s := s) hev hu
    · rcases hno with hno | hno
      · exact absurd (hdet.mp hno) hnd
      · exact absurd ⟨hal, hne⟩ hno
  · rcases hcases with ⟨hm', -⟩ | ⟨-, hal, hne, cause, hca, -⟩ | ⟨-, -, k⟩
    · exact absurd hm hm'
    · rcases hn with hn | hn | hn
      · rw [hdet.mpr hn] at hca; cases hca
      · exact absurd hal hn
      · exact absurd hn hne
    · have hfire := evaluateDemand_fire (s.zoneWritten z cls area release eligible)
      obtain ⟨hl, hcalls⟩ := evaluateDemand_others (s.zoneWritten z cls area release eligible)
      rw [← k] at hfire hl hcalls
      rw [hf, hfire]
      exact ⟨rfl, rfl, rfl, rfl, zoneWritten_demand z cls area release eligible s, by rw [hu]; exact hl,
        by rw [hu]; exact hcalls, by rw [hu]; exact hq.1⟩

end Sys2Proof.Machine
end

section
/-! The paging zones under the acts at the calls (R148, R151, R154, R157 to R160), and the records of a paging zone
and of a line (R25, R26, R148, R181, R182). -/
namespace Sys2Proof.Machine

/-! ## The paging zones but for their connections -/

/-- Every paging zone stands as it was, but for the channel that it connects (R148). -/
def Calls.SameZones (c c' : Calls) : Prop :=
  ∀ z : Fin 12, c'.paging[z] = { c.paging[z] with conn := c'.paging[z].conn }

theorem Calls.SameZones.of_paging {c c' : Calls} (h : c'.paging = c.paging) : c.SameZones c' := fun z => by rw [h]

theorem Calls.SameZones.refl (c : Calls) : c.SameZones c := .of_paging rfl

theorem Calls.SameZones.trans {a b c : Calls} (h : a.SameZones b) (k : b.SameZones c) : a.SameZones c := fun z => by
  rw [k z, h z]

theorem sameZones_connect (ch : Channel) (set : ZoneSet) (c : Calls) : c.SameZones (c.connect ch set) := fun z => by
  rw [show (c.connect ch set).paging[z] = _ from vmapIdx_get _ c.paging z]
  split <;> rfl

theorem sameZones_release (ch : Channel) (c : Calls) : c.SameZones (c.release ch) := fun z => by
  rw [release_zone]; split <;> rfl

theorem sameZones_setChan (ch : Channel) (r : ChannelRecord) (c : Calls) : c.SameZones (c.setChan ch r) :=
  .of_paging (by cases ch <;> rfl)

theorem sameZones_stopChannel (e : CallEnv) (ch : Channel) (c : Calls) : c.SameZones (stopChannel e ch c) :=
  (sameZones_release ch c).trans (sameZones_setChan ch _ _)

theorem sameZones_finishCall (now : Nat) (i : CallId) (o : CallOutcome) (w : Act Calls) :
    w.val.SameZones (finishCall now i o w).val := .of_paging (by rw [finishCall_others])

theorem sameZones_startPlay (ch : Channel) (i : CallId) (live : ZoneSet) (c : Calls) :
    c.SameZones (startPlay ch i live c) :=
  (sameZones_connect ch live _).trans (sameZones_setChan ch _ _)

theorem sameZones_preEmpt (e : CallEnv) (ch : Channel) (w : Act Calls) : w.val.SameZones (preEmpt e ch w).val := by
  unfold preEmpt
  split
  · exact (sameZones_finishCall _ _ _ w).trans (sameZones_stopChannel _ _ _)
  · exact .refl _

/-! ## The searches of the built-in calls and the walk -/

theorem sameZones_builtInStarted (b : BuiltIn) (ch : Channel) (zones : ZoneSet) (c : Calls) :
    c.SameZones (c.builtInStarted b ch zones) := fun z => by
  rw [builtInStarted_zone]; split <;> rfl

theorem sameZones_startBuiltIn (e : CallEnv) (b : BuiltIn) (ch : Channel) (w : Act Calls) :
    w.val.SameZones (startBuiltIn e b ch w).val := by
  have starts (v : Act Calls) (zones : ZoneSet) : v.val.SameZones (v.val.builtInStarted b ch zones) :=
    sameZones_builtInStarted b ch zones v.val
  unfold startBuiltIn
  dsimp only
  split
  · exact (sameZones_preEmpt e _ w).trans (starts _ _)
  · exact starts w _

theorem sameZones_seekEvacuation (e : CallEnv) (announce : Bool) (w : Act Calls) :
    w.val.SameZones (seekEvacuation e announce w).val := by
  unfold seekEvacuation
  split
  · split
    · exact .refl _
    · split
      · exact sameZones_startBuiltIn e _ _ w
      · split <;> exact .refl _
  · exact .refl _

theorem sameZones_seekStaffAlert (e : CallEnv) (w : Act Calls) : w.val.SameZones (seekStaffAlert e w).val := by
  unfold seekStaffAlert
  split
  · split
    · exact sameZones_startBuiltIn e _ _ w
    · split
      · exact sameZones_startBuiltIn e _ _ w
      · exact .refl _
  · exact .refl _

theorem sameZones_seekBuiltIns (e : CallEnv) (announce : Bool) (w : Act Calls) :
    w.val.SameZones (seekBuiltIns e announce w).val :=
  (sameZones_seekEvacuation e announce w).trans (sameZones_seekStaffAlert e _)

theorem sameZones_walkOne (now : Nat) (a : Act Calls × ZoneSet) (i : CallId) :
    a.1.val.SameZones (walkOne now a i).1.val := by
  unfold walkOne
  dsimp only
  split
  · exact sameZones_finishCall now i _ (a.1.map (Calls.setDesc i _))
  · split
    · split
      · exact sameZones_startPlay _ i _ _
      · exact .refl _
    · exact .refl _

theorem sameZones_walk (now : Nat) (w : Act Calls) : w.val.SameZones (walk now w).val := by
  have folded (is : List CallId) (a : Act Calls × ZoneSet) :
      a.1.val.SameZones (is.foldl (walkOne now) a).1.val := by
    induction is generalizing a with
    | nil => exact .refl _
    | cons i is ih => exact (sameZones_walkOne now a i).trans (ih _)
  unfold walk
  split
  · exact .refl _
  · exact folded w.val.ready (w, 0)

theorem sameZones_afterPagingWrite (e : CallEnv) (w : Act Calls) : w.val.SameZones (afterPagingWrite e w).val := by
  unfold afterPagingWrite
  dsimp only
  split
  · exact sameZones_seekBuiltIns e false w
  · exact (sameZones_seekBuiltIns e false w).trans (sameZones_walk _ _)

/-- With no built-in call waiting a search finds nothing to start (R159). -/
theorem seekBuiltIns_idle {e : CallEnv} {announce : Bool} {w : Act Calls} (h1 : w.val.evacuation ≠ .waiting)
    (h2 : w.val.staffAlert ≠ .waiting) : seekBuiltIns e announce w = w := by
  have hev : seekEvacuation e announce w = w := if_neg h1
  unfold seekBuiltIns
  rw [hev]
  exact if_neg fun h => h2 h.1

theorem afterPagingWrite_idle {e : CallEnv} {w : Act Calls} (h : NothingWaits w.val) : afterPagingWrite e w = w := by
  unfold afterPagingWrite
  rw [seekBuiltIns_idle h.2.1 h.2.2]
  exact if_pos ⟨rfl, rfl⟩

/-! ## A paging zone record (R148) -/

/-- The calls with the two memberships of a paging zone written. -/
def Calls.zoneWritten (z : Fin 12) (staff evac : Bool) (c : Calls) : Calls :=
  { c with paging := c.paging.set z { c.paging[z] with staff := staff, evac := evac } }

theorem Calls.zoneWritten_zone (z y : Fin 12) (staff evac : Bool) (c : Calls) :
    (c.zoneWritten z staff evac).paging[y] =
      if y = z then { c.paging[z] with staff := staff, evac := evac } else c.paging[y] := by
  simp [Calls.zoneWritten, Vector.getElem_set, Fin.ext_iff, eq_comm]

/-- The state after a paging zone record, with the search that follows it (R159). -/
def State.pagingWritten (z : Fin 12) (staff evac : Bool) (s : State) : State :=
  ({ s with calls := s.calls.zoneWritten z staff evac } : State).onCalls afterPagingWrite

theorem execConfigurePagingZone_named {b st ev : Byte} {z : Fin 12} (hb : b.toNat = z.val) (s : State) :
    exec (.configurePagingZone .house b st ev) s = takeRequest .house (.configurePagingZone .house b st ev)
      (configure (some (writePagingZone z (flagOf st) (flagOf ev)))) s := by
  show execConfigurePagingZone .house b st ev s = _
  unfold execConfigurePagingZone
  rw [identifier_of_lt hb]

/-- What a paging zone record leaves of every paging zone. -/
theorem pagingWritten_zone (z y : Fin 12) (staff evac : Bool) (s : State) :
    (s.pagingWritten z staff evac).calls.paging[y] =
      { (if y = z then { s.calls.paging[z] with staff := staff, evac := evac } else s.calls.paging[y]) with
        conn := (s.pagingWritten z staff evac).calls.paging[y].conn } := by
  have h : (s.calls.zoneWritten z staff evac).SameZones (s.pagingWritten z staff evac).calls :=
    sameZones_afterPagingWrite _ ⟨s.calls.zoneWritten z staff evac, []⟩
  exact (h y).trans (by rw [Calls.zoneWritten_zone])

/-- With nothing waiting for a channel the record is all that is written. -/
theorem pagingWritten_calls {z : Fin 12} {staff evac : Bool} {s : State} (h : NothingWaits s.calls) :
    (s.pagingWritten z staff evac).calls = s.calls.zoneWritten z staff evac := by
  unfold State.pagingWritten
  rw [State.onCalls_calls, afterPagingWrite_idle (w := ⟨s.calls.zoneWritten z staff evac, []⟩) h]

theorem configurePagingZone_taken {s : State} {z : Fin 12} {b st ev : Byte} {staff evac : Bool}
    (hp : s.house.phase = .unconfigured ∨ s.house.phase = .dark) (hb : b.toNat = z.val)
    (hst : st = if staff then 1 else 0) (hev : ev = if evac then 1 else 0)
    (ht : takeable .house ⟨0x01, [5, b, st, ev]⟩ s = true) :
    ∃ t, exec (.configurePagingZone .house b st ev) s = .next t ∧
      AnsweredWith .house 0x01 (done (.config 5 (some z.val) [st.toNat, ev.toNat])) s t ∧
      t = { s.pagingWritten z staff evac with links := t.links } := by
  have flags : flagOf st = staff ∧ flagOf ev = evac := by
    rw [hst, hev]; exact ⟨flagOf_of_bool staff, flagOf_of_bool evac⟩
  have stores : configure (some (writePagingZone z (flagOf st) (flagOf ev))) s =
      (s.pagingWritten z staff evac, done (.config 5 (some z.val) [st.toNat, ev.toNat])) := by
    rw [configure_open hp rfl, flags.1, flags.2, hst, hev, flag_toNat, flag_toNat]
    rfl
  have shape : shapeOk (.configurePagingZone .house b st ev) = true := by
    show (isFlag st && isFlag ev) = true
    rw [hst, hev, isFlag_of_bool, isFlag_of_bool]
    rfl
  have written : Quietly s (s.pagingWritten z staff evac) :=
    (quietly_blocks s s.house s.fire s.curtain s.lights (s.calls.zoneWritten z staff evac)).trans (quietly_onCalls _ _)
  obtain ⟨t, hx, hans, hu, -⟩ := takeRequest_answers (i := .configurePagingZone .house b st ev) ht rfl rfl shape stores
    written.2
  exact ⟨t, (execConfigurePagingZone_named hb s).trans hx, hans, hu⟩

/-! ## A line record (R25, R26, R182) -/

theorem execConfigureLine_named {b q t : Byte} {l : Line} (hb : b.toNat = l.val) (s : State) :
    exec (.configureLine .house b q t) s = takeRequest .house (.configureLine .house b q t)
      (configure (some (writeLine l (flagOf q) t.toNat))) s := by
  show execConfigureLine .house b q t s = _
  unfold execConfigureLine
  rw [identifier_of_lt hb]

/-- A line's record with its polarity and settle time written, its raw reading formed again at once (R25, R182). -/
def LineRecord.written (l : Line) (nc : Bool) (n : Nat) (pin : LinePins) (r : LineRecord) : LineRecord :=
  LineRecord.update (rawReading l nc pin) { r with normallyClosed := nc, settleTime := clampNat 1 50 n }

theorem writeLine_lines (l : Line) (nc : Bool) (n : Nat) (s : State) :
    (writeLine l nc n s).1 = { s with lines := s.lines.set l (s.lines[l].written l nc n s.pins.lines[l]) } := by
  unfold writeLine State.reread State.raw LineRecord.written
  dsimp only
  rw [show ∀ r, (s.lines.set l r)[l] = r from fun r => Vector.getElem_set_self ..]
  simp [-Fin.getElem_fin]

/-- CLAMPED exactly when the settle time was brought into its range (R174, R182). -/
theorem settleTime_clamped (n : Nat) (b : Body) :
    doneOrClamped (decide (clampNat 1 50 n ≠ n)) b = ⟨if 1 ≤ n ∧ n ≤ 50 then .done else .clamped, b⟩ := by
  have h : clampNat 1 50 n ≠ n ↔ ¬ (1 ≤ n ∧ n ≤ 50) := by unfold clampNat; omega
  unfold doneOrClamped
  by_cases hn : 1 ≤ n ∧ n ≤ 50
  · rw [if_pos hn, if_neg (by simpa using mt h.mp (not_not.mpr hn))]
  · rw [if_neg hn, if_pos (by simpa using h.mpr hn)]

/-- Settles O50: a paging zone record reaches the connections alone beside its zone, and a line record is read at
once. -/
theorem pagingAndLineRecordsAreWritten : Obligations.PagingAndLineRecordsAreWritten := by
  refine ⟨fun s z b staff evac hp hb st hst ev hev ht => ?_, ?_⟩
  · obtain ⟨t, hx, hans, hu⟩ := configurePagingZone_taken hp hb hst hev ht
    have hc : t.calls = (s.pagingWritten z staff evac).calls := by rw [hu]
    have hz := pagingWritten_zone z z staff evac s
    rw [if_pos rfl, ← hc] at hz
    refine ⟨t, hx, hans, by rw [hu]; exact ⟨.refl s, rfl, rfl, rfl, rfl⟩, by rw [hz], by rw [hz], fun y => ?_,
      fun hn => hc.trans (pagingWritten_calls hn)⟩
    have hy := pagingWritten_zone z y staff evac s
    rw [← hc] at hy
    by_cases he : y = z
    · rw [if_pos he, ← he] at hy
      rw [hy]
      exact ⟨rfl, rfl, fun hne => absurd he hne⟩
    · rw [if_neg he] at hy
      rw [hy]
      exact ⟨rfl, rfl, fun _ => ⟨rfl, rfl⟩⟩
  · rintro s l b t nc hp hb q hq ht raw hraw r rfl
    have hflag : flagOf q = nc := by rw [hq]; exact flagOf_of_bool nc
    have shape : shapeOk (.configureLine .house b q t) = true := by
      show isFlag q = true
      rw [hq, isFlag_of_bool]
    have hblock : configure (some (writeLine l (flagOf q) t.toNat)) s =
        ((writeLine l nc t.toNat s).1, ⟨if 1 ≤ t.toNat ∧ t.toNat ≤ 50 then .done else .clamped,
          .config 8 (some l.val) [q.toNat, max 1 (min 50 t.toNat)]⟩) := by
      rw [configure_open hp rfl, hflag, ← settleTime_clamped, hq, flag_toNat]
      rfl
    rw [execConfigureLine_named hb]
    refine (takeRequest_silent (i := .configureLine .house b q t) ht rfl rfl shape hblock rfl).trans ?_
    rw [writeLine_lines, LineRecord.written, LineRecord.update_eq,
      show rawReading l nc s.pins.lines[l] = raw from (rawReading_eq l nc _ _).trans hraw.symm]
    rfl

end Sys2Proof.Machine
end

section
/-! The nine READ requests (R42, R60, R62, R85, R99, R113, R147, R155, R178, R179). -/
namespace Sys2Proof.Machine

/-! ## A READ answers with a report and changes nothing else -/

section
variable {p : Port} {i : Instr} {b : Option Body} {s : State}

theorem read_answered {x : Body} (ht : takeable p (requestFrame i) s = true)
    (hk : kindKnown (requestFrame i).kind = true) (hp : permitted p (requestFrame i).kind = true)
    (hs : shapeOk i = true) (hb : b = some x) :
    takeRequest p i (report b) s = .next (s.withReply p (requestFrame i).kind (done x)) :=
  takeRequest_unchanged ht hk hp hs (by rw [hb]; rfl)

theorem read_refused (ht : takeable p (requestFrame i) s = true) (hk : kindKnown (requestFrame i).kind = true)
    (hp : permitted p (requestFrame i).kind = true) (hs : shapeOk i = true) (hb : b = none) :
    takeRequest p i (report b) s = .next (s.withReply p (requestFrame i).kind ⟨.refused, .refusal .badNumber⟩) :=
  takeRequest_unchanged ht hk hp hs (by rw [hb]; rfl)

end

/-- A request that can be taken comes to a part that is not held inert (R184). -/
theorem takeable_inert {p : Port} {f : Frame} {s : State} (h : takeable p f s = true) : s.inert = false := by
  simp only [takeable, Bool.and_eq_true, Bool.not_eq_true'] at h
  exact h.1.1

/-! ## The outputs that the reports show -/

/-- Some entry of a vector passes a test exactly when its list has one that does. -/
theorem vector_any {α : Type} {n : Nat} (v : Vector α n) (f : α → Bool) :
    v.toList.any f = decide (∃ z : Fin n, f v[z] = true) := by
  rw [Bool.eq_iff_iff, List.any_eq_true, decide_eq_true_iff]
  constructor
  · rintro ⟨r, hr, hf⟩
    obtain ⟨k, hk, rfl⟩ := List.getElem_of_mem hr
    exact ⟨⟨k, by simpa using hk⟩, by simpa using hf⟩
  · rintro ⟨z, hz⟩
    exact ⟨v[z], by simp, hz⟩

/-- The attention outputs are on exactly while some zone has the desk's flag pending (R42). -/
theorem State.attention {s : State} (h : s.inert = false) :
    s.promptAttention = decide (∃ z : ZoneId, s.fire.zones[z].pendingPrompt = true) ∧
      s.houseAttention = decide (∃ z : ZoneId, s.fire.zones[z].pendingHouse = true) := by
  unfold State.promptAttention State.houseAttention Fire.promptAttention Fire.houseAttention
  rw [h, vector_any, vector_any]
  exact ⟨rfl, rfl⟩

theorem State.curtainOutputs_live {s : State} (h : s.inert = false) : s.curtainOutputs = s.curtain.outputs := by
  unfold State.curtainOutputs
  rw [h]
  rfl

theorem Curtain.retardState_eq (c : Curtain) : c.retardState = decide (c.descent.map (·.retard) = some true) := by
  unfold Curtain.retardState
  cases c.descent <;> simp

/-! ## The lights -/

theorem Lights.override_eq (l : Lights) : l.override = decide (l.panic = true ∨ l.fireSeen = .evacuate) := by
  unfold Lights.override
  rw [Bool.eq_iff_iff]
  simp

theorem Lights.blackoutEffective_eq (l : Lights) : l.blackoutEffective =
    decide (l.blackout = .active ∧ l.phaseSeen = .act ∧ ¬ (l.panic = true ∨ l.fireSeen = .evacuate)) := by
  unfold Lights.blackoutEffective
  rw [Lights.override_eq, Bool.eq_iff_iff]
  simp [and_assoc]

theorem Phase.occupied_iff (p : Phase) :
    p.occupied = true ↔ p = .houseOpen ∨ p = .act ∨ p = .interval ∨ p = .stopped ∨ p = .emptying := by
  cases p <;> simp [Phase.occupied]

/-- The level of a circuit as R126 composes it. -/
theorem Lights.outputOf_eq (l : Lights) (escapeMin : Nat) (c : Circuit) :
    l.outputOf escapeMin c = composedLevel l escapeMin c := by
  unfold Lights.outputOf composedLevel
  by_cases ho : l.panic = true ∨ l.fireSeen = .evacuate
  · rw [Lights.override_eq, if_pos (by simpa using ho), if_pos ho]
  · rw [Lights.override_eq, if_neg (by simpa using ho), if_neg ho]
    have hm : (l.blackoutEffective && !c.masked) = true ↔
        l.blackout = .active ∧ l.phaseSeen = .act ∧ c.masked = false := by
      rw [Lights.blackoutEffective_eq, Bool.and_eq_true, decide_eq_true_iff, Bool.not_eq_true']
      simp only [ho, not_false_eq_true, and_true, and_assoc]
    have hl : (l.phaseSeen.occupied && c.escapeLit) = true ↔
        (l.phaseSeen = .houseOpen ∨ l.phaseSeen = .act ∨ l.phaseSeen = .interval ∨ l.phaseSeen = .stopped ∨
          l.phaseSeen = .emptying) ∧ c.escapeLit = true := by
      rw [Bool.and_eq_true, Phase.occupied_iff]
    simp only [hm, hl]

/-- A range of one to eight circuits is read where it ends by circuit 47 (R113). -/
theorem rangeReport_in {first count : Nat} (h1 : 1 ≤ count) (h8 : count ≤ 8) (h48 : first + count ≤ 48) (s : State) :
    rangeReport first count s = some (.circuits first
      (((s.lights.circuits.toList.drop first).take count).map fun c => (c, composedLevel s.lights s.params.escapeMin c))
      (lightsReport s)) := by
  unfold rangeReport
  rw [if_pos ⟨h1, h8, h48⟩]
  simp only [Lights.outputOf_eq]

theorem rangeReport_out {first count : Nat} (h : count = 0 ∨ 8 < count ∨ 48 < first + count) (s : State) :
    rangeReport first count s = none := if_neg (by omega)

/-! ## The calls -/

/-- A built-in call that waits is reported with the zones that a start would read now (R130, R159, log 33). -/
theorem Calls.reported_eq (c : Calls) (x : CallId) :
    c.reported x =
      if x = 0 ∧ c.evacuation = .waiting then { c.table[x] with zones := c.evacZones }
      else if x = 1 ∧ c.staffAlert = .waiting then { c.table[x] with zones := c.staffZones }
      else c.table[x] := by
  by_cases h0 : x = 0
  · subst h0
    show (if c.evacuation = .waiting then _ else _) = _
    simp only [true_and, show ¬ ((0 : CallId) = 1) by decide, false_and, if_false]
    rfl
  · by_cases h1 : x = 1
    · subst h1
      show (if c.staffAlert = .waiting then _ else _) = _
      simp only [true_and, show ¬ ((1 : CallId) = 0) by decide, false_and, if_false]
      rfl
    · have hb : builtInOf x = none := by
        have v0 : x.val ≠ 0 := fun h => h0 (Fin.ext h)
        have v1 : x.val ≠ 1 := fun h => h1 (Fin.ext h)
        exact (if_neg v0).trans (if_neg v1)
      unfold Calls.reported
      rw [hb, if_neg (fun h => h0 h.1), if_neg (fun h => h1 h.1)]

theorem Calls.placeOf_eq (c : Calls) (x : CallId) :
    c.placeOf x = if c.table[x].life = .ready ∧ x ∈ c.ready then some (c.ready.idxOf x + 1) else none := by
  unfold Calls.placeOf
  simp only [List.contains_iff_mem]

/-- Every entry of the finished list is counted for the prompt desk, for the house desk or as a built-in call (R179). -/
theorem Calls.finished_counted (c : Calls) :
    c.finishedOf .prompt + c.finishedOf .house + c.finishedBuiltIns = c.finished.length := by
  unfold Calls.finishedOf Calls.finishedBuiltIns
  induction c.finished with
  | nil => rfl
  | cons x xs ih =>
    rw [List.length_cons, ← ih]
    cases x with
    | builtIn b o => simp; omega
    | general i => cases hc : c.table[i].creator <;> simp [hc, -Fin.getElem_fin] <;> omega

/-! ## Each READ on its operand -/

theorem execReadZones_first {p : Port} {b : Byte} {s : State} (ht : takeable p ⟨0x31, [b]⟩ s = true)
    (hb : b.toNat < 32) : exec (.readZones p b) s = .next (s.withReply p 0x31
      (done (.zones b.toNat ((s.fire.zones.toList.drop b.toNat).take 8) s.promptAttention s.houseAttention))) :=
  read_answered (i := .readZones p b) ht rfl rfl rfl
    (congrArg (Option.map _) (identifier_of_lt (i := ⟨b.toNat, hb⟩) rfl))

theorem execReadAlarmList_first {p : Port} {b : Byte} {s : State} (ht : takeable p ⟨0x32, [b]⟩ s = true)
    (hb : b.toNat < 32) : exec (.readAlarmList p b) s = .next (s.withReply p 0x32 (done (.alarmList
      { condition := s.fire.condition, previous := s.fire.previous, cause := s.fire.cause
        enteredAt := s.fire.enteredAt, investigation := s.fire.investigation, demand := s.fire.demand
        length := s.fire.alarmList.length, delayed := s.fire.delayedCount
        entries := ((s.fire.alarmList.drop b.toNat).take 10).map s.fire.entry }))) :=
  read_answered (i := .readAlarmList p b) ht rfl rfl rfl
    (congrArg (Option.map _) (identifier_of_lt (i := ⟨b.toNat, hb⟩) rfl))

theorem execReadCircuits_range {p : Port} {a c : Byte} {s : State} (ht : takeable p ⟨0x34, [0, a, c]⟩ s = true)
    (h1 : 1 ≤ c.toNat) (h8 : c.toNat ≤ 8) (h48 : a.toNat + c.toNat ≤ 48) :
    exec (.readCircuits p 0 a c) s = .next (s.withReply p 0x34 (done (.circuits a.toNat
      (((s.lights.circuits.toList.drop a.toNat).take c.toNat).map fun x =>
        (x, composedLevel s.lights s.params.escapeMin x)) (lightsReport s)))) :=
  read_answered (i := .readCircuits p 0 a c) ht rfl rfl rfl (rangeReport_in h1 h8 h48 s)

theorem execReadCall_number {p : Port} {b : Byte} {x : CallId} {s : State} (ht : takeable p ⟨0x35, [b]⟩ s = true)
    (hb : b.toNat = x.val + 1) :
    exec (.readCall p b) s = .next (s.withReply p 0x35 (done (.call (x.val + 1) (s.calls.reported x)
      (anchorValueOf s.house.anchors s.calls.table[x]) (s.calls.placeOf x)))) :=
  read_answered (i := .readCall p b) ht rfl rfl rfl (congrArg (Option.map _) (identifierFrom1_of_lt hb))

theorem curtainSection_out {b : Byte} (h : 3 ≤ b.toNat) (s : State) : curtainSection b s = none := by
  obtain ⟨k, hk⟩ := Nat.exists_eq_add_of_le' h
  unfold curtainSection
  rw [hk]
  rfl

/-- Settles O9: every READ is a report of its block, and a report leaves the state alone. -/
theorem readsAnswerAndChangeNothing : Obligations.ReadsAnswerAndChangeNothing := by
  refine ⟨?_, fun s p b => ⟨fun ht hb => ?_, fun ht hb => ?_, fun ht hb => ?_, fun c ht hc => ?_, fun ht hb => ?_,
    fun ht hb => ?_⟩⟩
  · intro s p outputs hout promptOn hprompt houseOn hhouse
    have live (h : s.inert = false) :
        s.curtainOutputs = outputs ∧ s.promptAttention = promptOn ∧ s.houseAttention = houseOn := by
      refine ⟨?_, hprompt ▸ (State.attention h).1, hhouse ▸ (State.attention h).2⟩
      rw [State.curtainOutputs_live h, hout]
      unfold Curtain.outputs
      rw [Curtain.retardState_eq]
      cases s.curtain.state <;> rfl
    refine ⟨live, fun ht => ?_, fun b ht hb => ?_, fun b ht hb => ?_, fun b ht => ⟨?_, ?_, ?_⟩,
      fun a c ht h1 h8 h48 => ?_, fun b n ht hb => ?_, fun b x ht hb d hd => ?_,
      fun ht => ⟨?_, s.calls.finished_counted⟩, fun ht => ?_, fun ht => ?_⟩
    · exact read_answered (i := .readHouse p) ht rfl rfl rfl rfl
    · obtain ⟨-, h1, h2⟩ := live (takeable_inert ht)
      rw [execReadZones_first ht hb, h1, h2]
    · exact execReadAlarmList_first ht hb
    · rintro rfl
      obtain ⟨h0, -, -⟩ := live (takeable_inert ht)
      rw [← h0]
      exact read_answered (i := .readCurtain p 0) ht rfl rfl rfl rfl
    · rintro rfl
      exact read_answered (i := .readCurtain p 1) ht rfl rfl rfl rfl
    · rintro rfl
      exact read_answered (i := .readCurtain p 2) ht rfl rfl rfl rfl
    · rw [execReadCircuits_range ht h1 h8 h48, ← Lights.override_eq, ← Lights.blackoutEffective_eq]
      rfl
    · exact read_answered (i := .readCircuits p 1 b 0) ht rfl rfl rfl
        (congrArg (Option.map _) (identifierFrom1_of_lt hb))
    · rw [execReadCall_number ht hb, hd, ← Calls.reported_eq, ← Calls.placeOf_eq]
      rfl
    · exact read_answered (i := .readQueues p) ht rfl rfl rfl rfl
    · exact read_answered (i := .readChannels p) ht rfl rfl rfl rfl
    · exact read_answered (i := .readLinks p) ht rfl rfl rfl rfl
  · exact read_refused (i := .readZones p b) ht rfl rfl rfl (congrArg (Option.map _) (identifier_of_ge hb))
  · exact read_refused (i := .readAlarmList p b) ht rfl rfl rfl (congrArg (Option.map _) (identifier_of_ge hb))
  · exact read_refused (i := .readCurtain p b) ht rfl rfl rfl (curtainSection_out hb s)
  · have hn : c.toNat = 0 ∨ 8 < c.toNat ∨ 48 < b.toNat + c.toNat := hc.imp_left fun h => by rw [h]; rfl
    exact read_refused (i := .readCircuits p 0 b c) ht rfl rfl rfl (rangeReport_out hn s)
  · have hn : b.toNat = 0 ∨ 8 < b.toNat := hb.imp_left fun h => by rw [h]; rfl
    exact read_refused (i := .readCircuits p 1 b 0) ht rfl rfl rfl (congrArg (Option.map _) (identifierFrom1_out hn))
  · have hn : b.toNat = 0 ∨ 48 < b.toNat := hb.imp_left fun h => by rw [h]; rfl
    exact read_refused (i := .readCall p b) ht rfl rfl rfl (congrArg (Option.map _) (identifierFrom1_out hn))

end Sys2Proof.Machine
end

section
/-! A change of presence (R43, R44, R119, R170, R171): what it does at the ports and what its block makes of it. -/
namespace Sys2Proof.Machine

/-! ## Notices and one port -/

theorem PortRecord.queueNotice_lost {now : Nat} {n : Notice} {r : PortRecord} (h : r.present = false) :
    r.queueNotice now n = r := by
  unfold PortRecord.queueNotice
  rw [h]
  rfl

theorem Links.raise_lost {now : Nat} {m : Mail} {l : Links} {p : Port} (h : (l.get p).present = false) :
    (l.raise now m).get p = l.get p := by
  unfold Links.raise
  generalize m.ports = qs
  induction qs generalizing l with
  | nil => rfl
  | cons q qs ih =>
    have hq : (l.set q ((l.get q).queueNotice now m.notice)).get p = l.get p := by
      rw [Links.get_set]
      split
      · next he => subst he; exact PortRecord.queueNotice_lost h
      · rfl
    rw [List.foldl_cons, ih (hq.symm ▸ h), hq]

/-- No notice joins a LOST port (R176). -/
theorem Links.post_lost {now : Nat} {ms : List Mail} {l : Links} {p : Port} (h : (l.get p).present = false) :
    (l.post now ms).get p = l.get p := by
  unfold Links.post
  induction ms generalizing l with
  | nil => rfl
  | cons m ms ih =>
    have hm : (l.raise now m).get p = l.get p := Links.raise_lost h
    rw [List.foldl_cons, ih (hm.symm ▸ h), hm]

theorem linkMail_ports {p q : Port} {present : Bool} {v : Option Nat} (h : q = .prompt ∨ q = .house) :
    q ∈ (linkMail p present v).ports := by
  rcases h with rfl | rfl
  · exact List.mem_cons_self ..
  · exact List.mem_cons_of_mem _ (List.mem_cons_self ..)

/-! ## The hand-off of a change of presence -/

/-- With the panel LOST no zone enters ALARM, so the ladder is not asked. -/
theorem zoneEvent_panelLoss (s : State) : zoneEvent panelLoss s = (s.onZones panelLoss).1 := rfl

/-- What the hand-off of a change at port `p` can touch: the Lighting Controller for the console, the Fire Monitor for
the panel, and notices. -/
structure PresenceHanded (p : Port) (s t : State) : Prop where
  posts : ∃ ms, t.links = s.links.post s.clock ms
  house : t.house = s.house
  curtain : t.curtain = s.curtain
  calls : t.calls = s.calls
  base : KeepsBase s t
  lights : p ≠ .console → t.lights = s.lights
  fire : p ≠ .panel → t.fire = s.fire

theorem onZones_handed (f : ZoneEvent) (s : State) : PresenceHanded .panel s (s.onZones f).1 :=
  ⟨⟨_, rfl⟩, rfl, rfl, rfl, .refl s, fun _ => rfl, fun h => absurd rfl h⟩

theorem handPresence_handed (p : Port) (present : Bool) (s : State) :
    PresenceHanded p s (handPresence p present s) := by
  cases p with
  | prompt => exact ⟨⟨[], rfl⟩, rfl, rfl, rfl, .refl s, fun _ => rfl, fun _ => rfl⟩
  | house => exact ⟨⟨[], rfl⟩, rfl, rfl, rfl, .refl s, fun _ => rfl, fun _ => rfl⟩
  | console => exact ⟨⟨_, rfl⟩, rfl, rfl, rfl, .refl s, fun h => absurd rfl h, fun _ => rfl⟩
  | panel =>
    cases present with
    | true => exact ⟨⟨_, rfl⟩, rfl, rfl, rfl, .refl s, fun _ => rfl, fun _ => rfl⟩
    | false =>
      show PresenceHanded .panel s (zoneEvent panelLoss s)
      rw [zoneEvent_panelLoss]
      exact onZones_handed panelLoss s

/-! ## A change of presence as a whole (R171) -/

section
variable (p : Port) (r : PortRecord) (v : Option Nat) (s : State)

theorem completePresence_handed :
    PresenceHanded p ((s.setPort p { r with changedAt := some s.clock }).post [linkMail p r.present v])
      (completePresence p r v s) :=
  handPresence_handed p r.present _

/-- The ports after a change: the record of the changed port, the LINK STATE, and the notices of the block. -/
theorem completePresence_links : ∃ ms, (completePresence p r v s).links =
    (s.links.set p { r with changedAt := some s.clock }).post s.clock (linkMail p r.present v :: ms) := by
  obtain ⟨ms, h⟩ := (completePresence_handed p r v s).posts
  exact ⟨ms, h⟩

theorem completePresence_own :
    { r with changedAt := some s.clock : PortRecord }.onlyNotices ((completePresence p r v s).links.get p) := by
  obtain ⟨ms, h⟩ := completePresence_links p r v s
  rw [h]
  simpa using Links.post_onlyNotices s.clock (linkMail p r.present v :: ms)
    (s.links.set p { r with changedAt := some s.clock }) p

variable {p r v s} {q : Port}

theorem completePresence_other (hq : q ≠ p) :
    (s.links.get q).onlyNotices ((completePresence p r v s).links.get q) := by
  obtain ⟨ms, h⟩ := completePresence_links p r v s
  rw [h, ← Links.get_set_of_ne s.links { r with changedAt := some s.clock } hq]
  exact Links.post_onlyNotices _ _ _ q

theorem completePresence_reaches (hq : q ≠ p) (hd : q = .prompt ∨ q = .house) :
    Reaches q (.linkState p r.present v) s (completePresence p r v s) := by
  obtain ⟨ms, h⟩ := completePresence_links p r v s
  rw [reaches_iff_hears, h, ← Links.get_set_of_ne s.links { r with changedAt := some s.clock } hq]
  exact Links.post_hears s.clock (m := linkMail p r.present v) _ (List.mem_cons_self ..) (linkMail_ports hd)

/-- A port that became LOST keeps the record that the change gave it. -/
theorem completePresence_lost (hr : r.present = false) :
    (completePresence p r v s).links.get p = { r with changedAt := some s.clock } := by
  obtain ⟨ms, h⟩ := completePresence_links p r v s
  rw [h, Links.post_lost (by rw [Links.get_set_self]; exact hr), Links.get_set_self]

end

/-! ## The console is LOST (R119) -/

theorem startAll_circuit (now slot : Nat) (target : Nat → Circuit → Nat) (l : Lights) (i : Fin 48) :
    (l.startAll now slot target).circuits[i] =
      l.circuits[i].startFade now slot (l.slotDuration slot) (target i l.circuits[i]) :=
  vmapIdx_get _ _ i

theorem consoleLinkChange_house {present : Bool} {e : LightEnv} {w : Act Lights} (h : w.val.authority = .house) :
    consoleLinkChange present e w = w.map fun l => { l with consoleSeen := present } :=
  if_neg fun k => absurd (h.symm.trans k.2) (by decide)

theorem consoleLinkChange_back (e : LightEnv) (w : Act Lights) :
    consoleLinkChange true e w = w.map fun l => { l with consoleSeen := true } := by
  unfold consoleLinkChange
  exact if_neg fun k => absurd k.1 (by decide)

/-- The authority goes to the house and every circuit starts to its park level. -/
theorem consoleLinkChange_lost {e : LightEnv} {w : Act Lights} (h : w.val.authority = .console) :
    consoleLinkChange false e w =
      ⟨(({ w.val with consoleSeen := false } : Lights).setAuthority e.now .house .consoleLost).parkAll e,
        w.out ++ [authorityMail e.now .house .console .consoleLost true]⟩ :=
  if_pos ⟨rfl, h⟩

/-! ## The panel is LOST (R43) -/

/-- A zone that leaves NORMAL for FAULT when its link is LOST. -/
def Zone.linkLost (r : Zone) : Zone := if r.state = .normal then r.faulted else r

theorem Zone.linkLost_idem (r : Zone) : r.linkLost.linkLost = r.linkLost := by
  by_cases h : r.state = .normal
  · have hf : r.linkLost = r.faulted := if_pos h
    rw [hf]
    exact if_neg (show ¬ ZoneState.fault = .normal by decide)
  · have hf : r.linkLost = r := if_neg h
    rw [hf, hf]

theorem recordInputs_zones (zs : List ZoneId) (r : Reading) (f : Fire) (y : ZoneId) :
    (zs.foldl (fun f z => recordInput z r f) f).zones[y] =
      if y ∈ zs then { f.zones[y] with input := r } else f.zones[y] := by
  induction zs generalizing f with
  | nil => simp
  | cons z zs ih =>
    rw [List.foldl_cons, ih, recordInput_zones]
    by_cases hz : y = z
    · subst hz; by_cases hm : y ∈ zs <;> simp [hm]
    · simp [hz]

theorem recordInputs_others (zs : List ZoneId) (r : Reading) (f : Fire) :
    zs.foldl (fun f z => recordInput z r f) f =
      { f with zones := (zs.foldl (fun f z => recordInput z r f) f).zones } := by
  induction zs generalizing f with
  | nil => rfl
  | cons z zs ih => rw [List.foldl_cons, ih]; rfl

theorem losePanelZone_zones (w : Act Fire) (z y : ZoneId) :
    (losePanelZone w z).val.zones[y] = if y = z then w.val.zones[z].linkLost else w.val.zones[y] := by
  unfold losePanelZone Zone.linkLost
  split
  · exact enterFault_zones w.val z y
  · split
    · next he => rw [he]
    · rfl

theorem losePanelZone_others (w : Act Fire) (z : ZoneId) :
    (losePanelZone w z).val = { w.val with zones := (losePanelZone w z).val.zones } := by
  unfold losePanelZone
  split <;> rfl

theorem losePanelZones_zones (zs : List ZoneId) (w : Act Fire) (y : ZoneId) :
    (zs.foldl losePanelZone w).val.zones[y] = if y ∈ zs then w.val.zones[y].linkLost else w.val.zones[y] := by
  induction zs generalizing w with
  | nil => simp
  | cons z zs ih =>
    rw [List.foldl_cons, ih, losePanelZone_zones]
    by_cases hz : y = z
    · subst hz; by_cases hm : y ∈ zs <;> simp [hm, Zone.linkLost_idem]
    · simp [hz]

theorem losePanelZones_others (zs : List ZoneId) (w : Act Fire) :
    (zs.foldl losePanelZone w).val = { w.val with zones := (zs.foldl losePanelZone w).val.zones } := by
  induction zs generalizing w with
  | nil => rfl
  | cons z zs ih => rw [List.foldl_cons, ih, losePanelZone_others]

theorem mem_panelZones_iff (z : ZoneId) : z ∈ panelZones ↔ 8 ≤ z.val := by
  revert z; decide

/-- The zones after the loss of the panel: every panel input FAULTY, and FAULT where a panel zone was NORMAL. -/
theorem panelLoss_zones (e : FireEnv) (f : Fire) (z : ZoneId) :
    (panelLoss e ⟨f, []⟩).1.val.zones[z] =
      if 8 ≤ z.val then { f.zones[z] with input := .faulty : Zone }.linkLost else f.zones[z] := by
  rw [panelLoss_eq]
  simp only [← mem_panelZones_iff]
  generalize panelZones = zs
  show (zs.foldl losePanelZone _).val.zones[z] = _
  rw [losePanelZones_zones]
  simp only [Act.map, recordInputs_zones]
  split <;> rfl

theorem panelLoss_others (e : FireEnv) (f : Fire) :
    (panelLoss e ⟨f, []⟩).1.val = { f with zones := (panelLoss e ⟨f, []⟩).1.val.zones } := by
  rw [panelLoss_eq]
  generalize panelZones = zs
  show (zs.foldl losePanelZone _).val = _
  rw [losePanelZones_others]
  simp only [Act.map]
  rw [recordInputs_others]

end Sys2Proof.Machine
end

section
/-! The supervision timer of a port runs out (R43, R119, R170, R171, R176, R177). -/
namespace Sys2Proof.Machine

/-! ## The two blocks that a loss reaches -/

theorem completePresence_console_lights (r : PortRecord) (v : Option Nat) (s : State) :
    (completePresence .console r v s).lights = (consoleLinkChange r.present s.lightEnv ⟨s.lights, []⟩).val := rfl

theorem completePresence_panel_fire {r : PortRecord} (hr : r.present = false) (v : Option Nat) (s : State) :
    (completePresence .panel r v s).fire = (panelLoss s.fireEnv ⟨s.fire, []⟩).1.val := by
  unfold completePresence
  rw [hr]
  exact State.onZones_fire panelLoss _

/-- The house desk hears of the authority that it takes back (R119, R120). -/
theorem completePresence_console_authority {r : PortRecord} {v : Option Nat} {s : State} (hr : r.present = false)
    (ha : s.lights.authority = .console) :
    Reaches .house (.authority ⟨.house, .console, .consoleLost, s.clock, true⟩) s
      (completePresence .console r v s) := by
  obtain ⟨u, hu⟩ : ∃ u : State, u =
    (s.setPort .console { r with changedAt := some s.clock }).post [linkMail .console r.present v] := ⟨_, rfl⟩
  have before : (s.links.get .house).onlyNotices (u.links.get .house) := by
    rw [hu]; exact Links.post_onlyNotices s.clock _ (s.links.set .console _) .house
  have after : (completePresence .console r v s).links =
      u.links.post u.clock [authorityMail s.clock .house .console .consoleLost true] := by
    rw [hu]
    show Links.post _ (consoleLinkChange r.present s.lightEnv ⟨s.lights, []⟩).out _ = _
    rw [hr, consoleLinkChange_lost ha]
    rfl
  exact PortRecord.hears_after before (after ▸ Links.post_onlyNotices _ _ _ _)
    (Reaches.of_post (p := .house) after (List.mem_singleton_self _) (List.mem_cons_self ..))

/-- With the console LOST while it held the authority, every circuit starts to its park level (R119). -/
theorem consoleLost_lights {e : LightEnv} {l : Lights} (h : l.authority = .console) :
    (consoleLinkChange false e ⟨l, []⟩).val =
      { l with
        consoleSeen := false, authority := .house, authorityAt := e.now, authorityCause := some .consoleLost
        circuits := (consoleLinkChange false e ⟨l, []⟩).val.circuits
        stepsDue := (consoleLinkChange false e ⟨l, []⟩).val.stepsDue } ∧
      ∀ i : Fin 48, l.circuits[i].fadeBegan e.now e.parkSlot (l.slotDuration e.parkSlot) l.circuits[i].park
          (consoleLinkChange false e ⟨l, []⟩).val.circuits[i] ∧
        (consoleLinkChange false e ⟨l, []⟩).val.stepsDue[i] = 0 := by
  rw [consoleLinkChange_lost h]
  refine ⟨rfl, fun i => ⟨?_, Vector.getElem_replicate i.isLt⟩⟩
  rw [Lights.parkAll, startAll_circuit]
  exact Circuit.startFade_began _ _ _ _ _

/-! ## The loss of a port -/

theorem execSupervisionExpiry_due {p : Port} {s : State} (hi : s.inert = false)
    (hp : (s.links.get p).present = true) (ht : (s.links.get p).timer = some 0) :
    exec (.supervisionExpiry p) s = .next (completePresence p (s.links.get p).lost (s.links.get p).lastValid s) := by
  show execSupervisionExpiry p s = _
  unfold execSupervisionExpiry linkLoss
  rw [hi]
  dsimp only
  rw [if_neg Bool.false_ne_true, if_pos ⟨hp, by rw [ht]; rfl⟩]

/-- Of a LOST port with no request left in its queue nothing is taken (log 3). -/
theorem takeable_lost {p : Port} {f : Frame} {s : State} (hp : (s.links.get p).present = false)
    (hrx : (s.links.get p).rx = []) : takeable p f s = false := by
  simp [takeable, PortRecord.offers, hp, hrx]

theorem execPanelResetZone_lost {s : State} (hp : (s.links.get .panel).present = false)
    (hrx : (s.links.get .panel).rx = []) (b : Byte) : exec (.panelResetZone .panel b) s = .next s :=
  if_neg (Bool.eq_false_iff.mp (takeable_lost (f := ⟨0x14, [b]⟩) hp hrx))

/-- Settles O8: the loss leaves notices at the other ports and acts at the one block whose port it is. -/
theorem supervisionExpiryLosesThePort : Obligations.SupervisionExpiryLosesThePort := by
  intro s p hi hp ht
  have hand := completePresence_handed p (s.links.get p).lost (s.links.get p).lastValid s
  have own : (completePresence p (s.links.get p).lost (s.links.get p).lastValid s).links.get p =
      { (s.links.get p).lost with changedAt := some s.clock } := completePresence_lost rfl
  refine ⟨_, execSupervisionExpiry_due hi hp ht, by rw [own]; rfl, by rw [own]; rfl, by rw [own]; rfl, by rw [own],
    by rw [own]; rfl, by rw [own]; rfl, by rw [own]; rfl, by rw [own]; rfl, fun q hq => completePresence_other hq,
    fun q hq hd => completePresence_reaches hq hd, hand.house, hand.curtain, hand.calls, hand.base, hand.lights,
    hand.fire, ?_, ?_⟩
  · rintro rfl
    rw [completePresence_console_lights]
    refine ⟨fun ha => by rw [consoleLinkChange_house ha]; rfl, fun ha => ?_⟩
    obtain ⟨hl, hc⟩ := consoleLost_lights (e := s.lightEnv) ha
    exact ⟨hl, hc, completePresence_console_authority rfl ha⟩
  · rintro rfl
    have hf := completePresence_panel_fire (r := (s.links.get .panel).lost) rfl (s.links.get .panel).lastValid s
    refine ⟨by rw [hf]; exact panelLoss_others _ _, fun z hz => ?_, fun z hz => ?_, fun hrx b => ?_⟩
    · rw [hf, panelLoss_zones, if_neg (by omega)]
    · rw [hf, panelLoss_zones, if_pos hz]
      rfl
    · exact execPanelResetZone_lost (by rw [own]; rfl) (by rw [own]; exact hrx) b

end Sys2Proof.Machine
end

section
/-! A whole frame is received (R44, R168, R170 to R172). -/
namespace Sys2Proof.Machine

/-! ## The bytes of a frame are collected (R168) -/

/-- The state while the receiver of a port holds some bytes. -/
def State.holding (p : Port) (held : List Byte) (s : State) : State :=
  s.setPort p { s.links.get p with receiver := held }

theorem State.setPort_setPort (p : Port) (q r : PortRecord) (s : State) :
    (s.setPort p q).setPort p r = s.setPort p r := by cases p <;> rfl

theorem State.holding_get (p : Port) (held : List Byte) (s : State) :
    (s.holding p held).links.get p = { s.links.get p with receiver := held } := Links.get_set_self ..

theorem State.holding_holding (p : Port) (a b : List Byte) (s : State) :
    (s.holding p a).holding p b = s.holding p b := by
  unfold State.holding
  rw [State.setPort_setPort, State.setPort_links, Links.get_set_self]

theorem State.holding_self {p : Port} {held : List Byte} {s : State} (h : (s.links.get p).receiver = held) :
    s.holding p held = s := by
  subst h
  exact State.setPort_get_self s p

/-- A byte that completes no frame. -/
theorem receiveOne_none {p : Port} {held : List Byte} {b : Byte} {s : State}
    (h : receiveByte p (s.links.get p).receiver b = (held, none)) : receiveOne p s b = s.holding p held := by
  unfold receiveOne
  dsimp only
  rw [h]
  rfl

/-- The byte that completes a valid frame. -/
theorem receiveOne_some {p : Port} {held : List Byte} {b : Byte} {f : Frame} {s : State}
    (h : receiveByte p (s.links.get p).receiver b = (held, some f)) :
    receiveOne p s b = receiveValid p f (s.holding p held) := by
  unfold receiveOne
  dsimp only
  rw [h]
  rfl

theorem receiveOne_holds {p : Port} {held held' : List Byte} {b : Byte} (h : receiveByte p held b = (held', none))
    (s : State) : receiveOne p (s.holding p held) b = s.holding p held' :=
  (receiveOne_none (by rw [State.holding_get]; exact h)).trans (State.holding_holding p held held' s)

theorem receiveOne_completes {p : Port} {held : List Byte} {b : Byte} {f : Frame}
    (h : receiveByte p held b = ([], some f)) (s : State) :
    receiveOne p (s.holding p held) b = receiveValid p f (s.holding p []) :=
  (receiveOne_some (by rw [State.holding_get]; exact h)).trans
    (congrArg (receiveValid p f) (State.holding_holding p held [] s))

/-- The start marker, the station, the kind and a length of at most 120 (R168). -/
theorem receive_header (p : Port) (station kind length : Byte) (h : length.toNat ≤ 120) (s : State) :
    [startMarker, station, kind, length].foldl (receiveOne p) (s.holding p []) =
      s.holding p [startMarker, station, kind, length] := by
  have marker : receiveByte p [] startMarker = ([startMarker], none) := rfl
  have first : receiveByte p [startMarker] station = ([startMarker, station], none) := rfl
  have second : receiveByte p [startMarker, station] kind = ([startMarker, station, kind], none) := rfl
  have last : receiveByte p [startMarker, station, kind] length = ([startMarker, station, kind, length], none) :=
    congrArg (·, none) (if_neg (not_lt.mpr h))
  rw [List.foldl_cons, receiveOne_holds marker, List.foldl_cons, receiveOne_holds first, List.foldl_cons,
    receiveOne_holds second, List.foldl_cons, receiveOne_holds last]
  rfl

/-- The bytes after the length are held until the last of them. -/
theorem receive_rest (p : Port) (m station kind length : Byte) (bs rest : List Byte)
    (h : rest.length + bs.length < length.toNat + 2) (s : State) :
    bs.foldl (receiveOne p) (s.holding p (m :: station :: kind :: length :: rest)) =
      s.holding p (m :: station :: kind :: length :: (rest ++ bs)) := by
  induction bs generalizing rest with
  | nil => simp
  | cons b bs ih =>
    rw [List.length_cons] at h
    have held : receiveByte p (m :: station :: kind :: length :: rest) b =
        (m :: station :: kind :: length :: (rest ++ [b]), none) := if_neg (by omega)
    rw [List.foldl_cons, receiveOne_holds held, ih _ (by simp; omega), List.append_assoc, List.singleton_append]

theorem checkFrame_valid {p : Port} {kind length : Byte} {payload : List Byte} (h : length.toNat = payload.length) :
    checkFrame p (stationByte p :: kind :: length ::
      (payload ++ halfBytes (crc (stationByte p :: kind :: length :: payload)))) = some ⟨kind, payload⟩ := by
  unfold checkFrame
  simp [h]

/-- The bytes of a whole frame make one valid frame (R168, R169). -/
theorem receive_frame (p : Port) (kind : Byte) {payload : List Byte} (h : payload.length ≤ 120) (s : State) :
    (frameBytes (stationByte p) kind payload).foldl (receiveOne p) (s.holding p []) =
      receiveValid p ⟨kind, payload⟩ (s.holding p []) := by
  have hlen : (BitVec.ofNat 8 payload.length).toNat = payload.length := by
    rw [BitVec.toNat_ofNat]; exact Nat.mod_eq_of_lt (by omega)
  have valid := checkFrame_valid (p := p) (kind := kind) hlen
  unfold frameBytes
  dsimp only
  revert hlen valid
  generalize BitVec.ofNat 8 payload.length = length
  generalize crc (stationByte p :: kind :: length :: payload) = check
  intro hlen valid
  have split : startMarker :: ((stationByte p :: kind :: length :: payload) ++ halfBytes check) =
      [startMarker, stationByte p, kind, length] ++ (payload ++ [check.extractLsb' 8 8]) ++
        [check.extractLsb' 0 8] := by simp [halfBytes]
  have whole : receiveByte p (startMarker :: stationByte p :: kind :: length :: (payload ++ [check.extractLsb' 8 8]))
      (check.extractLsb' 0 8) = ([], some ⟨kind, payload⟩) := by
    refine (if_pos (by simp [hlen])).trans ?_
    rw [List.append_assoc]
    exact congrArg _ valid
  rw [split, List.foldl_append, List.foldl_append, receive_header p _ _ _ (by omega),
    receive_rest p _ _ _ _ _ [] (by simp [hlen]), List.nil_append]
  exact receiveOne_completes whole s

/-! ## A valid frame acts (R170, R172) -/

theorem PortRecord.enqueue_eq (f : Frame) (r : PortRecord) :
    r.enqueue f = { r with rx := if f.kind = 0 ∨ 4 ≤ r.rx.length then r.rx else r.rx ++ [f] } := by
  unfold PortRecord.enqueue
  split
  · next hk => rw [if_pos (.inl hk)]
  · next hk =>
    split
    · next hr => rw [if_neg (not_or.mpr ⟨hk, show ¬ (4 ≤ r.rx.length) from not_le.mpr hr⟩)]
    · next hr => rw [if_pos (.inr (not_lt.mp hr))]

/-- What a request that joins the receive queue leaves of its port (R172). -/
theorem PortRecord.enqueue_rest (f : Frame) (r : PortRecord) :
    (r.enqueue f).changedAt = r.changedAt ∧ (r.enqueue f).tx = r.tx ∧ (r.enqueue f).overrun = r.overrun := by
  rw [PortRecord.enqueue_eq]
  exact ⟨rfl, rfl, rfl⟩

/-- The record of a port that a valid frame has just made PRESENT, or kept so (R170). -/
def PortRecord.restarted (now period : Nat) (r : PortRecord) : PortRecord :=
  { r with present := true, timer := some period, lastValid := some now }

theorem markPresent_present {p : Port} {s : State} (h : (s.links.get p).present = true) :
    markPresent p s = s.setPort p ((s.links.get p).restarted s.clock (s.params.supervision p)) := if_pos h

/-- The state in which a LOST port has come back, before its request joins the queue (R170, R171). -/
abbrev State.portBack (p : Port) (s : State) : State :=
  completePresence p ((s.links.get p).restarted s.clock (s.params.supervision p)) (s.links.get p).lastValid s

theorem markPresent_lost {p : Port} {s : State} (h : (s.links.get p).present = false) :
    markPresent p s = s.portBack p := if_neg (Bool.eq_false_iff.mp h)

/-- A valid frame at a LOST port completes the change of presence and joins the queue of the port (R171, R172). -/
theorem receiveValid_lost {p : Port} {f : Frame} {s : State} (h : (s.links.get p).present = false) :
    receiveValid p f s = (s.portBack p).setPort p (((s.portBack p).links.get p).enqueue f) := by
  unfold receiveValid
  rw [markPresent_lost h]

/-- A valid frame at a PRESENT port concerns its record alone. -/
theorem receiveValid_present {p : Port} {f : Frame} {s : State} (h : (s.links.get p).present = true) :
    receiveValid p f s =
      s.setPort p (((s.links.get p).restarted s.clock (s.params.supervision p)).enqueue f) := by
  unfold receiveValid
  rw [markPresent_present h]
  dsimp only
  rw [State.setPort_setPort, State.setPort_links, Links.get_set_self]

/-- What a valid frame does to a record on which nothing but notices has come in between. -/
theorem PortRecord.enqueue_heard {now period : Nat} {at' : Option Nat} {f : Frame} {r r' : PortRecord}
    (hr : r.receiver = []) (h : { r.restarted now period with changedAt := at' : PortRecord }.onlyNotices r') :
    r.heard now period f (r'.enqueue f) := by
  obtain ⟨hpres, htimer, hrx, -, hvalid, hrec, -⟩ := h
  rw [PortRecord.enqueue_eq]
  exact ⟨hpres, htimer, hvalid, hrec.trans hr, by rw [hrx]; rfl⟩

/-! ## A port comes back (R44, R170, R171) -/

/-- The console’s block records that it sees the console, and no other block acts. -/
theorem completePresence_back {p : Port} {r : PortRecord} (hr : r.present = true) (v : Option Nat) (s : State) :
    (completePresence p r v s).lights =
        { s.lights with consoleSeen := if p = .console then true else s.lights.consoleSeen } ∧
      (completePresence p r v s).fire = s.fire ∧
      (completePresence p r v s).links = ((s.links.set p { r with changedAt := some s.clock }).post s.clock
        [linkMail p true v]).post s.clock (if p = .panel then [⟨[.panel], .reportAll⟩] else []) := by
  unfold completePresence
  rw [hr]
  cases p with
  | console =>
    unfold handPresence State.onLights
    rw [consoleLinkChange_back]
    exact ⟨rfl, rfl, rfl⟩
  | prompt => exact ⟨rfl, rfl, rfl⟩
  | house => exact ⟨rfl, rfl, rfl⟩
  | panel => exact ⟨rfl, rfl, rfl⟩

/-- Where its queue has room, the one notice that joins the queue of a port that came back: LINK STATE on a desk’s
link, REPORT ALL on the panel’s, none on the console’s. -/
theorem completePresence_ownNotice {p : Port} {r : PortRecord} (hr : r.present = true) (v : Option Nat) (s : State)
    (room : (r.tx.filter TxFrame.isNotice).length < 20) :
    ((completePresence p r v s).links.get p).tx =
      r.tx ++ (if p = .prompt ∨ p = .house then [.notice (.linkState p true v)]
        else if p = .panel then [.notice .reportAll] else []) := by
  obtain ⟨-, -, hl⟩ := completePresence_back (p := p) hr v s
  have queue (n : Notice) : ({ r with changedAt := some s.clock : PortRecord }.queueNotice s.clock n).tx =
      r.tx ++ [.notice n] := by
    rw [PortRecord.queueNotice_room (r := { r with changedAt := some s.clock }) hr room]
  rw [hl]
  cases p with
  | prompt => exact queue _
  | house => exact queue _
  | panel => exact queue _
  | console => exact (List.append_nil _).symm

theorem execReceiveFrame_valid {p : Port} {kind : Byte} {payload : List Byte} {s : State} (hi : s.inert = false)
    (hrec : (s.links.get p).receiver = []) (hlen : payload.length ≤ 120) :
    exec (.receiveFrame p (frameBytes (stationByte p) kind payload)) s = .next (receiveValid p ⟨kind, payload⟩ s) := by
  have whole := receive_frame p kind hlen s
  rw [State.holding_self hrec] at whole
  rw [← whole]
  exact if_neg (by rw [hi]; decide)

/-- Settles O4: the bytes make one valid frame, which acts on presence and joins the queue. -/
theorem validFrameIsReceived : Obligations.ValidFrameIsReceived := by
  intro p kind payload s hi hrec hlen
  refine ⟨_, execReceiveFrame_valid hi hrec hlen, ?_⟩
  cases hp : (s.links.get p).present with
  | true =>
    rw [receiveValid_present hp, State.setPort_links, Links.get_set_self]
    refine ⟨PortRecord.enqueue_heard hrec (PortRecord.onlyNotices_refl _), fun _ => ⟨rfl, ?_⟩,
      fun h => absurd h (by decide), fun q hq => ?_, ?_, rfl, rfl, rfl, rfl, .refl s⟩
    · exact PortRecord.enqueue_rest _ _
    · rw [Links.get_set_of_ne _ _ hq]; exact PortRecord.onlyNotices_refl _
    · rw [if_neg (fun h => absurd h.2 (by decide))]; rfl
  | false =>
    have hand := completePresence_handed p ((s.links.get p).restarted s.clock (s.params.supervision p))
      (s.links.get p).lastValid s
    have own := completePresence_own p ((s.links.get p).restarted s.clock (s.params.supervision p))
      (s.links.get p).lastValid s
    have joined := completePresence_ownNotice (p := p)
      (r := (s.links.get p).restarted s.clock (s.params.supervision p)) rfl (s.links.get p).lastValid s
    obtain ⟨hlights, hfire, -⟩ := completePresence_back (p := p)
      (r := (s.links.get p).restarted s.clock (s.params.supervision p)) rfl (s.links.get p).lastValid s
    obtain ⟨-, -, -, changed, -⟩ := id own
    obtain ⟨enqChanged, enqTx, -⟩ := PortRecord.enqueue_rest ⟨kind, payload⟩ ((s.portBack p).links.get p)
    rw [receiveValid_lost hp, State.setPort_links, Links.get_set_self]
    refine ⟨PortRecord.enqueue_heard hrec own, fun h => absurd h (by decide),
      fun _ => ⟨enqChanged.trans changed, fun q hq hd => ?_, fun _ room => ⟨fun hd => ?_, fun hd => ?_, fun hd => ?_⟩⟩,
      fun q hq => ?_, ?_, hand.house, hfire, hand.curtain, hand.calls, hand.base⟩
    · rw [reaches_iff_hears, State.setPort_links, Links.get_set_of_ne _ _ hq]
      exact completePresence_reaches hq hd
    · rw [enqTx, joined room, if_pos hd]; rfl
    · rw [enqTx, joined room, hd]; rfl
    · rw [enqTx, joined room, hd]; exact List.append_nil _
    · rw [Links.get_set_of_ne _ _ hq]
      exact completePresence_other hq
    · refine hlights.trans ?_
      simp only [and_true]

end Sys2Proof.Machine
end

section
/-! SUPPORT. What the calls have seen of the other blocks (R140, R146, R156): nothing but a hand-off writes it. -/
namespace Sys2Proof.Machine

/-- What the Call Scheduler and the Call Arbiter have recorded of the phase and of the fire condition. -/
def Calls.seen (c : Calls) : Phase × Condition × Condition := (c.phaseSeen, c.fireSeen, c.arbiterFire)

@[simp] theorem Act.map_val {α : Type} (f : α → α) (w : Act α) : (w.map f).val = f w.val := rfl

@[simp] theorem Act.emit_val {α : Type} (m : Mail) (w : Act α) : (w.emit m).val = w.val := rfl

/-! ## The operations on the record -/

@[simp] theorem seen_setDesc (i : CallId) (d : Descriptor) (c : Calls) : (c.setDesc i d).seen = c.seen := rfl

@[simp] theorem seen_leave (i : CallId) (c : Calls) : (c.leave i).seen = c.seen := rfl

@[simp] theorem seen_enterReady (now : Nat) (i : CallId) (c : Calls) : (enterReady now i c).seen = c.seen := rfl

@[simp] theorem seen_enterTimed (due : Nat) (basis : DueBasis) (i : CallId) (c : Calls) :
    (enterTimed due basis i c).seen = c.seen := rfl

@[simp] theorem seen_enterWaiting (i : CallId) (c : Calls) : (enterWaiting i c).seen = c.seen := rfl

@[simp] theorem seen_setQueue (k : Desk) (q : List Completion) (c : Calls) : (c.setQueue k q).seen = c.seen := by
  cases k <;> rfl

@[simp] theorem seen_setChan (ch : Channel) (r : ChannelRecord) (c : Calls) : (c.setChan ch r).seen = c.seen := by
  cases ch <;> rfl

@[simp] theorem seen_setRun (b : BuiltIn) (r : RunPosition) (c : Calls) : (c.setRun b r).seen = c.seen := by
  cases b <;> rfl

@[simp] theorem seen_release (ch : Channel) (c : Calls) : (c.release ch).seen = c.seen := rfl

@[simp] theorem seen_startPlay (ch : Channel) (i : CallId) (live : ZoneSet) (c : Calls) :
    (startPlay ch i live c).seen = c.seen := seen_setChan ch _ _

@[simp] theorem seen_stopChannel (e : CallEnv) (ch : Channel) (c : Calls) : (stopChannel e ch c).seen = c.seen :=
  seen_setChan ch _ _

@[simp] theorem seen_beginRun (e : CallEnv) (b : BuiltIn) (c : Calls) : (beginRun e b c).seen = c.seen :=
  seen_setRun b _ _

@[simp] theorem seen_waitAgain (b : BuiltIn) (c : Calls) : (waitAgain b c).seen = c.seen := seen_setRun b _ _

@[simp] theorem seen_enterGap (b : BuiltIn) (ch : Channel) (c : Calls) : (enterGap b ch c).seen = c.seen :=
  (seen_setRun b _ _).trans (seen_setChan ch _ _)

@[simp] theorem seen_endPlay (ch : Channel) (i : CallId) (c : Calls) : (endPlay ch i c).seen = c.seen :=
  seen_setChan ch _ _

theorem seen_foldl {α : Type} {f : Act Calls → α → Act Calls} (hf : ∀ w x, (f w x).val.seen = w.val.seen)
    (xs : List α) (w : Act Calls) : (xs.foldl f w).val.seen = w.val.seen := by
  induction xs generalizing w with
  | nil => rfl
  | cons x xs ih => exact (ih _).trans (hf w x)

/-! ## Finishing and arming -/

@[simp] theorem seen_drain (quiet : Bool) (k : Desk) (w : Act Calls) : (drain quiet k w).val.seen = w.val.seen := by
  rw [drain_others]; rfl

@[simp] theorem seen_finishCall (now : Nat) (i : CallId) (o : CallOutcome) (w : Act Calls) :
    (finishCall now i o w).val.seen = w.val.seen := by
  rw [finishCall_others]; rfl

@[simp] theorem seen_finishBuiltIn (now : Nat) (b : BuiltIn) (o : CallOutcome) (w : Act Calls) :
    (finishBuiltIn now b o w).val.seen = w.val.seen := by
  rw [finishBuiltIn_others]; exact seen_setRun b _ _

@[simp] theorem seen_armCall (now due : Nat) (basis : DueBasis) (i : CallId) (w : Act Calls) :
    (armCall now due basis i w).val.seen = w.val.seen := by
  unfold armCall; split <;> simp

@[simp] theorem seen_armFromAnchor (e : CallEnv) (i : CallId) (w : Act Calls) :
    (armFromAnchor e i w).val.seen = w.val.seen := by
  unfold armFromAnchor; split <;> simp

@[simp] theorem seen_onAnchorEvent (e : CallEnv) (a : Anchor) (ev : AnchorEvent) (w : Act Calls) :
    (onAnchorEvent e a ev w).val.seen = w.val.seen := by
  cases ev
  · exact seen_foldl (fun w i => by simp) _ w
  · exact seen_foldl (fun w i => by simp) _ w
  · exact seen_foldl (fun w i => by simp) _ w

@[simp] theorem seen_takeDue (now : Nat) (w : Act Calls) : (takeDue now w).val.seen = w.val.seen :=
  seen_foldl (fun w i => by simp) _ w

@[simp] theorem seen_catchUp (now : Nat) (w : Act Calls) : (catchUp now w).val.seen = w.val.seen :=
  seen_foldl (fun w i => by simp) _ w

@[simp] theorem seen_afterPlay (now : Nat) (i : CallId) (w : Act Calls) :
    (afterPlay now i w).val.seen = w.val.seen := by
  unfold afterPlay; dsimp only; split <;> simp

/-! ## The arbiter -/

@[simp] theorem seen_preEmpt (e : CallEnv) (ch : Channel) (w : Act Calls) : (preEmpt e ch w).val.seen = w.val.seen := by
  unfold preEmpt; split <;> simp

@[simp] theorem seen_faultChannel (ch : Channel) (f : ChannelFault) (call : Option (CallId × Nat)) (strobe : Bool)
    (w : Act Calls) : (faultChannel ch f call strobe w).val.seen = w.val.seen := seen_setChan ch _ _

theorem seen_walkOne (now : Nat) (a : Act Calls × ZoneSet) (i : CallId) :
    (walkOne now a i).1.val.seen = a.1.val.seen := by
  unfold walkOne
  dsimp only
  split
  · simp [silence]
  · split
    · split <;> simp
    · rfl

@[simp] theorem seen_walk (now : Nat) (w : Act Calls) : (walk now w).val.seen = w.val.seen := by
  have folded (is : List CallId) (a : Act Calls × ZoneSet) : (is.foldl (walkOne now) a).1.val.seen = a.1.val.seen := by
    induction is generalizing a with
    | nil => rfl
    | cons i is ih => exact (ih _).trans (seen_walkOne now a i)
  unfold walk
  split
  · rfl
  · exact folded _ _

@[simp] theorem seen_walkOnChange (now : Nat) (before : Calls) (w : Act Calls) :
    (walkOnChange now before w).val.seen = w.val.seen := by
  unfold walkOnChange; split <;> simp

@[simp] theorem seen_startBuiltIn (e : CallEnv) (b : BuiltIn) (ch : Channel) (w : Act Calls) :
    (startBuiltIn e b ch w).val.seen = w.val.seen := by
  unfold startBuiltIn; dsimp only; split <;> simp

@[simp] theorem seen_seekEvacuation (e : CallEnv) (announce : Bool) (w : Act Calls) :
    (seekEvacuation e announce w).val.seen = w.val.seen := by
  unfold seekEvacuation
  split
  · split
    · rfl
    · split
      · simp
      · split <;> simp
  · rfl

@[simp] theorem seen_seekStaffAlert (e : CallEnv) (w : Act Calls) :
    (seekStaffAlert e w).val.seen = w.val.seen := by
  unfold seekStaffAlert; split_ifs <;> simp

@[simp] theorem seen_seekBuiltIns (e : CallEnv) (announce : Bool) (w : Act Calls) :
    (seekBuiltIns e announce w).val.seen = w.val.seen :=
  (seen_seekStaffAlert e _).trans (seen_seekEvacuation e announce w)

@[simp] theorem seen_afterIdle (e : CallEnv) (w : Act Calls) : (afterIdle e w).val.seen = w.val.seen :=
  (seen_walk _ _).trans (seen_seekBuiltIns e true w)

@[simp] theorem seen_beginStaffAlert (e : CallEnv) (w : Act Calls) :
    (beginStaffAlert e w).val.seen = w.val.seen := by
  unfold beginStaffAlert; dsimp only; split_ifs <;> simp

@[simp] theorem seen_endBuiltIn (e : CallEnv) (b : BuiltIn) (o : CallOutcome) (w : Act Calls) :
    (endBuiltIn e b o w).val.seen = w.val.seen := by
  unfold endBuiltIn; split <;> simp

@[simp] theorem seen_stopForEvacuation (e : CallEnv) (ch : Channel) (c : Calls) :
    (stopForEvacuation e ch c).seen = c.seen := by
  unfold stopForEvacuation; split <;> simp

@[simp] theorem seen_finishOnChannel (e : CallEnv) (ch : Channel) (w : Act Calls) :
    (finishOnChannel e ch w).val.seen = w.val.seen := by
  unfold finishOnChannel; split <;> simp

@[simp] theorem seen_beginEvacuation (e : CallEnv) (w : Act Calls) : (beginEvacuation e w).val.seen = w.val.seen := by
  simp [beginEvacuation]

/-! ## The hand-offs of the fire condition -/

theorem seen_schedulerFireHandoff (new : Condition) (e : CallEnv) (w : Act Calls) :
    (schedulerFireHandoff new e w).val.seen = (w.val.phaseSeen, new, w.val.arbiterFire) := by
  unfold schedulerFireHandoff
  dsimp only
  split
  · rw [seen_catchUp]; rfl
  · rfl

theorem seen_arbiterFireHandoff (new : Condition) (e : CallEnv) (w : Act Calls) :
    (arbiterFireHandoff new e w).val.seen = (w.val.phaseSeen, w.val.fireSeen, new) := by
  unfold arbiterFireHandoff
  cases new <;> simp <;> rfl

/-! ## Events at the channels and at the calls -/

@[simp] theorem seen_playingRisesAct (ch : Channel) (e : CallEnv) (w : Act Calls) :
    (playingRisesAct ch e w).val.seen = w.val.seen := by
  unfold playingRisesAct; dsimp only; split <;> simp

@[simp] theorem seen_leaveGap (e : CallEnv) (b : BuiltIn) (ch : Channel) (w : Act Calls) :
    (leaveGap e b ch w).val.seen = w.val.seen := by
  unfold leaveGap; dsimp only; split <;> simp

@[simp] theorem seen_playingFallsAct (ch : Channel) (e : CallEnv) (w : Act Calls) :
    (playingFallsAct ch e w).val.seen = w.val.seen := by
  unfold playingFallsAct
  dsimp only
  split
  · split
    · split
      · simp
      · rw [seen_walk]; split <;> simp
    · simp
  · simp
  all_goals rfl

@[simp] theorem seen_returnToReady (now : Nat) (i : CallId) (missed : ZoneSet) (w : Act Calls) :
    (returnToReady now i missed w).val.seen = w.val.seen := by
  unfold returnToReady; dsimp only; split
  · simp only [seen_finishCall]; rfl
  · rfl

@[simp] theorem seen_startTimerExpiryAct (ch : Channel) (e : CallEnv) (w : Act Calls) :
    (startTimerExpiryAct ch e w).val.seen = w.val.seen := by
  unfold startTimerExpiryAct
  dsimp only
  split
  · split
    · rw [seen_walk, seen_seekBuiltIns]; split <;> simp
    · rfl
  · rfl

@[simp] theorem seen_guardTimerExpiryAct (ch : Channel) (e : CallEnv) (w : Act Calls) :
    (guardTimerExpiryAct ch e w).val.seen = w.val.seen := by
  unfold guardTimerExpiryAct
  dsimp only
  split
  · split
    · rw [seen_walk, seen_seekBuiltIns]; split <;> simp
    · rfl
  · rfl

@[simp] theorem seen_stopTimerExpiryAct (ch : Channel) (e : CallEnv) (w : Act Calls) :
    (stopTimerExpiryAct ch e w).val.seen = w.val.seen := by
  unfold stopTimerExpiryAct; dsimp only; split <;> simp

@[simp] theorem seen_gapExpiryAct (b : BuiltIn) (e : CallEnv) (w : Act Calls) :
    (gapExpiryAct b e w).val.seen = w.val.seen := by
  unfold gapExpiryAct
  split
  · split <;> simp
  all_goals rfl

@[simp] theorem seen_resetChannelAct (ch : Channel) (e : CallEnv) (w : Act Calls) :
    (resetChannelAct ch e w).val.seen = w.val.seen := by
  simp [resetChannelAct]

@[simp] theorem seen_dueTimerAct (e : CallEnv) (w : Act Calls) : (dueTimerAct e w).val.seen = w.val.seen := by
  unfold dueTimerAct; split <;> simp

@[simp] theorem seen_deadlineAct (i : CallId) (e : CallEnv) (w : Act Calls) :
    (deadlineAct i e w).val.seen = w.val.seen := by
  unfold deadlineAct; dsimp only; split <;> simp

@[simp] theorem seen_anchorEventAct (a : Anchor) (ev : AnchorEvent) (e : CallEnv) (w : Act Calls) :
    (anchorEventAct a ev e w).val.seen = w.val.seen := by
  simp [anchorEventAct]

@[simp] theorem seen_cancelCall (e : CallEnv) (i : CallId) (w : Act Calls) :
    (cancelCall e i w).val.seen = w.val.seen := by
  unfold cancelCall; dsimp only; split <;> simp

@[simp] theorem seen_cancelAct (i : CallId) (e : CallEnv) (w : Act Calls) :
    (cancelAct i e w).val.seen = w.val.seen := by
  unfold cancelAct; dsimp only; split <;> simp

@[simp] theorem seen_darkCancelAct (e : CallEnv) (w : Act Calls) : (darkCancelAct e w).val.seen = w.val.seen := by
  have cancelled (is : List CallId) (w : Act Calls) :
      (is.foldl (fun w i => if w.val.table[i].life.live then cancelCall e i w else w) w).val.seen = w.val.seen :=
    seen_foldl (fun w i => by split <;> simp) is w
  unfold darkCancelAct
  dsimp only
  split <;> simp only [seen_walkOnChange, seen_afterIdle, cancelled]

@[simp] theorem seen_afterPagingWrite (e : CallEnv) (w : Act Calls) :
    (afterPagingWrite e w).val.seen = w.val.seen := by
  unfold afterPagingWrite; dsimp only; split <;> simp

@[simp] theorem seen_placeCall (i : CallId) (d : Descriptor) (e : CallEnv) (w : Act Calls) :
    (placeCall i d e w).val.seen = w.val.seen := by
  unfold placeCall
  dsimp only
  rw [seen_walkOnChange]
  split
  · rfl
  · rw [seen_armFromAnchor]; rfl

@[simp] theorem seen_collectAct (k : Desk) (e : CallEnv) (w : Act Calls) :
    (collectAct k e w).val.seen = w.val.seen := by
  simp [collectAct]

@[simp] theorem seen_gateAct (z : Fin 12) (muted held : Bool) (e : CallEnv) (w : Act Calls) :
    (gateAct z muted held e w).val.seen = w.val.seen := by
  unfold gateAct
  dsimp only
  split
  · rfl
  · rw [seen_walk]; rfl

end Sys2Proof.Machine
end

section
/-! SUPPORT. What the lights have seen of the other blocks (R4, R119, R122): nothing but a hand-off writes it. -/
namespace Sys2Proof.Machine

/-- What the Lighting Controller has recorded of the phase, the stop record, the fire condition and the console. -/
def Lights.seen (l : Lights) : Phase × Option StopRecord × Condition × Bool :=
  (l.phaseSeen, l.stopSeen, l.fireSeen, l.consoleSeen)

theorem lightsSeen_changeAuthority (e : LightEnv) (a : Authority) (cause : AuthorityCause) (w : Act Lights) :
    (changeAuthority e a cause w).val.seen = w.val.seen := by
  unfold changeAuthority; split <;> rfl

theorem lightsSeen_startPairs (now : Nat) (slot : Option (Fin 4)) (pairs : List (Fin 48 × Nat)) (l : Lights) :
    (l.startPairs now slot pairs).seen = l.seen := by
  unfold Lights.startPairs
  induction pairs generalizing l with
  | nil => rfl
  | cons p ps ih => exact ih _

theorem lightsSeen_stepFade (i : Fin 48) (l : Lights) : (l.stepFade i).seen = l.seen := by
  unfold Lights.stepFade; split <;> rfl

theorem lightsSeen_panicOff (e : LightEnv) (l : Lights) : (panicOff e l).seen = l.seen := by
  unfold panicOff; dsimp only; split <;> rfl

/-! ## The hand-offs -/

theorem lightsSeen_consoleLinkChange (present : Bool) (e : LightEnv) (w : Act Lights) :
    (consoleLinkChange present e w).val.seen = (w.val.phaseSeen, w.val.stopSeen, w.val.fireSeen, present) := by
  unfold consoleLinkChange; dsimp only; split <;> rfl

theorem lightsSeen_phaseHandoff (phase : Phase) (stop : Option StopRecord) (e : LightEnv) (w : Act Lights) :
    (lightsPhaseHandoff phase stop e w).val.seen = (phase, stop, w.val.fireSeen, w.val.consoleSeen) := by
  unfold lightsPhaseHandoff
  dsimp only
  split
  · split <;> rfl
  · rw [lightsSeen_changeAuthority]; split <;> rfl

theorem lightsSeen_fireHandoff (new : Condition) (e : LightEnv) (w : Act Lights) :
    (lightsFireHandoff new e w).val.seen = (w.val.phaseSeen, w.val.stopSeen, new, w.val.consoleSeen) := by
  unfold lightsFireHandoff
  dsimp only
  split
  · rw [lightsSeen_changeAuthority]; split <;> rfl
  · split <;> rfl

end Sys2Proof.Machine
end

section
/-! The curtain record under the acts of the Curtain Controller (R62, R64, R67, R70 to R86): the held demands and the
cause set agree, nothing is a cause while the curtain is held out, and the raise record lives in RAISING. -/
namespace Sys2Proof.Machine

/-- The held demands stand in the cause set, and the raise record in RAISING. -/
def Curtain.agrees (c : Curtain) : Prop :=
  c.causes.fire = c.fireDemand ∧ c.causes.hardLine = c.hardLine ∧ c.causes.manual = c.manual ∧
    (c.raise.isSome = true ↔ c.state = .raising)

/-- The law of a curtain record (R62, R64): while the curtain is held out nothing calls for its release. -/
def Curtain.lawful (c : Curtain) : Prop := c.agrees ∧ (c.state.heldOut = true → c.causes = CauseSet.empty)

theorem curtainLawful_iff (s : State) :
    s.curtainLawful ↔ s.curtain.lawful ∧ (s.curtain.state = .raising → s.fire.condition = .quiet) := by
  unfold State.curtainLawful Curtain.lawful Curtain.agrees
  tauto

/-- An act of the curtain that keeps the law and the FIRE demand and begins no raise. -/
def Curtain.Keeps (c c' : Curtain) : Prop :=
  (c.lawful → c'.lawful) ∧ c'.fireDemand = c.fireDemand ∧ (c'.state = .raising → c.state = .raising)

theorem Curtain.Keeps.refl (c : Curtain) : c.Keeps c := ⟨id, rfl, id⟩

theorem Curtain.Keeps.trans {a b c : Curtain} (h : a.Keeps b) (k : b.Keeps c) : a.Keeps c :=
  ⟨k.1 ∘ h.1, k.2.1.trans h.2.1, h.2.2 ∘ k.2.2⟩

/-- Fields that no part of the law reads. -/
theorem Curtain.Keeps.of_fields {c c' : Curtain} (hs : c'.state = c.state) (hc : c'.causes = c.causes)
    (hf : c'.fireDemand = c.fireDemand) (hl : c'.hardLine = c.hardLine) (hm : c'.manual = c.manual)
    (hr : c'.raise.isSome = c.raise.isSome) : c.Keeps c' := by
  unfold Curtain.Keeps Curtain.lawful Curtain.agrees
  rw [hs, hc, hf, hl, hm, hr]
  exact ⟨id, rfl, id⟩

theorem keeps_ite {p : Prop} [Decidable p] {c : Curtain} {a b : Act Curtain} (ha : p → c.Keeps a.val)
    (hb : c.Keeps b.val) : c.Keeps (if p then a else b).val := by
  split
  · next h => exact ha h
  · exact hb

/-! ## Faults and changes of state -/

theorem keeps_latchFault (e : CurtainEnv) (f : CurtainFault) (n : Option Nat) (w : Act Curtain) :
    w.val.Keeps (latchFault e f n w).val := .of_fields rfl rfl rfl rfl rfl rfl

theorem changeState_agrees {e : CurtainEnv} {new : CurtainState} {reason : CurtainReason} {w : Act Curtain}
    (h : w.val.agrees) (hn : new = .raising → w.val.raise.isSome = true) : (changeState e new reason w).val.agrees := by
  obtain ⟨h1, h2, h3, -⟩ := h
  have hr : ((if new = .raising then w.val.raise else none).isSome = true ↔ new = .raising) := by
    split <;> simp_all
  unfold changeState
  dsimp only
  split <;> exact ⟨h1, h2, h3, hr⟩

theorem changeState_fields (e : CurtainEnv) (new : CurtainState) (reason : CurtainReason) (w : Act Curtain) :
    (changeState e new reason w).val.state = new ∧ (changeState e new reason w).val.causes = w.val.causes ∧
      (changeState e new reason w).val.fireDemand = w.val.fireDemand := by
  unfold changeState; dsimp only; split <;> exact ⟨rfl, rfl, rfl⟩

/-- A change of state that neither begins a raise nor holds out a curtain that was not. -/
theorem keeps_changeState {e : CurtainEnv} {new : CurtainState} {reason : CurtainReason} {w : Act Curtain}
    (hn : new ≠ .raising) (hh : new.heldOut = true → w.val.state.heldOut = true) :
    w.val.Keeps (changeState e new reason w).val := by
  obtain ⟨h1, h2, h3⟩ := changeState_fields e new reason w
  refine ⟨fun h => ⟨changeState_agrees h.1 fun e => absurd e hn, fun hs => ?_⟩, h3, fun hs => absurd (h1 ▸ hs) hn⟩
  rw [h2]
  exact h.2 (hh (h1 ▸ hs))

theorem keeps_enterLanded (e : CurtainEnv) (reason : CurtainReason) (w : Act Curtain) :
    w.val.Keeps (enterLanded e reason w).val := by
  obtain ⟨h1, -, h3⟩ := changeState_fields e .landed reason
    (w.map fun c => { c with lowCount := none, causes := c.causes.heldOnly })
  refine ⟨fun h => ⟨changeState_agrees h.1 (by simp), fun hs => ?_⟩, h3, fun hs => ?_⟩
  · rw [show (enterLanded e reason w).val.state = .landed from h1] at hs; exact absurd hs (by decide)
  · rw [show (enterLanded e reason w).val.state = .landed from h1] at hs; exact absurd hs (by decide)

theorem keeps_homeCount (e : CurtainEnv) (w : Act Curtain) : w.val.Keeps (homeCount e w).val := by
  rw [homeCount_val]; exact .of_fields rfl rfl rfl rfl rfl rfl

theorem keeps_landByLimit (e : CurtainEnv) (w : Act Curtain) : w.val.Keeps (landByLimit e w).val :=
  (keeps_homeCount e w).trans (keeps_enterLanded e _ _)

/-! ## Releases (R70, R71) -/

/-- Whatever has joined the cause set, a release demand leaves a lawful record. -/
theorem releaseDemand_lawful {e : CurtainEnv} {w : Act Curtain} (h : w.val.agrees) :
    (releaseDemand e w).val.lawful := by
  obtain ⟨h1, h2, h3, h4⟩ := h
  have hh := releaseDemand_notHeldOut e w
  refine ⟨?_, fun hs => absurd (hs.symm.trans hh) (by decide)⟩
  cases hs : w.val.state.heldOut with
  | false => rw [releaseDemand_falling hs]; exact ⟨h1, h2, h3, h4⟩
  | true =>
    by_cases hb : e.bottom = some .active
    · rw [releaseDemand_closed hs hb]; exact ⟨h1, h2, h3, by simp⟩
    · rw [releaseDemand_open hs hb]; exact ⟨h1, h2, h3, by simp [Curtain.released]⟩

/-- A cause joins the set and the curtain is released. -/
theorem keeps_releaseDemand {e : CurtainEnv} {w : Act Curtain} {g : Curtain → Curtain}
    (ha : w.val.agrees → (g w.val).agrees) (hf : (g w.val).fireDemand = w.val.fireDemand) :
    w.val.Keeps (releaseDemand e (w.map g)).val := by
  have hh := releaseDemand_notHeldOut e (w.map g)
  refine ⟨fun h => releaseDemand_lawful (ha h.1), (releaseDemand_demands e _).1.trans hf, fun hs => ?_⟩
  rw [hs] at hh
  exact absurd hh (by decide)

theorem keeps_dropAct (e : CurtainEnv) (w : Act Curtain) : w.val.Keeps (dropAct e w).val :=
  keeps_releaseDemand id rfl

theorem keeps_demonstrateAct (e : CurtainEnv) (w : Act Curtain) : w.val.Keeps (demonstrateAct e w).val :=
  keeps_releaseDemand id rfl

/-! ## The lines (R65, R66, R75, R78, R81, R86) -/

/-- A held demand falls: its cause leaves the set. -/
theorem keeps_hardLineQuiet (c : Curtain) :
    c.Keeps { c with hardLine := false, causes := { c.causes with hardLine := false } } :=
  ⟨fun ⟨⟨h1, _, h3, h4⟩, h5⟩ => ⟨⟨h1, rfl, h3, h4⟩, fun hs => by
    dsimp only; rw [h5 hs]; rfl⟩, rfl, id⟩

theorem keeps_hardLineChange (e : CurtainEnv) (old : Option Reading) (new : Reading) (w : Act Curtain) :
    w.val.Keeps (hardLineChange e old new w).val := by
  cases new with
  | quiet => exact keeps_hardLineQuiet _
  | active | faulty =>
    unfold hardLineChange
    dsimp only
    split
    · exact keeps_releaseDemand (fun ⟨h1, _, h3, h4⟩ => ⟨h1, rfl, h3, h4⟩) rfl
    · exact .refl _

theorem keeps_manualChange (e : CurtainEnv) (old : Option Reading) (new : Reading) (w : Act Curtain) :
    w.val.Keeps (manualChange e old new w).val := by
  unfold manualChange
  split
  · exact keeps_releaseDemand (fun ⟨h1, h2, _, h4⟩ => ⟨h1, h2, rfl, h4⟩) rfl
  · exact .refl _

theorem keeps_clearManual (w : Act Curtain) : w.val.Keeps (clearManual w).val :=
  ⟨fun ⟨⟨h1, h2, _, h4⟩, h5⟩ => ⟨⟨h1, h2, rfl, h4⟩, fun hs => by
    show ({ w.val.causes with manual := false } : CauseSet) = _
    rw [h5 hs]; rfl⟩, rfl, id⟩

theorem keeps_topLimitChange (e : CurtainEnv) (new : Reading) (w : Act Curtain) :
    w.val.Keeps (topLimitChange e new w).val := by
  unfold topLimitChange
  split
  · next h => exact keeps_changeState (by decide) fun _ => by rw [h.2]; rfl
  · exact .refl _

theorem keeps_bottomLimitChange (e : CurtainEnv) (new : Reading) (w : Act Curtain) :
    w.val.Keeps (bottomLimitChange e new w).val := by
  unfold bottomLimitChange
  split
  · split
    case h_1 | h_2 | h_3 => exact keeps_landByLimit e w
    · exact keeps_homeCount e w
    all_goals exact .refl _
  · exact .refl _

theorem keeps_bottomBaseline (e : CurtainEnv) (new : Reading) (w : Act Curtain) :
    w.val.Keeps (bottomBaseline e new w).val := by
  unfold bottomBaseline
  split
  · exact keeps_landByLimit e w
  · exact .of_fields rfl rfl rfl rfl rfl rfl

/-! ## Raising and holding out (R73 to R77) -/

theorem keeps_renewLease (e : CurtainEnv) (w : Act Curtain) : w.val.Keeps (renewLease e w).val :=
  .of_fields rfl rfl rfl rfl rfl Option.isSome_map

theorem keeps_haltRaise (e : CurtainEnv) (reason : CurtainReason) (w : Act Curtain) :
    w.val.Keeps (haltRaise e reason w).val := by
  unfold haltRaise
  split
  · next h => exact keeps_changeState (by decide) fun _ => by rw [h]; rfl
  · exact .refl _

theorem keeps_raiseSampleAct (e : CurtainEnv) (w : Act Curtain) : w.val.Keeps (raiseSampleAct e w).val := by
  unfold raiseSampleAct
  split
  · next r hs hr =>
    dsimp only
    have sampled (r' : RaiseRecord) : w.val.Keeps
        (w.map fun c => { c with raise := some r', samplesDue := c.samplesDue - 1 }).val :=
      .of_fields rfl rfl rfl rfl rfl (by rw [hr]; rfl)
    have halted (f : CurtainFault) (reason : CurtainReason) (v : Act Curtain) :
        v.val.Keeps (haltRaise e reason (latchFault e f none v)).val :=
      (keeps_latchFault e f none v).trans (keeps_haltRaise e reason _)
    split
    · exact (sampled _).trans (halted _ _ _)
    · split
      · split
        · exact (sampled _).trans (halted _ _ _)
        · exact sampled _
      · exact sampled _
  · exact .refl _

theorem keeps_creepSampleAct (e : CurtainEnv) (w : Act Curtain) : w.val.Keeps (creepSampleAct e w).val := by
  unfold creepSampleAct
  split
  · next hs =>
    dsimp only
    have sampled (n : Nat) : w.val.Keeps { w.val with samplesDue := n } := .of_fields rfl rfl rfl rfl rfl rfl
    split
    · refine (sampled _).trans ((keeps_latchFault e .creep none _).trans (keeps_changeState (by decide) fun _ => ?_))
      show w.val.state.heldOut = true
      rw [hs]; rfl
    · exact sampled _
  · exact .refl _

theorem keeps_clearFaults (e : CurtainEnv) (w : Act Curtain) : w.val.Keeps (clearFaults e w).val := by
  unfold clearFaults
  split
  · exact .refl _
  · exact .of_fields rfl rfl rfl rfl rfl rfl

/-! ## The samples of a descent (R92 to R97) -/

theorem keeps_landingTest (e : CurtainEnv) (p : Nat) (w : Act Curtain) : w.val.Keeps (landingTest e p w).val := by
  have counted (n : Option Nat) : w.val.Keeps { w.val with lowCount := n } := .of_fields rfl rfl rfl rfl rfl rfl
  exact keeps_ite
    (fun _ => (counted _).trans ((keeps_latchFault e .limitSwitch none _).trans (keeps_enterLanded e _ _))) (counted _)

theorem keeps_descent (d : Option Descent) (c : Curtain) : c.Keeps { c with descent := d } :=
  .of_fields rfl rfl rfl rfl rfl rfl

theorem keeps_toSecondary (e : CurtainEnv) (w : Act Curtain) : w.val.Keeps (toSecondary e w).val :=
  (keeps_latchFault e .lag none w).trans ((keeps_descent _ _).trans
    (keeps_changeState (e := e) (reason := .lag) (new := .secondary) (by decide) fun h => absurd h (by decide)))

theorem keeps_lagTest (e : CurtainEnv) (p : Nat) (w : Act Curtain) : w.val.Keeps (lagTest e p w).val := by
  unfold lagTest
  split
  · exact keeps_ite (fun _ => (keeps_descent _ _).trans (keeps_toSecondary e _)) (keeps_descent _ _)
  · exact .refl _

theorem keeps_speedTest (e : CurtainEnv) (p : Nat) (w : Act Curtain) : w.val.Keeps (speedTest e p w).val := by
  unfold speedTest
  split
  · exact keeps_ite (fun _ => (keeps_descent _ _).trans (keeps_latchFault e .overspeed none _)) (keeps_descent _ _)
  · exact .refl _

theorem keeps_jamTest (e : CurtainEnv) (p : Nat) (w : Act Curtain) : w.val.Keeps (jamTest e p w).val := by
  unfold jamTest
  split
  · split
    · split
      · exact (keeps_latchFault e .jammed none w).trans (keeps_changeState (by decide) fun h => absurd h (by decide))
      · exact .refl _
    · exact .refl _
  · exact .refl _

theorem keeps_descentSampleAct (e : CurtainEnv) (w : Act Curtain) : w.val.Keeps (descentSampleAct e w).val := by
  unfold descentSampleAct
  split
  · exact .refl _
  · next d hd =>
    split
    · dsimp only
      have sampled (d' : Descent) : w.val.Keeps
          (w.map fun c => { c with descent := some d', samplesDue := c.samplesDue - 1 }).val :=
        .of_fields rfl rfl rfl rfl rfl rfl
      split
      · exact (sampled _).trans (keeps_landingTest e _ _)
      · exact (sampled _).trans ((keeps_landingTest e _ _).trans ((keeps_lagTest e _ _).trans
          ((keeps_speedTest e _ _).trans (keeps_jamTest e _ _))))
    · exact .refl _

theorem keeps_tick (c : Curtain) : c.Keeps c.tick := by
  unfold Curtain.tick
  split
  · exact .of_fields rfl rfl rfl rfl rfl rfl
  · exact .refl _

/-! ## A raise begins (R72) and the hand-off of the Fire Monitor (R67) -/

theorem raiseInterlock_nil {s : State} (h : s.raiseInterlock = []) :
    s.fire.condition = .quiet ∧ s.curtain.heldDemand = false := by
  simp only [State.raiseInterlock, failing_cons, List.append_eq_nil_iff] at h
  obtain ⟨h1, h2, -⟩ := h
  constructor
  · by_contra hq; simp [hq] at h1
  · by_contra hq; simp [hq] at h2

/-- With no held demand a raise begins with the cause set empty. -/
theorem startRaise_lawful {e : CurtainEnv} {w : Act Curtain} (h : w.val.lawful) (hd : w.val.heldDemand = false) :
    (startRaise e w).val.lawful ∧ (startRaise e w).val.fireDemand = w.val.fireDemand := by
  obtain ⟨⟨h1, h2, h3, -⟩, -⟩ := h
  simp only [Curtain.heldDemand, Bool.or_eq_false_iff] at hd
  obtain ⟨⟨d1, d2⟩, d3⟩ := hd
  have hc : w.val.causes.heldOnly = CauseSet.empty := by
    simp [CauseSet.heldOnly, CauseSet.empty, h1, h2, h3, d1, d2, d3]
  refine ⟨⟨⟨h1, h2, h3, ?_⟩, fun _ => hc⟩, rfl⟩
  simp [startRaise, changeState, Curtain.retardOff]

theorem meetDemand_lawful {e : CurtainEnv} {d : Bool} {w : Act Curtain} (h : w.val.lawful) :
    (meetDemand e d w).val.lawful ∧ (meetDemand e d w).val.fireDemand = d := by
  obtain ⟨⟨h1, h2, h3, h4⟩, h5⟩ := h
  cases hf : w.val.fireDemand <;> cases d <;> simp only [meetDemand, hf, Bool.not_true, Bool.not_false, Bool.and_true,
    Bool.and_false, Bool.false_eq_true, if_true, if_false]
  · exact ⟨⟨⟨h1, h2, h3, h4⟩, h5⟩, trivial⟩
  · exact ⟨releaseDemand_lawful ⟨rfl, h2, h3, h4⟩, (releaseDemand_demands e _).1⟩
  · refine ⟨⟨⟨rfl, h2, h3, h4⟩, fun hs => ?_⟩, rfl⟩
    simp only [Act.map_val] at hs ⊢
    rw [h5 hs]; rfl
  · exact ⟨⟨⟨h1, h2, h3, h4⟩, h5⟩, trivial⟩

/-- The hand-off leaves a lawful curtain with the new demand, RAISING only where it was and the condition does not leave
QUIET. -/
theorem curtainFireHandoff_lawful {e : CurtainEnv} {d : Bool} {c : Option Condition} {w : Act Curtain}
    (h : w.val.lawful) :
    (curtainFireHandoff e d c w).val.lawful ∧ (curtainFireHandoff e d c w).val.fireDemand = d ∧
      ((curtainFireHandoff e d c w).val.state = .raising →
        w.val.state = .raising ∧ c ≠ some .alert ∧ c ≠ some .evacuate) := by
  obtain ⟨k1, k2⟩ := meetDemand_lawful (e := e) (d := d) h
  have ks : (meetDemand e d w).val.state = .raising → w.val.state = .raising := fun hs => by
    rcases meetDemand_state e d w with k | k | k
    · exact k ▸ hs
    all_goals rw [k] at hs; exact absurd hs (by decide)
  rw [curtainFireHandoff_eq]
  split
  · next hr =>
    obtain ⟨p1, p2, p3⟩ := keeps_changeState (e := e) (new := .halted) (reason := .fireChange)
      (w := meetDemand e d w) (by decide) fun _ => by rw [hr.1]; rfl
    have ps := (changeState_fields e .halted .fireChange (meetDemand e d w)).1
    exact ⟨p1 k1, p2.trans k2, fun hs => by rw [ps] at hs; exact absurd hs (by decide)⟩
  · next hr => exact ⟨k1, k2, fun hs => ⟨ks hs, not_or.mp fun hc => hr ⟨hs, hc⟩⟩⟩

end Sys2Proof.Machine
end

section
/-! The curtain law and the hand-offs as one property of a state (R4, R57, R62, R64, R119, R140, R146, R156): what it
reads, and that the acts of each block, a change of the house record and a change of the fire condition keep it. -/
namespace Sys2Proof.Machine

/-- What the law reads but for the zones: the records handed on, what each block has seen of them, and the curtain. -/
def State.view (s : State) :=
  (s.house.phase, s.house.stop, s.fire.condition, s.fire.demand, s.calls.seen, s.lights.seen,
    s.links.console.present, s.curtain)

/-- The curtain law, and every record handed on but for the formula of the FIRE demand. -/
def State.handed (s : State) : Prop :=
  s.curtain.lawful ∧ (s.curtain.state = .raising → s.fire.condition = .quiet) ∧
    s.calls.seen = (s.house.phase, s.fire.condition, s.fire.condition) ∧
    s.lights.seen = (s.house.phase, s.house.stop, s.fire.condition, s.links.console.present) ∧
    s.curtain.fireDemand = s.fire.demand

/-- The whole law: the FIRE demand is the one that the condition and the list call for (R56). -/
def State.joined (s : State) : Prop := s.handed ∧ s.fire.demand = s.fire.demandFor s.fire.condition

theorem joined_iff (s : State) : s.joined ↔ s.curtainLawful ∧ s.handedOn := by
  simp only [State.joined, State.handed, curtainLawful_iff, State.handedOn, Calls.seen, Lights.seen, Prod.mk.injEq]
  tauto

theorem State.handed.congr {s t : State} (h : s.handed) (hv : t.view = s.view) : t.handed := by
  simp only [State.view, Prod.mk.injEq] at hv
  obtain ⟨h1, h2, h3, h4, h5, h6, h7, h8⟩ := hv
  unfold State.handed
  rw [h1, h2, h3, h4, h5, h6, h7, h8]
  exact h

/-- A step that leaves what the law reads, the list and the curtain release flags with it. -/
theorem State.joined.congr {s t : State} (h : s.joined) (hv : t.view = s.view) (hf : t.fire = s.fire) : t.joined :=
  ⟨h.1.congr hv, hf ▸ h.2⟩

/-! ## The blocks act -/

theorem KeepsLinks.console {s t : State} (h : KeepsLinks s t) : t.links.console.present = s.links.console.present :=
  (h .console).1

theorem State.joined.post {s : State} (h : s.joined) (ms : List Mail) : (s.post ms).joined := by
  refine h.congr ?_ rfl
  unfold State.view
  rw [(quietly_post ms s).2.console]
  rfl

theorem State.joined.onCalls {s : State} (h : s.joined) {f : CallEnv → Act Calls → Act Calls}
    (hf : ∀ e w, (f e w).val.seen = w.val.seen) : (s.onCalls f).joined := by
  refine h.congr ?_ rfl
  unfold State.view
  rw [(quietly_onCalls f s).2.console, State.onCalls_calls, hf]
  rfl

theorem State.joined.onLights {s : State} (h : s.joined) {f : LightEnv → Act Lights → Act Lights}
    (hf : ∀ e w, (f e w).val.seen = w.val.seen) : (s.onLights f).joined := by
  refine h.congr ?_ rfl
  unfold State.view
  rw [(quietly_onLights f s).2.console, State.onLights_lights, hf]
  rfl

theorem State.joined.withLights {s : State} (h : s.joined) {l : Lights} (hl : l.seen = s.lights.seen) :
    (s.withLights l).joined := by
  refine h.congr ?_ rfl
  unfold State.view
  rw [show (s.withLights l).lights = l from rfl, hl]
  rfl

/-- An act of the curtain keeps the law where it leaves a lawful record with the same demand, RAISING in QUIET alone. -/
theorem handed_onCurtain {s : State} {f : CurtainEnv → Act Curtain → Act Curtain}
    (hc : s.calls.seen = (s.house.phase, s.fire.condition, s.fire.condition))
    (hg : s.lights.seen = (s.house.phase, s.house.stop, s.fire.condition, s.links.console.present))
    (hl : (f s.curtainEnv ⟨s.curtain, []⟩).val.lawful)
    (hr : (f s.curtainEnv ⟨s.curtain, []⟩).val.state = .raising → s.fire.condition = .quiet)
    (hd : (f s.curtainEnv ⟨s.curtain, []⟩).val.fireDemand = s.fire.demand) : (s.onCurtain f).handed := by
  obtain ⟨k1, k2, -⟩ := demoBookkeeping_lawful_fields s.curtain.state (f s.curtainEnv ⟨s.curtain, []⟩).val.state
    (s.fire.condition == .quiet) s.house
  unfold State.handed
  rw [(quietly_onCurtain f s).2.console, State.onCurtain_house, k1, k2]
  exact ⟨hl, hr, hc, hg, hd⟩

theorem State.joined.onCurtain {s : State} (h : s.joined) {f : CurtainEnv → Act Curtain → Act Curtain}
    (hk : ∀ e (w : Act Curtain), w.val.Keeps (f e w).val) : (s.onCurtain f).joined := by
  obtain ⟨k1, k2, k3⟩ := hk s.curtainEnv ⟨s.curtain, []⟩
  obtain ⟨⟨h1, h2, h3, h4, h5⟩, h6⟩ := h
  exact ⟨handed_onCurtain h3 h4 (k1 h1) (h2 ∘ k3) (k2.trans h5), h6⟩

/-- A port record that tells the same of its presence. -/
theorem State.joined.setPort {s : State} (h : s.joined) (p : Port) {r : PortRecord}
    (hr : r.present = (s.links.get p).present) : (s.setPort p r).joined := by
  refine h.congr ?_ rfl
  unfold State.view
  have hp : (s.setPort p r).links.console.present = s.links.console.present := by
    cases p <;> [rfl; rfl; rfl; exact hr]
  rw [hp]
  rfl

/-! ## Completing a change of the house condition record (R3, R4, R22) -/

theorem handAnchors_seen (events : List (Anchor × AnchorEvent)) (s : State) :
    (handAnchors events s).calls.seen = s.calls.seen := by
  unfold handAnchors
  induction events generalizing s with
  | nil => rfl
  | cons x _ ih => exact (ih _).trans (seen_anchorEventAct _ _ _ _)

/-- The record handed on: the blocks have seen what they saw, with the new phase and stop record. -/
theorem handRecord_seen {old : House} {cause : ClearanceCause} {s : State} {c f g : Condition} {x : Bool}
    (hc : s.calls.seen = (old.phase, f, g)) (hl : s.lights.seen = (old.phase, old.stop, c, x)) :
    (handRecord old cause s).calls.seen = (s.house.phase, f, g) ∧
      (handRecord old cause s).lights.seen = (s.house.phase, s.house.stop, c, x) := by
  by_cases h : old.phase = s.house.phase ∧ old.stop = s.house.stop
  · obtain ⟨h1, h2⟩ := handRecord_samePhase (cause := cause) h.1 h.2
    rw [h1, h2, handAnchors_seen, hc, hl, h.1, h.2]
    exact ⟨rfl, rfl⟩
  · obtain ⟨h1, h2⟩ := handRecord_newPhase (cause := cause) h
    have ha := handAnchors_seen (anchorEvents old.anchors s.house.anchors) s
    rw [h1, h2, lightsSeen_phaseHandoff]
    simp only [Calls.seen, Lights.seen, Prod.mk.injEq] at ha hc hl ⊢
    exact ⟨⟨trivial, ha.2.1.trans hc.2.1, ha.2.2.trans hc.2.2⟩, trivial, trivial, hl.2.2.1, hl.2.2.2⟩

theorem handRecord_joined {old : House} {cause : ClearanceCause} {s : State}
    (h : ({ s with house := old } : State).joined) : (handRecord old cause s).joined := by
  obtain ⟨⟨h1, h2, h3, h4, h5⟩, h6⟩ := h
  obtain ⟨k1, k2, k3⟩ := handRecord_others old cause s
  obtain ⟨k4, k5⟩ := handRecord_seen (cause := cause) (s := s) h3 h4
  unfold State.joined State.handed
  rw [(quietly_handRecord old cause s).2.console, k1, k2, k3]
  exact ⟨⟨h1, h2, k4, k5, h5⟩, h6⟩

/-- A completed change keeps the law where the Fire Monitor does what it does at show mode turning off (R22). -/
theorem completeChange_joined {old : House} {cause : ClearanceCause} {handOff : State → State} {s : State}
    (h : ({ s with house := old } : State).joined) (ho : ∀ t : State, t.joined → (handOff t).joined) :
    (completeChange old cause handOff s).joined := by
  have hr := handRecord_joined (cause := cause) h
  rw [completeChange_eq]
  unfold handShowMode
  dsimp only
  split
  · exact hr
  · split
    · exact hr.post _
    · exact ho _ (hr.post _)

/-! ## A change of the fire condition and of the FIRE demand (R56, R57) -/

/-- The calls and the lights see the new condition, and the phase and the console as they saw them. -/
theorem handCondition_seen (new : Condition) (d : Bool) (t : State) :
    (handCondition new d t).calls.seen = (t.calls.phaseSeen, new, new) ∧
      (handCondition new d t).lights.seen = (t.lights.phaseSeen, t.lights.stopSeen, new, t.lights.consoleSeen) := by
  unfold handCondition
  generalize hv : (t.onCurtain fun e => curtainFireHandoff e d (some new)) = v
  have hl : v.lights = t.lights := by rw [← hv]; rfl
  have hc : v.calls = t.calls := by rw [← hv]; rfl
  refine ⟨?_, ?_⟩
  · have hs := seen_schedulerFireHandoff new (v.onLights (lightsFireHandoff new)).callEnv ⟨v.calls, []⟩
    simp only [Calls.seen, Prod.mk.injEq] at hs
    rw [State.onCalls_calls, seen_arbiterFireHandoff, State.onCalls_calls, State.onLights_calls, hs.1, hs.2.1, hc]
  · rw [State.onCalls_lights, State.onCalls_lights, State.onLights_lights, lightsSeen_fireHandoff, hl]

/-- The curtain, the lights and the calls take up a condition already recorded, with the demand that goes with it. -/
theorem handCondition_joined {new : Condition} {d : Bool} {s t : State} (h : s.handed) (hv : t.view = (s.house.phase,
      s.house.stop, new, d, s.calls.seen, s.lights.seen, s.links.console.present, s.curtain))
    (hd : t.fire.demand = t.fire.demandFor t.fire.condition) : (handCondition new d t).joined := by
  simp only [State.view, Prod.mk.injEq] at hv
  obtain ⟨v1, v2, v3, v4, v5, v6, v7, v8⟩ := hv
  obtain ⟨h1, -, h3, h4, -⟩ := h
  rw [← v5, ← v1] at h3
  rw [← v6, ← v1, ← v2, ← v7] at h4
  obtain ⟨c1, c2, c3⟩ := curtainFireHandoff_lawful (e := t.curtainEnv) (d := d) (c := some new)
    (w := ⟨t.curtain, []⟩) (v8 ▸ h1)
  have hseen := handCondition_seen new d t
  have hq : Quietly t (handCondition new d t) :=
    (((quietly_onCurtain _ t).trans (quietly_onLights _ _)).trans (quietly_onCalls _ _)).trans (quietly_onCalls _ _)
  obtain ⟨k1, k2, -⟩ := demoBookkeeping_lawful_fields t.curtain.state
    (curtainFireHandoff t.curtainEnv d (some new) ⟨t.curtain, []⟩).val.state (t.fire.condition == .quiet) t.house
  refine ⟨⟨c1, fun hs => ?_, ?_, ?_, c2.trans v4.symm⟩, hd⟩
  · obtain ⟨-, c4, c5⟩ := c3 hs
    show t.fire.condition = .quiet
    rw [v3]
    cases new
    · rfl
    · exact absurd rfl c4
    · exact absurd rfl c5
  · simp only [Calls.seen, Prod.mk.injEq] at h3
    rw [hseen.1, show (handCondition new d t).house.phase = _ from k1, handCondition_fire, v3, h3.1]
  · simp only [Lights.seen, Prod.mk.injEq] at h4
    rw [hseen.2, hq.2.console, show (handCondition new d t).house.phase = _ from k1,
      show (handCondition new d t).house.stop = _ from k2, handCondition_fire, v3, h4.1, h4.2.1, h4.2.2.2]

theorem stopShow_joined {s : State} (h : s.joined) : (stopShow s).joined :=
  completeChange_joined (s := { s with house := s.house.evacuated }) h fun _ => id

/-- A change of condition brings the FIRE demand to its formula, whatever the list was before (R56, R57). -/
theorem changeCondition_joined {new : Condition} {cause : FireCause} {s : State} (h : s.handed) :
    (changeCondition new cause s).joined := by
  have hf := conditionRecorded_fire new cause s
  have hd : (conditionRecorded new cause s).fire.demand = s.fire.demandFor new := by
    rw [hf]; split
    · rw [promoteZones_others]; rfl
    · rfl
  have hn : s.fire.demandFor new = (conditionRecorded new cause s).fire.demandFor new := by
    rw [hf]; split
    · next hc => rw [hc.1]; rfl
    · rfl
  have hq := (quietly_conditionRecorded new cause s).2.console
  have hc : (handCondition new (s.fire.demandFor new) ((conditionRecorded new cause s).post
      [fireMail (conditionRecorded new cause s).fire s.fire.condition cause])).joined := by
    refine handCondition_joined h ?_ ?_
    · simp only [State.view, (quietly_post _ _).2.console, State.post_house, State.post_fire, State.post_calls,
        State.post_lights, State.post_curtain, conditionRecorded_condition, hd, hq, Prod.mk.injEq]
      rw [conditionRecorded_others]
      exact ⟨rfl, rfl, trivial, trivial, rfl, rfl, trivial, rfl⟩
    · rw [State.post_fire, conditionRecorded_condition, hd, hn]
  rw [changeCondition_eq]
  dsimp only
  split
  · exact stopShow_joined hc
  · exact hc

theorem evaluateDemand_joined {s : State} (h : s.handed) : (evaluateDemand s).joined := by
  unfold evaluateDemand
  dsimp only
  split
  · next hd => exact ⟨h, hd.symm⟩
  · obtain ⟨h1, h2, h3, h4, -⟩ := h
    obtain ⟨c1, c2, c3⟩ := curtainFireHandoff_lawful (e := s.curtainEnv) (d := s.fire.demandFor s.fire.condition)
      (c := none) (w := ⟨s.curtain, []⟩) h1
    exact ⟨handed_onCurtain (s := { s with fire := { s.fire with demand := s.fire.demandFor s.fire.condition } }) h3 h4
      c1 (fun hs => h2 (c3 hs).1) c2, rfl⟩

end Sys2Proof.Machine
end

section
/-! The FIRE demand under the events at the zones (R47, R56): an event at which no zone enters ALARM leaves the list and
the curtain release flags, and so the demand they call for. -/
namespace Sys2Proof.Machine

/-- What the FIRE demand is formed from, as it was. -/
def Fire.SameGround (f f' : Fire) : Prop :=
  f'.condition = f.condition ∧ f'.demand = f.demand ∧ f'.alarmList = f.alarmList ∧
    ∀ z : ZoneId, f'.zones[z].curtainRelease = f.zones[z].curtainRelease

theorem Fire.SameGround.refl (f : Fire) : f.SameGround f := ⟨rfl, rfl, rfl, fun _ => rfl⟩

theorem Fire.SameGround.trans {a b c : Fire} (h : a.SameGround b) (k : b.SameGround c) : a.SameGround c := by
  obtain ⟨h1, h2, h3, h4⟩ := h
  obtain ⟨k1, k2, k3, k4⟩ := k
  exact ⟨k1.trans h1, k2.trans h2, k3.trans h3, fun z => (k4 z).trans (h4 z)⟩

/-- The demand looks at the curtain release flags of the listed zones alone. -/
theorem Fire.demandFor_congr {f f' : Fire} (hl : f'.alarmList = f.alarmList)
    (hz : ∀ z ∈ f.alarmList, f'.zones[z].curtainRelease = f.zones[z].curtainRelease) (c : Condition) :
    f'.demandFor c = f.demandFor c := by
  rw [Bool.eq_iff_iff, Fire.demandFor_iff, Fire.demandFor_iff, hl]
  exact or_congr_right (and_congr_right fun _ => exists_congr fun z => and_congr_right fun hm => by rw [hz z hm])

theorem Fire.SameGround.demandFor {f f' : Fire} (h : f.SameGround f') (c : Condition) :
    f'.demandFor c = f.demandFor c := Fire.demandFor_congr h.2.2.1 (fun z _ => h.2.2.2 z) c

theorem sameGround_setZone {f : Fire} {z : ZoneId} {q : Zone} (h : q.curtainRelease = f.zones[z].curtainRelease) :
    f.SameGround (f.setZone z q) := by
  refine ⟨rfl, rfl, rfl, fun y => ?_⟩
  rw [Fire.setZone_zones]
  split
  · next e => rw [e, h]
  · rfl

theorem sameGround_recordInput (z : ZoneId) (r : Reading) (f : Fire) : f.SameGround (recordInput z r f) :=
  sameGround_setZone rfl

theorem sameGround_foldl {α : Type} {g : Fire → α → Fire} (hg : ∀ (f : Fire) x, f.SameGround (g f x)) (xs : List α) (f : Fire) :
    f.SameGround (xs.foldl g f) := by
  induction xs generalizing f with
  | nil => exact .refl f
  | cons x xs ih => exact (hg f x).trans (ih _)

/-- What an event at the zones makes of the fire record: condition and demand stay, and where no zone enters ALARM all
that the demand is formed from. -/
def Fire.Stands (f : Fire) (r : Act Fire × List ZoneId) : Prop :=
  r.1.val.condition = f.condition ∧ r.1.val.demand = f.demand ∧ (r.2 = [] → f.SameGround r.1.val)

theorem Fire.SameGround.stands {f : Fire} {r : Act Fire × List ZoneId} (h : f.SameGround r.1.val) : f.Stands r :=
  ⟨h.1, h.2.1, fun _ => h⟩

theorem stands_setZone {f : Fire} {z : ZoneId} {q : Zone} {out : List Mail}
    (h : q.curtainRelease = f.zones[z].curtainRelease) : f.Stands (⟨f.setZone z q, out⟩, []) :=
  Fire.SameGround.stands (sameGround_setZone h)

theorem stands_alarmBatch (now : Nat) (z : ZoneId) (previous : ZoneState) (cause : ZoneCause) (w : Act Fire) :
    w.val.Stands (alarmBatch now z previous cause w) := by
  refine ⟨promoteZones_condition _ _, ?_, fun h => absurd h (by simp [alarmBatch])⟩
  show (promoteZones now (enterAlarm now w.val z)).demand = _
  rw [promoteZones_others]
  rfl

theorem stands_activeArrival (e : FireEnv) (z : ZoneId) (previous : ZoneState) (cause : ZoneCause) (w : Act Fire) :
    w.val.Stands (activeArrival e z previous cause w) := by
  unfold activeArrival
  split
  · exact stands_setZone rfl
  · exact stands_alarmBatch _ _ _ _ w

/-- An ACTIVE arrival at a zone whose record has been written. -/
theorem stands_activeArrival_setZone {e : FireEnv} {f : Fire} {z : ZoneId} {q : Zone} (previous : ZoneState)
    (cause : ZoneCause) (out : List Mail) (h : q.curtainRelease = f.zones[z].curtainRelease) :
    f.Stands (activeArrival e z previous cause ⟨f.setZone z q, out⟩) := by
  obtain ⟨h1, h2, h3⟩ := stands_activeArrival e z previous cause ⟨f.setZone z q, out⟩
  exact ⟨h1, h2, fun hn => (sameGround_setZone h).trans (h3 hn)⟩

theorem stands_zoneArrival (z : ZoneId) (r : Reading) (e : FireEnv) (f : Fire) :
    f.Stands (zoneArrival z r e ⟨f, []⟩) := by
  have hz : (f.setZone z { f.zones[z] with input := r }).zones[z] = { f.zones[z] with input := r } := by
    rw [Fire.setZone_zones, if_pos rfl]
  unfold zoneArrival
  simp only [Act.map, recordInput, hz, Fire.setZone_setZone, changeZone, enterFault]
  cases f.zones[z].state <;> cases r
  case normal.active => exact stands_activeArrival_setZone _ _ _ rfl
  case fault.active => exact stands_activeArrival_setZone _ _ _ rfl
  all_goals exact stands_setZone rfl

theorem stands_delayExpiry (z : ZoneId) (e : FireEnv) (f : Fire) : f.Stands (delayExpiry z e ⟨f, []⟩) := by
  unfold delayExpiry
  dsimp only
  split
  · split
    · exact stands_alarmBatch _ _ _ _ ⟨f, []⟩
    · exact stands_setZone rfl
    · exact (Fire.SameGround.refl f).stands
  · exact (Fire.SameGround.refl f).stands

theorem stands_restoreIsolated (z : ZoneId) (e : FireEnv) (f : Fire) : f.Stands (restoreIsolated z e ⟨f, []⟩) := by
  have hz : (f.setZone z { f.zones[z] with state := .normal, activeWhileIsolated := false }).zones[z] =
      { f.zones[z] with state := .normal, activeWhileIsolated := false } := by rw [Fire.setZone_zones, if_pos rfl]
  unfold restoreIsolated
  simp only [Act.map, hz, changeZone, enterFault, Fire.setZone_setZone]
  cases f.zones[z].input
  case active => exact stands_activeArrival_setZone _ _ _ rfl
  all_goals exact stands_setZone rfl

theorem stands_zoneBaseline (z : ZoneId) (r : Reading) (e : FireEnv) (f : Fire) :
    f.Stands (zoneBaseline z r e ⟨f, []⟩) := by
  obtain ⟨ms, h⟩ := zoneBaseline_apply z r e f
  rw [h]
  exact stands_setZone (by cases r <;> rfl)

theorem stands_panelLoss (e : FireEnv) (f : Fire) : f.Stands (panelLoss e ⟨f, []⟩) := by
  have reads := sameGround_foldl (fun f z => sameGround_recordInput z .faulty f) panelZones f
  have loses (zs : List ZoneId) (w : Act Fire) : w.val.SameGround (zs.foldl losePanelZone w).val := by
    induction zs generalizing w with
    | nil => exact .refl _
    | cons z zs ih =>
      refine Fire.SameGround.trans ?_ (ih _)
      unfold losePanelZone
      split
      · exact sameGround_setZone rfl
      · exact .refl _
  rw [panelLoss_eq]
  dsimp only [Act.map]
  generalize panelZones.foldl (fun f z => recordInput z .faulty f) f = f' at reads ⊢
  refine Fire.SameGround.stands ?_
  exact reads.trans (loses panelZones ⟨f', []⟩)

theorem stands_promoteAll (e : FireEnv) (f : Fire) : f.Stands (promoteAll e ⟨f, []⟩) := by
  rw [promoteAll_apply]
  have hd : (promoteZones e.now f).demand = f.demand := by rw [promoteZones_others]
  refine ⟨promoteZones_condition _ _, hd, fun hn => ⟨promoteZones_condition _ _, hd, ?_, fun y => ?_⟩⟩
  · rw [promoteZones_alarmList, show f.delayedWith .active = [] from hn, List.append_nil]
  · exact congrArg (·.2.2.1) (promoteZones_config e.now f y)

end Sys2Proof.Machine
end

section
/-! The curtain law and the hand-offs kept by every command and every step (R4, R57, R61, R62, R64, R72, R119, R140,
R146, R156). -/
namespace Sys2Proof.Machine

/-! ## Events at the zones -/

/-- A fire record with the ground of the demand as it was. -/
theorem State.joined.refire {s : State} (h : s.joined) {f : Fire} (hf : s.fire.SameGround f) :
    ({ s with fire := f } : State).joined := by
  refine ⟨h.1.congr ?_, ?_⟩
  · unfold State.view; rw [hf.1, hf.2.1]
  · show f.demand = f.demandFor f.condition
    rw [hf.2.1, hf.1, hf.demandFor]
    exact h.2

/-- The zone table acts; what the demand is formed from may have changed. -/
theorem State.handed.onZones {s : State} (h : s.handed) {g : ZoneEvent} (hg : s.fire.Stands (g s.fireEnv ⟨s.fire, []⟩)) :
    (s.onZones g).1.handed := by
  refine h.congr ?_
  unfold State.view
  rw [(quietly_onZones g s).2.console, State.onZones_fire, hg.1, hg.2.1]
  rfl

theorem climbLadder_joined {entering : List ZoneId} {s : State} (h : s.handed) : (climbLadder entering s).joined := by
  unfold climbLadder
  split
  · exact changeCondition_joined h
  · exact evaluateDemand_joined h

theorem State.joined.zoneEvent {s : State} (h : s.joined) {g : ZoneEvent} (hg : s.fire.Stands (g s.fireEnv ⟨s.fire, []⟩)) :
    (zoneEvent g s).joined := by
  have hz := h.1.onZones hg
  rcases zoneEvent_cases g s with ⟨hn, k⟩ | ⟨-, k⟩ <;> rw [k]
  · refine ⟨hz, ?_⟩
    have hs := hg.2.2 hn
    rw [State.onZones_fire, hs.2.1, hs.1, hs.demandFor]
    exact h.2
  · exact climbLadder_joined hz

theorem State.joined.changeHouse {s : State} (h : s.joined) (cause : ClearanceCause) (new : House) :
    (changeHouse cause new s).joined :=
  completeChange_joined h fun _ ht => ht.zoneEvent (stands_promoteAll _ _)

/-! ## Requests -/

theorem takeRequest_joined {p : Port} {i : Instr} {block : State → State × Answer} {s t : State}
    (h : s.joined) (hb : (block s).1.joined) (ht : takeRequest p i block s = .next t) : t.joined := by
  rcases takeRequest_cases p i block s with ⟨-, k⟩ | ⟨-, -, k⟩ | ⟨-, -, -, k⟩ | ⟨-, -, -, -, k⟩ | ⟨-, -, -, -, k⟩ <;>
    rw [k] at ht <;> cases ht
  · exact h
  · exact h.setPort p rfl
  · exact h.setPort p rfl
  · exact h.setPort p rfl
  · exact hb.setPort p rfl

theorem inPhase_joined {accepted : Bool} {block : State → State × Answer} {s : State} (h : s.joined)
    (hb : (block s).1.joined) : (inPhase accepted block s).1.joined := by
  unfold inPhase; split
  · exact hb
  · exact h

theorem interlocked_joined {failed : List Interlock} {block : State → State × Answer} {s : State} (h : s.joined)
    (hb : failed = [] → (block s).1.joined) : (interlocked failed block s).1.joined := by
  unfold interlocked; split
  · next he => exact hb (by simpa using he)
  · exact h

theorem withAuthority_joined {p : Port} {block : State → State × Answer} {s : State} (h : s.joined)
    (hb : (block s).1.joined) : (withAuthority p block s).1.joined := by
  unfold withAuthority; split
  · exact hb
  · exact h

theorem report_joined {b : Option Body} {s : State} (h : s.joined) : (report b s).1.joined := by
  unfold report; split <;> exact h

theorem onZone_joined {zone : Byte} {allowed : ZoneId → Bool} {block : ZoneId → State → State × Answer} {s : State}
    (h : s.joined) (hb : ∀ z, (block z s).1.joined) : (onZone zone allowed block s).1.joined := by
  unfold onZone
  split
  · split
    · exact hb _
    · exact h
  · exact h

theorem configure_joined {write : Option (State → State × Answer)} {s : State} (h : s.joined)
    (hw : ∀ f, write = some f → (f s).1.joined) : (configure write s).1.joined := by
  unfold configure
  split
  · split
    · next f => exact hw f rfl
    · exact h
  · exact h

/-! ### The Performance Unit -/

theorem openPerformance_joined {s : State} (h : s.joined) : (openPerformanceBlock s).1.joined := by
  have hz (z : ZoneId) : s.fire.clearSuppressed.zones[z] = { s.fire.zones[z] with suppressed := 0 } := vmap_get _ _ z
  have hg : s.fire.SameGround s.fire.clearSuppressed := ⟨rfl, rfl, rfl, fun z => by rw [hz]⟩
  exact inPhase_joined h ((h.refire hg).changeHouse _ _)

theorem enterDark_joined {s : State} (h : s.joined) : (enterDark s).joined := by
  refine completeChange_joined (h.congr ?_ rfl) fun _ ht => ht.zoneEvent (stands_promoteAll _ _)
  have hc := (quietly_onCalls darkCancelAct { s with house := s.house.darkened }).2.console
  unfold State.view
  dsimp only
  rw [hc, State.onCalls_calls, seen_darkCancelAct]
  rfl

theorem endAct_joined {s : State} (final : Bool) (h : s.joined) : (endActBlock final s).1.joined := by
  refine inPhase_joined h ?_
  split
  · exact h.changeHouse _ _
  · split
    · exact h
    · exact h.changeHouse _ _

theorem resume_joined {s : State} (h : s.joined) : (resumeBlock s).1.joined := by
  unfold resumeBlock
  split
  · split <;> exact interlocked_joined h fun _ => h.changeHouse _ _
  · exact h

theorem delayUp_joined {s : State} (n : Nat) (h : s.joined) : (delayUpBlock n s).1.joined := by
  refine inPhase_joined h ?_
  dsimp only
  split
  · exact h
  · exact h.changeHouse _ _

/-! ### The Fire Monitor -/

theorem zoneReport_joined {s : State} (pairs : List (Byte × Byte)) (h : s.joined) :
    (zoneReportBlock pairs s).1.joined := by
  unfold zoneReportBlock
  split
  · exact h
  · next ps _ =>
    dsimp only
    clear * - h
    induction ps generalizing s with
    | nil => exact h
    | cons q qs ih => exact ih (h.zoneEvent (stands_zoneArrival q.1 q.2 _ _))

/-- A reset changes neither the condition nor the demand before the demand is formed again. -/
theorem resetZoneBlock_joined {s : State} (z : ZoneId) (h : s.joined) : (resetZoneBlock z s).1.joined := by
  unfold resetZoneBlock
  dsimp only
  split
  · split
    · exact h
    · refine evaluateDemand_joined (h.1.congr ?_)
      have hl : (leaveAlarm z s.fireEnv ⟨s.fire, []⟩).1.val.condition = s.fire.condition ∧
          (leaveAlarm z s.fireEnv ⟨s.fire, []⟩).1.val.demand = s.fire.demand := by
        unfold leaveAlarm; dsimp only; split <;> exact ⟨rfl, rfl⟩
      unfold State.view
      rw [(quietly_onZones _ s).2.console, State.onZones_fire, hl.1, hl.2]
      rfl
  · exact h

theorem isolateBlock_joined {s : State} (z : ZoneId) (h : s.joined) : (isolateBlock z s).1.joined := by
  unfold isolateBlock
  dsimp only
  split
  case h_4 | h_5 => exact h.zoneEvent (stands_setZone rfl)
  all_goals exact h

theorem restoreZoneBlock_joined {s : State} (z : ZoneId) (h : s.joined) : (restoreZoneBlock z s).1.joined := by
  unfold restoreZoneBlock
  split
  · exact h.zoneEvent (stands_restoreIsolated z _ _)
  · exact h

theorem acknowledged_release (k : Desk) (r : Zone) : (r.acknowledged k).curtainRelease = r.curtainRelease := by
  cases k <;> rfl

theorem acknowledgeBlock_joined {s : State} (k : Desk) (zone : Option ZoneId) (h : s.joined) :
    (acknowledgeBlock k zone s).1.joined := by
  cases zone with
  | none => exact h.refire ⟨rfl, rfl, rfl, fun z => by
      rw [vmap_get]; exact acknowledged_release k _⟩
  | some x => exact h.refire (sameGround_setZone (acknowledged_release k _))

theorem acknowledgeNamed_joined {s : State} (k : Desk) (zone : Byte) (h : s.joined) :
    (acknowledgeNamed k zone s).1.joined := by
  unfold acknowledgeNamed
  split
  · exact acknowledgeBlock_joined k none h
  · exact onZone_joined h fun z => acknowledgeBlock_joined k (some z) h

theorem evacuateBlock_joined {s : State} (cause : FireCause) (h : s.joined) : (evacuateBlock cause s).1.joined := by
  unfold evacuateBlock; split
  · exact h
  · exact changeCondition_joined h.1

theorem returnToQuiet_joined {s : State} (required other : Condition) (cause : FireCause) (h : s.joined) :
    (returnToQuiet required other cause s).1.joined := by
  unfold returnToQuiet
  split_ifs
  · exact h
  · exact h
  · exact changeCondition_joined h.1
  · exact h

/-! ### The Configuration Store, the Call Scheduler, the curtain and the lights -/

/-- A zone that is not listed counts for nothing in the demand; for one that is listed the demand is formed again. -/
theorem writeZone_joined {s : State} (z : ZoneId) (c : ZoneClass) (a : Area) (r d : Bool) (h : s.joined) :
    (writeZone z c a r d s).1.joined := by
  have hw : (s.zoneWritten z c a r d).handed := h.1.congr rfl
  show (afterZoneWrite z s.fire.zones[z] (s.zoneWritten z c a r d)).joined
  rcases afterZoneWrite_cases z s.fire.zones[z] (s.zoneWritten z c a r d) with
    ⟨hz, k⟩ | ⟨-, -, -, cause, -, k⟩ | ⟨-, -, k⟩ <;> rw [k]
  · have hd := Fire.demandFor_congr (f := s.fire) (f' := (s.zoneWritten z c a r d).fire) rfl
      (fun y hy => by rw [zoneWritten_zone, if_neg fun e : y = z => hz (e ▸ hy)]) s.fire.condition
    exact ⟨hw, h.2.trans hd.symm⟩
  · exact changeCondition_joined hw
  · exact evaluateDemand_joined hw

theorem writePagingZone_joined {s : State} (z : Fin 12) (staff evac : Bool) (h : s.joined) :
    (writePagingZone z staff evac s).1.joined :=
  State.joined.onCalls (s := { s with calls := s.calls.zoneWritten z staff evac }) (h.congr rfl rfl)
    seen_afterPagingWrite

theorem createCallBlock_joined {s : State} (k : Desk) (o : CallOrder) (h : s.joined) :
    (createCallBlock k o s).1.joined := by
  unfold createCallBlock
  split_ifs <;> try exact h
  split
  · exact h
  · exact h.onCalls (seen_placeCall _ _)

theorem cancelCallBlock_joined {s : State} (d : Byte) (h : s.joined) : (cancelCallBlock d s).1.joined := by
  unfold cancelCallBlock
  split
  · exact h
  · split_ifs
    · exact h
    · exact h.onCalls (seen_cancelAct _)
    · exact h

theorem zoneGateBlock_joined {s : State} (z : Byte) (m d : Bool) (h : s.joined) :
    (zoneGateBlock z m d s).1.joined := by
  unfold zoneGateBlock
  split
  · exact h.onCalls (seen_gateAct _ _ _)
  · exact h

theorem resetChannelBlock_joined {s : State} (c : Byte) (h : s.joined) : (resetChannelBlock c s).1.joined := by
  unfold resetChannelBlock
  split
  · exact h
  · split_ifs
    · exact h
    · exact h.onCalls (seen_resetChannelAct _)
    · exact h

/-- A raise begins in QUIET and with no held demand (R72). -/
theorem startRaise_joined {s : State} (h : s.joined) (hi : s.raiseInterlock = []) : (s.onCurtain startRaise).joined := by
  obtain ⟨hq, hd⟩ := raiseInterlock_nil hi
  obtain ⟨⟨h1, h2, h3, h4, h5⟩, h6⟩ := h
  obtain ⟨k1, k2⟩ := startRaise_lawful (e := s.curtainEnv) (w := ⟨s.curtain, []⟩) h1 hd
  exact ⟨handed_onCurtain h3 h4 k1 (fun _ => hq) (k2.trans h5), h6⟩

theorem raiseHoldBlock_joined {s : State} (h : s.joined) : (raiseHoldBlock s).1.joined := by
  unfold raiseHoldBlock
  split
  case h_1 | h_2 | h_3 => exact interlocked_joined h (startRaise_joined h)
  · exact h.onCurtain keeps_renewLease
  all_goals exact h

theorem resetManualBlock_joined {s : State} (h : s.joined) : (resetManualBlock s).1.joined := by
  unfold resetManualBlock
  split_ifs
  · exact h
  · exact h.onCurtain fun _ => keeps_clearManual
  · exact h

theorem lightsBlock_joined {s : State} (slot : Byte) (pairs : List (Byte × Byte)) (h : s.joined) :
    (lightsBlock slot pairs s).1.joined := by
  unfold lightsBlock
  split
  · exact h.withLights (lightsSeen_startPairs _ _ _ _)
  · exact h

theorem goPresetBlock_joined {s : State} (p slot : Byte) (h : s.joined) : (goPresetBlock p slot s).1.joined := by
  unfold goPresetBlock
  split
  · split_ifs
    · exact h.withLights rfl
    · exact h
  · exact h

theorem panicOffBlock_joined {s : State} (h : s.joined) : (panicOffBlock s).1.joined := by
  refine h.withLights ?_
  split
  · exact lightsSeen_panicOff _ _
  · rfl

/-! ## Events -/

theorem sampleCurtain_joined {s : State} (raw : BitVec 17) (due : Curtain → Bool)
    {f : CurtainEnv → Act Curtain → Act Curtain} (hf : ∀ e (w : Act Curtain), w.val.Keeps (f e w).val)
    (h : s.joined) : (sampleCurtain raw due f s).joined := by
  have hr : (s.readEncoder raw).joined := h.congr rfl rfl
  unfold sampleCurtain
  dsimp only
  split
  · exact hr.onCurtain hf
  · exact hr

/-- The presence of the console is handed to the lights (R119). -/
theorem consoleLinkChange_joined {s t : State} {present : Bool} (h : s.joined) (hf : t.fire = s.fire)
    (hv : t.view = (s.house.phase, s.house.stop, s.fire.condition, s.fire.demand, s.calls.seen, s.lights.seen, present,
      s.curtain)) : (t.onLights (consoleLinkChange present)).joined := by
  simp only [State.view, Prod.mk.injEq] at hv
  obtain ⟨v1, v2, -, -, v5, v6, v7, v8⟩ := hv
  obtain ⟨⟨h1, h2, h3, h4, h5⟩, h6⟩ := h
  rw [← v6] at h4
  simp only [Lights.seen, Prod.mk.injEq] at h4
  unfold State.joined State.handed
  rw [(quietly_onLights _ t).2.console, State.onLights_lights, lightsSeen_consoleLinkChange, State.onLights_calls,
    State.onLights_curtain, State.onLights_fire, State.onLights_house, hf, v1, v2, v5, v7, v8, h4.1, h4.2.1, h4.2.2.1]
  exact ⟨⟨h1, h2, h3, rfl, h5⟩, h6⟩

/-- A change of presence: the lights see that of the console, and no other port is seen (R119, R171). -/
theorem completePresence_joined {s : State} (p : Port) (r : PortRecord) (v : Option Nat) (h : s.joined) :
    (completePresence p r v s).joined := by
  have others (hp : p ≠ .console) :
      ((s.setPort p { r with changedAt := some s.clock }).post [linkMail p r.present v]).joined := by
    refine State.joined.post (s := s.setPort p _) (h.congr ?_ rfl) _
    cases p with
    | prompt | house | panel => rfl
    | console => exact absurd rfl hp
  cases p with
  | prompt | house => exact others (by decide)
  | panel =>
    unfold completePresence handPresence
    dsimp only
    split
    · exact (others (by decide)).post _
    · exact (others (by decide)).zoneEvent (stands_panelLoss _ _)
  | console =>
    refine consoleLinkChange_joined h rfl ?_
    unfold State.view
    rw [(quietly_post _ _).2.console]
    rfl

theorem markPresent_joined {s : State} (p : Port) (h : s.joined) : (markPresent p s).joined := by
  unfold markPresent
  dsimp only
  split
  · next hp => exact h.setPort p hp.symm
  · exact completePresence_joined _ _ _ h

theorem receiveOne_joined {s : State} (p : Port) (b : Byte) (h : s.joined) : (receiveOne p s b).joined := by
  have enqueued (f : Frame) (r : PortRecord) : (r.enqueue f).present = r.present := by
    unfold PortRecord.enqueue; split_ifs <;> rfl
  have hr : (s.setPort p { s.links.get p with receiver := (receiveByte p (s.links.get p).receiver b).1 }).joined :=
    h.setPort p rfl
  unfold receiveOne
  dsimp only
  split
  · exact (markPresent_joined p hr).setPort p (enqueued _ _)
  · exact hr

theorem receiveFrame_joined {s : State} (p : Port) (bytes : List Byte) (h : s.joined) :
    (bytes.foldl (receiveOne p) s).joined := by
  induction bytes generalizing s with
  | nil => exact h
  | cons b bs ih => exact ih (receiveOne_joined p b h)

theorem linkLoss_joined {s : State} (p : Port) (h : s.joined) : (linkLoss p s).joined := by
  unfold linkLoss
  dsimp only
  split
  · exact completePresence_joined _ _ _ h
  · exact h

theorem dropReception_joined {s : State} (p : Port) (h : s.joined) : (dropReception p s).joined := h.setPort p rfl

theorem sent_present (r : PortRecord) : r.sent.present = r.present := by
  unfold PortRecord.sent
  split
  · rfl
  · dsimp only
    split
    · split <;> rfl
    · rfl

theorem handLine_joined {s : State} (l : Line) (old : Option Reading) (new : Reading) (h : s.joined) :
    (handLine l old new s).joined := by
  unfold handLine
  split_ifs
  · exact h.zoneEvent (stands_zoneArrival _ _ _ _)
  · exact h.onCurtain fun e => keeps_hardLineChange e _ _
  · exact h.onCurtain fun e => keeps_manualChange e _ _
  · exact h.withLights (l := { s.lights with blackout := new }) rfl
  · exact h.onCurtain fun e => keeps_bottomLimitChange e _
  · exact h.onCurtain fun e => keeps_topLimitChange e _

theorem settleLine_joined {s : State} (l : Line) (h : s.joined) : (settleLine l s).joined := by
  unfold settleLine
  dsimp only
  split
  · exact handLine_joined _ _ _ (h.congr rfl rfl)
  · exact h

theorem State.joined.tick {s : State} (h : s.joined) : s.tick.joined := by
  obtain ⟨⟨h1, h2, h3, h4, h5⟩, h6⟩ := h
  obtain ⟨p1, p2, -⟩ := s.house.tick_fields
  obtain ⟨c1, c2, c3⟩ := keeps_tick s.curtain
  have hf : s.fire.SameGround s.fire.tick := ⟨rfl, rfl, rfl, fun z => by
    rw [show s.fire.tick.zones[z] = _ from vmap_get _ _ z]⟩
  refine ⟨⟨c1 h1, h2 ∘ c3, ?_, ?_, c2.trans h5⟩, ?_⟩
  · rw [show s.tick.house.phase = _ from p1]; exact h3
  · rw [show s.tick.house.phase = _ from p1, show s.tick.house.stop = _ from p2]; exact h4
  · show s.fire.demand = s.fire.tick.demandFor s.fire.condition
    rw [hf.demandFor]; exact h6

/-! ## Power-on and the baselines -/

theorem atPowerOn_joined (pins : Pins) : (State.atPowerOn pins).joined :=
  ⟨⟨⟨⟨rfl, rfl, rfl, show Curtain.powerOn.raise.isSome = true ↔ Curtain.powerOn.state = .raising by decide⟩,
    fun h => absurd h (show ¬ Curtain.powerOn.state.heldOut = true by decide)⟩, fun _ => rfl, rfl, rfl, rfl⟩, rfl⟩

theorem poweredOn_joined (s : State) : (poweredOn s).joined := by
  have check (t : State) (ch : Channel) (h : t.joined) : (checkPlayer t ch).joined := by
    unfold checkPlayer
    split
    · exact h.onCalls (seen_playingRisesAct ch)
    · exact h
  exact check _ _ (check _ _ ((atPowerOn_joined s.pins).congr rfl rfl))

theorem takeBaselines_joined {s : State} (h : s.joined) : (takeBaselines s).joined := by
  have zones (zs : List (Fin 8)) (t : State) (ht : t.joined) : (zs.foldl zoneLineBaseline t).joined := by
    induction zs generalizing t with
    | nil => exact ht
    | cons z zs ih => exact ih _ (ht.zoneEvent (stands_zoneBaseline _ _ _ _))
  have hz := zones (List.finRange 8) s.linesTaken (h.congr rfl rfl)
  rw [takeBaselines_eq]
  generalize (List.finRange 8).foldl zoneLineBaseline s.linesTaken = t at hz ⊢
  have hb : t.blackoutTaken.joined :=
    hz.withLights (l := { t.lights with blackout := (t.settled blackoutLine).getD .quiet }) rfl
  exact (hb.onCurtain fun e => keeps_hardLineChange e none _).onCurtain fun e => keeps_bottomBaseline e _

/-! ## Every command and every step -/

theorem joined_of_ite {c : Prop} [Decidable c] {a b t : State} (ha : a.joined) (hb : b.joined)
    (ht : (if c then .next a else .next b : Answered) = .next t) : t.joined := by
  split at ht <;> cases ht
  · exact ha
  · exact hb

theorem callEvent_joined {f : CallEnv → Act Calls → Act Calls} (hf : ∀ e w, (f e w).val.seen = w.val.seen)
    {s t : State} (h : s.joined) (ht : callEvent f s = .next t) : t.joined :=
  joined_of_ite h (h.onCalls hf) ht

theorem execUnknownRequest_joined {p : Port} {k : Byte} {payload : List Byte} {s t : State} (h : s.joined)
    (ht : execUnknownRequest p k payload s = .next t) : t.joined := by
  unfold execUnknownRequest at ht
  split at ht
  · cases ht; exact h
  · refine takeRequest_joined h ?_ ht
    split
    · unfold unknownRecord; split <;> exact h
    · exact h

/-- Every command keeps the law. -/
theorem exec_joined (i : Instr) {s t : State} (h : s.joined) (ht : exec i s = .next t) : t.joined := by
  have request {p : Port} {block : State → State × Answer} (hb : (block s).1.joined)
      (ht : takeRequest p i block s = .next t) : t.joined := takeRequest_joined h hb ht
  have configured {p : Port} {write : Option (State → State × Answer)} (hw : ∀ f, write = some f → (f s).1.joined)
      (ht : takeRequest p i (configure write) s = .next t) : t.joined :=
    takeRequest_joined h (configure_joined h hw) ht
  have params (p : Params) : ({ s with params := p } : State).joined := h.congr rfl rfl
  cases i with
  | powerOn => cases ht; exact poweredOn_joined s
  | resetAsserted => cases ht; exact (atPowerOn_joined s.pins).congr rfl rfl
  | startUpSettleEnd => exact joined_of_ite (takeBaselines_joined h) h ht
  | lineRawChange l sound closed =>
    have hp (p : Pins) : ({ s with pins := p } : State).joined := h.congr rfl rfl
    have hr (t : State) (k : t.joined) : (t.reread l).joined := k.congr rfl rfl
    exact joined_of_ite (hp _) (hr _ (hp _)) ht
  | settleExpiry l => exact joined_of_ite h (settleLine_joined l h) ht
  | receiveFrame p bytes => exact joined_of_ite h (receiveFrame_joined p bytes h) ht
  | frameAbandoned p => exact joined_of_ite h (dropReception_joined p h) ht
  | supervisionExpiry p => exact joined_of_ite h (linkLoss_joined p h) ht
  | frameSent p => exact joined_of_ite h (h.setPort p (sent_present _)) ht
  | lengthAbove120 p n => exact joined_of_ite h (dropReception_joined p h) ht
  | unknownRequest p k payload => exact execUnknownRequest_joined h ht
  | configureZone =>
    refine configured (fun f hf => ?_) ht
    split at hf <;> cases hf
    exact writeZone_joined _ _ _ _ _ h
  | configureCurtain => exact configured (fun f hf => by cases hf; exact params _) ht
  | configureCircuit | configureSlot | configurePreset =>
    refine configured (fun f hf => ?_) ht
    split at hf <;> cases hf
    exact h.congr rfl rfl
  | configurePagingZone =>
    refine configured (fun f hf => ?_) ht
    split at hf <;> cases hf
    exact writePagingZone_joined _ _ _ h
  | configureBuiltInCall =>
    refine configured (fun f hf => ?_) ht
    split at hf
    · split at hf <;> cases hf
      exact params _
    · cases hf
  | configureTiming =>
    refine configured (fun f hf => ?_) ht
    split at hf <;> cases hf
    exact params _
  | configureLine =>
    refine configured (fun f hf => ?_) ht
    split at hf <;> cases hf
    exact h.congr rfl rfl
  | configureOption => exact configured (fun f hf => by cases hf; exact params _) ht
  | configurationComplete | showStop | endPerformance | giveClearance | setPlannedUp | extendInterval | showModeOn
  | showModeOff => exact request (inPhase_joined h (h.changeHouse _ _)) ht
  | withdrawClearance => exact request (h.changeHouse _ _) ht
  | openHouse | goAct => exact request (inPhase_joined h (interlocked_joined h fun _ => h.changeHouse _ _)) ht
  | openPerformance => exact request (openPerformance_joined h) ht
  | closePerformance | houseClosed => exact request (inPhase_joined h (enterDark_joined h)) ht
  | endAct => exact request (endAct_joined _ h) ht
  | resume => exact request (resume_joined h) ht
  | delayUp => exact request (delayUp_joined _ h) ht
  | intervalCountdownExpiry =>
    exact joined_of_ite (a := ({ s with intervalUpDue := false } : State).post [intervalUpMail s.house])
      (State.joined.post (h.congr rfl rfl) _) h ht
  | zoneReport => exact request (zoneReport_joined _ h) ht
  | panelResetZone | resetZone => exact request (onZone_joined h fun z => resetZoneBlock_joined z h) ht
  | isolateZone => exact request (onZone_joined h fun z => isolateBlock_joined z h) ht
  | restoreZone => exact request (onZone_joined h fun z => restoreZoneBlock_joined z h) ht
  | acknowledgeZones => exact request (acknowledgeNamed_joined _ _ h) ht
  | showDelayExpiry z => exact joined_of_ite h (h.zoneEvent (stands_delayExpiry z _ _)) ht
  | investigationExpiry => exact joined_of_ite (changeCondition_joined h.1) h ht
  | evacuateNow | panelEvacuate => exact request (evacuateBlock_joined _ h) ht
  | standDown | restore => exact request (returnToQuiet_joined _ _ _ h) ht
  | dropCurtain => exact request (h.onCurtain keeps_dropAct) ht
  | stopRaise => exact request (h.onCurtain fun e => keeps_haltRaise e _) ht
  | clearCurtainFaults => exact request (h.onCurtain keeps_clearFaults) ht
  | demonstrateCurtain =>
    exact request (inPhase_joined h (interlocked_joined h fun _ => h.onCurtain keeps_demonstrateAct)) ht
  | raiseHold => exact request (raiseHoldBlock_joined h) ht
  | resetManualRelease => exact request (resetManualBlock_joined h) ht
  | leaseExpiry => exact joined_of_ite (h.onCurtain fun e => keeps_haltRaise e _) h ht
  | raiseSample raw => cases ht; exact sampleCurtain_joined raw _ keeps_raiseSampleAct h
  | creepSample raw => cases ht; exact sampleCurtain_joined raw _ keeps_creepSampleAct h
  | descentSample raw => cases ht; exact sampleCurtain_joined raw _ keeps_descentSampleAct h
  | lights => exact request (withAuthority_joined h (lightsBlock_joined _ _ h)) ht
  | goPreset => exact request (withAuthority_joined h (goPresetBlock_joined _ _ h)) ht
  | holdFades => exact request (withAuthority_joined h (h.withLights rfl)) ht
  | fadeStep => exact joined_of_ite h (h.withLights (lightsSeen_stepFade _ _)) ht
  | takeLights =>
    exact request (inPhase_joined h (interlocked_joined h fun _ =>
      h.onLights fun e w => lightsSeen_changeAuthority e _ _ w)) ht
  | giveBackLights | reclaimLights => exact request (h.onLights fun e w => lightsSeen_changeAuthority e _ _ w) ht
  | panicLightsOn => exact request (h.withLights rfl) ht
  | panicLightsOff => exact request (panicOffBlock_joined h) ht
  | dimmerFrame => exact joined_of_ite h (h.withLights (l := { s.lights with dimmer := some s.frameLevels }) rfl) ht
  | createCall => exact request (createCallBlock_joined _ _ h) ht
  | cancelCall => exact request (cancelCallBlock_joined _ h) ht
  | collectCompletions => exact request (h.onCalls (seen_collectAct _)) ht
  | zoneGate => exact request (zoneGateBlock_joined _ _ _ h) ht
  | resetChannel => exact request (resetChannelBlock_joined _ h) ht
  | dueTimerExpiry => exact callEvent_joined seen_dueTimerAct h ht
  | callDeadline c => exact callEvent_joined (seen_deadlineAct c) h ht
  | startTimerExpiry ch => exact callEvent_joined (seen_startTimerExpiryAct ch) h ht
  | guardTimerExpiry ch => exact callEvent_joined (seen_guardTimerExpiryAct ch) h ht
  | stopTimerExpiry ch => exact callEvent_joined (seen_stopTimerExpiryAct ch) h ht
  | builtInGapExpiry b => exact callEvent_joined (seen_gapExpiryAct _) h ht
  | playingRises ch =>
    exact callEvent_joined (s := s.setPlaying ch _) (seen_playingRisesAct ch) (h.congr rfl rfl) ht
  | playingFalls ch =>
    exact callEvent_joined (s := s.setPlaying ch _) (seen_playingFallsAct ch) (h.congr rfl rfl) ht
  | readHouse | readZones | readAlarmList | readCurtain | readCircuits | readCall | readQueues | readChannels
  | readLinks => exact request (report_joined h) ht
  | performanceClockTick raw =>
    have hr : (s.readEncoder raw).joined := h.congr rfl rfl
    exact joined_of_ite hr hr.tick ht

/-- Settles O57: the law is brought to a joined form that every block keeps; a change of condition, and a list from which
the demand is formed again, hand it on to the curtain, the lights and the calls. -/
theorem everyStepKeepsTheCurtainLaw : Obligations.EveryStepKeepsTheCurtainLaw := by
  intro s s' h hs
  rw [← joined_iff] at h ⊢
  exact keptByStep_of_exec (Inv := State.joined) (fun _ _ h => h.congr rfl rfl) (fun i _ _ h ht => exec_joined i h ht)
    s s' h hs

end Sys2Proof.Machine
end

section
/-! SUPPORT. The staff alert on the change to ALERT (R157, R160): the general calls that its zones meet pre-empted, a
channel made free for it, and its search. -/
namespace Sys2Proof.Machine

/-! ## Calls pre-empted one after another (R159, R160) -/

/-- One general call has been pre-empted, or there was none on the channel. -/
def PreEmpts (e : CallEnv) (w v : Act Calls) : Prop := ∃ ch, v = preEmpt e ch w

/-- General calls have been pre-empted, and nothing else has happened. -/
abbrev Cleared (e : CallEnv) : Act Calls → Act Calls → Prop := Relation.ReflTransGen (PreEmpts e)

theorem preEmpt_cleared (e : CallEnv) (ch : Channel) (w : Act Calls) : Cleared e w (preEmpt e ch w) :=
  .single ⟨ch, rfl⟩

/-- What every pre-emption keeps, any number of them keeps. -/
theorem Cleared.keeps {e : CallEnv} {P : Calls → Prop} (h : ∀ ch w, P w.val → P (preEmpt e ch w).val) {w v : Act Calls}
    (hc : Cleared e w v) (hw : P w.val) : P v.val := by
  induction hc with
  | refl => exact hw
  | tail _ hs ih =>
    obtain ⟨ch, rfl⟩ := hs
    exact h ch _ ih

theorem preEmpt_some {e : CallEnv} {ch : Channel} {w : Act Calls} {i : CallId} (h : w.val.generalOn ch = some i) :
    preEmpt e ch w = (finishCall e.now i .preEmpted w).map (stopChannel e ch) := by
  unfold preEmpt; rw [h]

theorem preEmpt_cases (e : CallEnv) (ch : Channel) (w : Act Calls) :
    preEmpt e ch w = w ∨ ∃ i, w.val.generalOn ch = some i ∧
      preEmpt e ch w = (finishCall e.now i .preEmpted w).map (stopChannel e ch) := by
  cases h : w.val.generalOn ch with
  | none => exact .inl (preEmpt_none h)
  | some i => exact .inr ⟨i, rfl, preEmpt_some h⟩

theorem spares_preEmpted (e : CallEnv) (ch : Channel) (i : CallId) (w : Act Calls) :
    w.val.Spares (· = i) ((finishCall e.now i .preEmpted w).map (stopChannel e ch)).val :=
  (spares_finishCall e.now i .preEmpted w).trans (spares_stopChannel _ e ch _)

theorem sameScene_preEmpt (e : CallEnv) (ch : Channel) (w : Act Calls) : w.val.SameScene (preEmpt e ch w).val := by
  rcases preEmpt_cases e ch w with h | ⟨i, -, h⟩ <;> rw [h]
  · exact .refl _
  · exact (sameStage_finishCall e.now i .preEmpted w).scene.trans (sameScene_stopChannel e ch _)

/-- A pre-emption on one channel leaves the other as it was. -/
theorem preEmpt_chan_of_ne (e : CallEnv) {ch k : Channel} (w : Act Calls) (h : k ≠ ch) :
    (preEmpt e ch w).val.chan k = w.val.chan k := by
  rcases preEmpt_cases e ch w with he | ⟨i, -, he⟩ <;> rw [he]
  exact (stopChannel_chan_of_ne e _ h).trans (finishCall_chan _ _ _ w k)

/-- A channel that carries nothing is no channel of a pre-emption. -/
theorem preEmpt_chan_of_free (e : CallEnv) (ch : Channel) {k : Channel} {w : Act Calls}
    (h : (w.val.chan k).carrying = false) : (preEmpt e ch w).val.chan k = w.val.chan k := by
  by_cases hk : k = ch
  · subst hk
    rw [preEmpt_none (by unfold Calls.generalOn; rw [h]; rfl)]
  · exact preEmpt_chan_of_ne e w hk

/-- A pre-empted channel holds no call. -/
theorem channelsShrink_preEmpt (e : CallEnv) (ch : Channel) (w : Act Calls) :
    w.val.ChannelsShrink (preEmpt e ch w).val := by
  rcases preEmpt_cases e ch w with h | ⟨i, -, h⟩ <;> rw [h]
  · exact fun _ => .inl rfl
  · exact .trans (fun k => .inl (finishCall_chan _ _ _ w k)) (channelsShrink_stopChannel e ch _)

/-! ## One general call among them -/

/-- A call has ended, and neither a channel nor READY holds it. -/
def Calls.gone (x : CallId) (k : Desk) (o : CallOutcome) (n : Nat) (c : Calls) : Prop :=
  c.ended x k o n ∧ (∀ ch, (c.chan ch).call ≠ some x) ∧ x ∉ c.ready

theorem preEmpt_gone {e : CallEnv} {x : CallId} {k : Desk} {o : CallOutcome} {n : Nat} (ch : Channel) (w : Act Calls)
    (h : w.val.gone x k o n) : (preEmpt e ch w).val.gone x k o n := by
  have hs := channelsShrink_preEmpt e ch w
  rcases preEmpt_cases e ch w with he | ⟨i, hi, he⟩
  · rwa [he]
  · obtain ⟨h1, h2, h3⟩ := h
    have hx : x ≠ i := fun hxi => h2 ch (hxi ▸ (Calls.generalOn_eq_some_iff.mp hi).2.1)
    have sp := spares_preEmpted e ch i w
    rw [← he] at sp
    refine ⟨sp.ended x k o n hx h1, fun k' => ?_, mt (sp.ready x hx).mp h3⟩
    rcases hs k' with hk | hk <;> rw [hk]
    · exact h2 k'
    · exact fun hn => nomatch hn

/-- A general call stands with its descriptor on one channel, which it alone holds. -/
structure Calls.Holds (x : CallId) (ch : Channel) (r : ChannelRecord) (d : Descriptor) (c : Calls) : Prop where
  on : c.generalOn ch = some x
  record : c.chan ch = r
  only : ∀ k, (c.chan k).call = some x → k = ch
  stands : c.stands x d

/-- A pre-emption on the other channel leaves the call on its own. -/
theorem Calls.Holds.preEmpt {e : CallEnv} {x : CallId} {ch k : Channel} {r : ChannelRecord} {d : Descriptor}
    {w : Act Calls} (h : w.val.Holds x ch r d) (hk : k ≠ ch) : (preEmpt e k w).val.Holds x ch r d := by
  have hch := preEmpt_chan_of_ne e w hk.symm
  have hs := channelsShrink_preEmpt e k w
  refine ⟨by unfold Calls.generalOn; rw [hch]; exact h.on, hch.trans h.record, fun k' hk' => ?_, ?_⟩
  · rcases hs k' with he | he
    · exact h.only k' (he ▸ hk')
    · rw [he] at hk'; exact nomatch hk'
  · rcases preEmpt_cases e k w with he | ⟨i, hi, he⟩ <;> rw [he]
    · exact h.stands
    · exact h.stands.spared (spares_preEmpted e k i w)
        fun hxi => hk (h.only k (hxi ▸ (Calls.generalOn_eq_some_iff.mp hi).2.1))

/-- A pre-emption on its own channel ends it. -/
theorem Calls.Holds.preEmpted {e : CallEnv} {x : CallId} {ch : Channel} {r : ChannelRecord} {d : Descriptor}
    {w : Act Calls} (h : w.val.Holds x ch r d) : (Machine.preEmpt e ch w).val.gone x d.creator .preEmpted e.now := by
  obtain ⟨hd, hr, -⟩ := h.stands
  rw [preEmpt_some h.on]
  refine ⟨?_, fun k => ?_, ?_⟩
  · rw [← hd]
    exact (spares_stopChannel (fun _ => False) e ch _).ended x _ _ _ id (finishCall_ended e.now x .preEmpted w)
  · by_cases hk : k = ch
    · subst hk
      exact fun hn => nomatch (stopChannel_call e k _).symm.trans hn
    · rw [show ((finishCall e.now x .preEmpted w).map (stopChannel e ch)).val.chan k = w.val.chan k from
        (stopChannel_chan_of_ne e _ hk).trans (finishCall_chan _ _ _ w k)]
      exact fun hn => hk (h.only k hn)
  · intro hm
    have hm' := ((spares_stopChannel (fun _ => False) e ch _).ready x id).mp hm
    rw [finishCall_others] at hm'
    exact hr (List.mem_of_mem_erase hm')

/-! ## The search (R160) -/

/-- The live set of a channel meets a set: its general call is pre-empted. -/
def cutMet (e : CallEnv) (zones : ZoneSet) (ch : Channel) (w : Act Calls) : Act Calls :=
  if meets (w.val.chan ch).live zones then preEmpt e ch w else w

theorem cutMet_cleared (e : CallEnv) (zones : ZoneSet) (ch : Channel) (w : Act Calls) :
    Cleared e w (cutMet e zones ch w) := by
  unfold cutMet
  split
  · exact preEmpt_cleared e ch w
  · exact .refl

/-- With no channel IDLE, the call that gives one up is pre-empted (R160). -/
def makeRoom (e : CallEnv) (w : Act Calls) : Act Calls :=
  if w.val.chanA.state = .idle ∨ w.val.chanB.state = .idle then w
  else if (w.val.generalOn .b).isSome then preEmpt e .b w
  else if w.val.chanB.state = .faulted then preEmpt e .a w
  else w

theorem makeRoom_cleared (e : CallEnv) (w : Act Calls) : Cleared e w (makeRoom e w) := by
  unfold makeRoom
  split_ifs
  · exact .refl
  · exact preEmpt_cleared e .b w
  · exact preEmpt_cleared e .a w
  · exact .refl

/-- The calls with ALERT seen and the run of the staff alert begun (R140, R156, R160). -/
def Calls.seesAlert (e : CallEnv) (c : Calls) : Calls :=
  beginRun e .staffAlert { c with fireSeen := .alert, arbiterFire := .alert }

/-- The calls with those pre-empted that meet the staff zones. -/
def staffCut (e : CallEnv) (c : Calls) : Act Calls :=
  cutMet e c.staffZones .b (cutMet e c.staffZones .a ⟨c.seesAlert e, []⟩)

/-- The calls as a change to ALERT leaves them, ahead of the walk. -/
def staffFound (e : CallEnv) (c : Calls) : Act Calls := seekStaffAlert e (makeRoom e (staffCut e c))

theorem arbiterFireHandoff_alert (e : CallEnv) (c : Calls) :
    arbiterFireHandoff .alert e ⟨{ c with fireSeen := .alert }, []⟩ = walk e.now (staffFound e c) := rfl

theorem schedulerFireHandoff_alert (e : CallEnv) (w : Act Calls) :
    schedulerFireHandoff .alert e w = w.map fun c => { c with fireSeen := .alert } :=
  if_neg fun h => absurd h.2 (by decide)

/-- Up to the search nothing happens but pre-emptions. -/
theorem staffCut_cleared (e : CallEnv) (c : Calls) : Cleared e ⟨c.seesAlert e, []⟩ (makeRoom e (staffCut e c)) :=
  ((cutMet_cleared e _ .a _).trans (cutMet_cleared e _ .b _)).trans (makeRoom_cleared e _)

/-- A built-in call starts after a pre-emption at most. -/
theorem startBuiltIn_cleared (e : CallEnv) (b : BuiltIn) (ch : Channel) (w : Act Calls) :
    ∃ v, Cleared e w v ∧ startBuiltIn e b ch w = v.map (Calls.builtInStarted b ch (w.val.builtInZones b)) := by
  refine ⟨cutMet e (w.val.builtInZones b) (otherChannel ch) w, cutMet_cleared e _ _ w, rfl⟩

theorem seekStaffAlert_found {e : CallEnv} {w : Act Calls} : seekStaffAlert e w = w ∨
    ∃ v ch, Cleared e w v ∧ seekStaffAlert e w = v.map (Calls.builtInStarted .staffAlert ch w.val.staffZones) := by
  have started (ch : Channel) : ∃ v ch', Cleared e w v ∧
      startBuiltIn e .staffAlert ch w = v.map (Calls.builtInStarted .staffAlert ch' w.val.staffZones) := by
    obtain ⟨v, hv, hs⟩ := startBuiltIn_cleared e .staffAlert ch w
    exact ⟨v, ch, hv, hs⟩
  unfold seekStaffAlert
  split_ifs
  · exact .inr (started .a)
  · exact .inr (started .b)
  · exact .inl rfl
  · exact .inl rfl

theorem seesAlert_chan (e : CallEnv) (c : Calls) (k : Channel) : (c.seesAlert e).chan k = c.chan k := by
  cases k <;> rfl

/-- After the search the staff alert runs (R160). -/
theorem staffFound_runs (e : CallEnv) (c : Calls) : (staffFound e c).val.staffAlert ≠ .notRunning := by
  have hw : (makeRoom e (staffCut e c)).val.staffAlert = .waiting :=
    (staffCut_cleared e c).keeps (P := fun v => v.staffAlert = .waiting)
      (fun ch w hw => (sameScene_preEmpt e ch w).2.2.1.trans hw) rfl
  unfold staffFound
  rcases seekStaffAlert_found (e := e) (w := makeRoom e (staffCut e c)) with h | ⟨v, ch, -, h⟩ <;> rw [h]
  · rw [hw]; exact fun hn => nomatch hn
  · exact fun hn => nomatch (show RunPosition.onChannel ch = .notRunning from hn)

/-- With channel A IDLE and a staff zone configured, the search starts the staff alert on A (R151, R160). -/
theorem staffFound_starts {e : CallEnv} {c : Calls} (ha : c.chanA.state = .idle)
    (hz : ∃ z : Fin 12, c.paging[z].staff = true) :
    (staffFound e c).val.staffAlert = .onChannel .a ∧ ((staffFound e c).val.chan .a).state = .starting ∧
      ((staffFound e c).val.chan .a).call = some 1 ∧ ((staffFound e c).val.chan .a).live = c.staffZones := by
  have hcl := staffCut_cleared e c
  have hscene : (makeRoom e (staffCut e c)).val.staffAlert = .waiting :=
    hcl.keeps (P := fun v => v.staffAlert = .waiting) (fun ch w hw => (sameScene_preEmpt e ch w).2.2.1.trans hw) rfl
  have hidle : (makeRoom e (staffCut e c)).val.chan .a = c.chan .a :=
    hcl.keeps (P := fun v => v.chan .a = c.chan .a)
      (fun ch w hw => (preEmpt_chan_of_free e ch (by rw [hw]; exact carrying_of_state (.inl ha))).trans hw)
      (seesAlert_chan e c .a)
  have hzones : c.SameZones (makeRoom e (staffCut e c)).val :=
    hcl.keeps (P := c.SameZones) (fun ch w hw => hw.trans (sameZones_preEmpt e ch w)) (.of_paging rfl)
  have hstaff : (makeRoom e (staffCut e c)).val.staffZones = c.staffZones := zonesWhere_ext fun z => by rw [hzones z]
  have hne : c.staffZones ≠ 0 := by
    rw [ne_eq, zoneSet_eq_zero_iff]
    obtain ⟨z, hz⟩ := hz
    intro hn
    have := hn z
    rw [Calls.staffZones, Calls.zonesWhere_bit, hz] at this
    exact absurd this (by decide)
  unfold staffFound seekStaffAlert
  generalize makeRoom e (staffCut e c) = w at hscene hidle hstaff ⊢
  rw [if_pos ⟨hscene, by rw [hstaff]; exact hne⟩, if_pos (by rw [show w.val.chanA = c.chanA from hidle]; exact ha)]
  obtain ⟨v, -, hs⟩ := startBuiltIn_cleared e .staffAlert .a w
  rw [hs, show w.val.builtInZones .staffAlert = c.staffZones from hstaff]
  have hchan := builtInStarted_chan .staffAlert .a c.staffZones v.val .a
  rw [if_pos rfl] at hchan
  simp only [Act.map_val]
  rw [hchan]
  exact ⟨rfl, rfl, rfl, rfl⟩

/-- A general call whose live set meets the staff zones has ended by then, where the collections are lawful (R160). -/
theorem staffFound_preEmpts {e : CallEnv} {c : Calls} (h : c.lawful) {ch : Channel} {x : CallId} (hx : 2 ≤ x.val)
    (hc : (c.chan ch).call = some x) (hm : meets (c.chan ch).live c.staffZones = true) :
    (staffFound e c).val.ended x c.table[x].creator .preEmpted e.now ∧ x ∉ (staffFound e c).val.ready := by
  obtain ⟨hg, hplay, hch⟩ := h.onChannel hx hc
  have h1 : x ≠ builtInCall .staffAlert := fun he => by rw [he] at hx; exact absurd hx (by decide)
  have start : (c.seesAlert e).Holds x ch (c.chan ch) c.table[x] := by
    refine ⟨by unfold Calls.generalOn; rw [seesAlert_chan]; exact hg, seesAlert_chan e c ch, fun k hk => ?_, ?_⟩
    · rw [seesAlert_chan] at hk
      exact Option.some.inj ((h.onChannel hx hk).2.2.symm.trans hch)
    · refine ⟨Calls.setDesc_table_of_ne h1 _ _, fun hr => ?_, fun hf => ?_⟩
      · have := (h.mem_ready hx).mp hr; rw [hplay] at this; exact nomatch this
      · have := (h.mem_finished hx).mp hf; rw [hplay] at this; exact nomatch this
  have keeps {w v : Act Calls} (hv : Cleared e w v) :
      w.val.gone x c.table[x].creator .preEmpted e.now → v.val.gone x c.table[x].creator .preEmpted e.now :=
    hv.keeps fun ch w => preEmpt_gone ch w
  have ends {w : Act Calls} (hw : w.val.Holds x ch (c.chan ch) c.table[x]) :
      (cutMet e c.staffZones ch w).val.gone x c.table[x].creator .preEmpted e.now := by
    unfold cutMet
    rw [hw.record, if_pos hm]
    exact hw.preEmpted
  have cut : (staffCut e c).val.gone x c.table[x].creator .preEmpted e.now := by
    unfold staffCut
    cases ch with
    | a => exact keeps (cutMet_cleared e _ .b _) (ends (w := ⟨c.seesAlert e, []⟩) start)
    | b =>
      refine ends ?_
      unfold cutMet
      split
      · exact Calls.Holds.preEmpt (w := ⟨c.seesAlert e, []⟩) start (by decide)
      · exact start
  have room := keeps (makeRoom_cleared e _) cut
  unfold staffFound
  rcases seekStaffAlert_found (e := e) (w := makeRoom e (staffCut e c)) with he | ⟨v, k, hv, he⟩ <;> rw [he]
  · exact ⟨room.1, room.2.2⟩
  · have hgone := keeps hv room
    have sp := spares_builtInStarted .staffAlert k (makeRoom e (staffCut e c)).val.staffZones v.val
    exact ⟨sp.ended x _ _ _ h1 hgone.1, mt (sp.ready x h1).mp hgone.2.2⟩

/-! ## The walk leaves a busy channel and the runs (R157) -/

theorem setChan_runs (ch : Channel) (r : ChannelRecord) (c : Calls) : (c.setChan ch r).run = c.run := by
  funext b; cases ch <;> cases b <;> rfl

/-- A walk begins and ends no run. -/
theorem walk_run (now : Nat) (w : Act Calls) (b : BuiltIn) : (walk now w).val.run b = w.val.run b := by
  have one (a : Act Calls × ZoneSet) (i : CallId) : (walkOne now a i).1.val.run b = a.1.val.run b := by
    unfold walkOne
    dsimp only
    split
    · show (finishCall _ _ _ _).val.run b = _
      rw [finishCall_others]; cases b <;> rfl
    · split
      · split
        · exact congrFun (setChan_runs _ _ _) b
        · rfl
      · rfl
  have fold (is : List CallId) (a : Act Calls × ZoneSet) : (is.foldl (walkOne now) a).1.val.run b = a.1.val.run b := by
    induction is generalizing a with
    | nil => rfl
    | cons i is ih => exact (ih _).trans (one a i)
  unfold walk
  split
  · rfl
  · exact fold w.val.ready (w, 0)

/-- The channel that a walk uses is IDLE. -/
theorem usableChannel_idle {c : Calls} {ch : Channel} (h : c.usableChannel = some ch) : (c.chan ch).state = .idle := by
  have idle {r : ChannelRecord} (hr : r.usable = true) : r.state = .idle :=
    eq_of_beq (Bool.and_eq_true_iff.mp hr).1
  unfold Calls.usableChannel at h
  split_ifs at h with h1 h2 h3 <;> cases h
  · exact idle h2
  · exact idle h3

/-- A walk leaves a channel that is not IDLE as it is. -/
theorem walk_chan {now : Nat} {w : Act Calls} {k : Channel} (h : (w.val.chan k).state ≠ .idle) :
    (walk now w).val.chan k = w.val.chan k := by
  have one (a : Act Calls × ZoneSet) (i : CallId) (ha : (a.1.val.chan k).state ≠ .idle) :
      (walkOne now a i).1.val.chan k = a.1.val.chan k := by
    unfold walkOne
    dsimp only
    split
    · exact finishCall_chan now i _ (a.1.map (Calls.setDesc i _)) k
    · split
      · next ch hch =>
        split
        · exact (startPlay_chan ch i _ _ k).trans (if_neg fun (hk : k = ch) => ha (hk ▸ usableChannel_idle hch))
        · rfl
      · rfl
  have fold (is : List CallId) (a : Act Calls × ZoneSet) (ha : (a.1.val.chan k).state ≠ .idle) :
      (is.foldl (walkOne now) a).1.val.chan k = a.1.val.chan k := by
    induction is generalizing a with
    | nil => rfl
    | cons i is ih =>
      have h1 := one a i ha
      exact (ih _ (by rw [h1]; exact ha)).trans h1
  unfold walk
  split
  · rfl
  · exact fold w.val.ready (w, 0) h

end Sys2Proof.Machine
end

section
/-! One alarm on the ladder, with no zone DELAYED (R47, R49, R57), and the staff alert that ALERT begins (R160). -/
namespace Sys2Proof.Machine

/-! ## The batch of one zone -/

/-- The state in which one zone has entered ALARM and the ladder has not been climbed. -/
structure State.AlarmRaised (z : ZoneId) (s r : State) : Prop where
  fire : r.fire = { s.fire with zones := r.fire.zones, alarmList := s.fire.alarmList ++ [z] }
  config : r.fire.zones[z].config = s.fire.zones[z].config
  house : r.house = s.house
  lights : r.lights = s.lights
  calls : r.calls = s.calls
  clock : r.clock = s.clock
  params : r.params = s.params

/-- An ACTIVE report of a panel zone while no zone is DELAYED is a batch of that zone alone (R29, R33). -/
theorem zoneArrival_alone {z : ZoneId} {s : State} (hz : 8 ≤ z.val)
    (hs : s.fire.zones[z].state = .normal ∨ s.fire.zones[z].state = .fault) (hn : NoneDelayed s) :
    State.AlarmRaised z s (s.onZones (zoneArrival z .active)).1 ∧
      zoneEvent (zoneArrival z .active) s = climbLadder [z] (s.onZones (zoneArrival z .active)).1 := by
  obtain ⟨hf, hc⟩ := zoneEvent_batch (zoneArrival_batch hs (delayConditions_panel hz _ _))
  generalize hq : s.fire.setZone z { s.fire.zones[z] with input := .active } = f at hf hc
  have hnil : f.delayedWith .active = [] := delayedWith_eq_nil (fun y => by
    rw [← hq, Fire.setZone_zones]
    split
    · rcases hs with hs | hs <;> rw [show ({ s.fire.zones[z] with input := .active } : Zone).state = _ from hs] <;> decide
    · exact hn y) .active
  refine ⟨⟨?_, ?_, rfl, rfl, rfl, rfl, rfl⟩, by rw [hc, hnil]; rfl⟩
  · rw [hf, promoteZones_others, delayedWith_enterAlarm, hnil]
    simp only [enterAlarm_alarmList, List.filter_nil, List.append_nil]
    rw [← hq]
    rfl
  · rw [hf, promoteZones_config, enterAlarm_zones, if_pos rfl, ← hq, Fire.setZone_zones, if_pos rfl]
    rfl

theorem State.AlarmRaised.condition {z : ZoneId} {s r : State} (h : s.AlarmRaised z r) :
    r.fire.condition = s.fire.condition := by rw [h.fire]

theorem State.AlarmRaised.alarmList {z : ZoneId} {s r : State} (h : s.AlarmRaised z r) :
    r.fire.alarmList = s.fire.alarmList ++ [z] := by rw [h.fire]

theorem State.AlarmRaised.hasClass {z : ZoneId} {s r : State} (h : s.AlarmRaised z r) (c : ZoneClass) :
    r.fire.hasClass [z] c = (s.fire.zones[z].cls == c) := by
  have hk : r.fire.zones[z].cls = s.fire.zones[z].cls := congrArg Prod.fst h.config
  simp [-Fin.getElem_fin, Fire.hasClass, hk]

/-! ## The rows of the ladder (R47) -/

/-- A climb to EVACUATE evacuates the house from the state before the batch. -/
theorem climbLadder_evacuates {z : ZoneId} {cause : FireCause} {g : ZoneEvent} {s : State}
    (h : s.AlarmRaised z (s.onZones g).1) (hc : (s.onZones g).1.fire.climb [z] = some (.evacuate, cause)) :
    Evacuated cause s (climbLadder [z] (s.onZones g).1) := by
  unfold climbLadder
  rw [hc]
  exact (changeCondition_evacuated cause _).before_zones h.condition

theorem State.AlarmRaised.climb_class {z : ZoneId} {s r : State} (h : s.AlarmRaised z r)
    (he : s.fire.condition ≠ .evacuate) :
    (s.fire.zones[z].cls = .callPoint → r.fire.climb [z] = some (.evacuate, .callPoint)) ∧
      (s.fire.zones[z].cls = .suppression → r.fire.climb [z] = some (.evacuate, .suppression)) := by
  unfold Fire.climb
  rw [h.condition, if_neg he, h.hasClass, h.hasClass]
  exact ⟨fun hk => by rw [hk]; rfl, fun hk => by rw [hk]; rfl⟩

theorem State.AlarmRaised.climb_detector {z : ZoneId} {s r : State} (h : s.AlarmRaised z r)
    (hk : s.fire.zones[z].cls = .detector) :
    (s.fire.condition = .alert → r.fire.climb [z] = some (.evacuate, .furtherAlarm)) ∧
      (s.fire.condition = .quiet → s.fire.alarmList ≠ [] → r.fire.climb [z] = some (.evacuate, .coincidentAlarms)) ∧
      (s.fire.condition = .quiet → s.fire.alarmList = [] → r.fire.climb [z] = some (.alert, .detectorAlarm)) := by
  unfold Fire.climb
  rw [h.condition, h.hasClass, h.hasClass, h.alarmList, hk]
  refine ⟨fun hc => by rw [hc]; rfl, fun hc hl => ?_, fun hc hl => by rw [hc, hl]; rfl⟩
  have two : 2 ≤ (s.fire.alarmList ++ [z]).length := by
    have := List.length_pos_iff.mpr hl
    rw [List.length_append, List.length_singleton]
    omega
  rw [hc, if_pos two]
  rfl

/-- In EVACUATE the ladder leaves the condition record (R47). -/
theorem State.AlarmRaised.stays {z : ZoneId} {s r : State} (h : s.AlarmRaised z r) (he : s.fire.condition = .evacuate) :
    (climbLadder [z] r).fire.condition = .evacuate ∧ (climbLadder [z] r).fire.cause = s.fire.cause ∧
      (climbLadder [z] r).fire.enteredAt = s.fire.enteredAt := by
  have hc : r.fire.climb [z] = none := if_pos (h.condition.trans he)
  unfold climbLadder
  rw [hc]
  dsimp only
  rw [evaluateDemand_fire, h.fire]
  exact ⟨he, rfl, rfl⟩

/-! ## The change to ALERT (R57) -/

theorem changeCondition_alert_fire (cause : FireCause) (s : State) :
    (changeCondition .alert cause s).fire = s.fire.withCondition s.clock s.params.investigation .alert cause := by
  rw [changeCondition_fire, conditionRecorded_fire, if_neg (by simp)]

theorem changeCondition_alert_house (cause : FireCause) (s : State) :
    (changeCondition .alert cause s).house = s.house := by
  rw [changeCondition_house, if_neg (by decide)]

/-- The calls and the lights have seen ALERT. -/
theorem changeCondition_alert_seen (cause : FireCause) (s : State) :
    (changeCondition .alert cause s).lights.fireSeen = .alert ∧
      (changeCondition .alert cause s).calls.fireSeen = .alert ∧
      (changeCondition .alert cause s).calls.arbiterFire = .alert := by
  rw [changeCondition_eq]
  dsimp only
  rw [if_neg (by decide)]
  generalize (conditionRecorded .alert cause s).post _ = u
  obtain ⟨hc, hl⟩ := handCondition_seen .alert (s.fire.demandFor .alert) u
  simp only [Calls.seen, Lights.seen, Prod.mk.injEq] at hc hl
  exact ⟨hl.2.2.1, hc.2⟩

/-- The calls as a change to ALERT leaves them: the search of the staff alert, then a walk (R140, R156, R160). -/
theorem changeCondition_alert_calls (cause : FireCause) (s : State) : ∃ e : CallEnv, e.now = s.clock ∧
    (changeCondition .alert cause s).calls = (walk e.now (staffFound e s.calls)).val := by
  have hq : ∃ v : State, v.clock = s.clock ∧ v.calls = s.calls ∧ changeCondition .alert cause s =
      (v.onCalls (schedulerFireHandoff .alert)).onCalls (arbiterFireHandoff .alert) := by
    refine ⟨_, ?_, ?_, (changeCondition_eq .alert cause s).trans (if_neg (by decide))⟩
    · exact ((((quietly_conditionRecorded .alert cause s).trans (quietly_post _ _)).trans (quietly_onCurtain _ _)).trans
        (quietly_onLights _ _)).1.1.1
    · rw [State.onLights_calls, State.onCurtain_calls, State.post_calls, conditionRecorded_others]
  obtain ⟨v, hclock, hcalls, hv⟩ := hq
  refine ⟨(v.onCalls (schedulerFireHandoff .alert)).callEnv, hclock, ?_⟩
  rw [hv, State.onCalls_calls, State.onCalls_calls, schedulerFireHandoff_alert, hcalls, ← arbiterFireHandoff_alert]
  rfl

/-- On ALERT the staff alert runs, and starts on channel A where that is IDLE and a staff zone is configured (R160). -/
theorem changeCondition_alert_staff (cause : FireCause) (s : State) :
    (changeCondition .alert cause s).calls.staffAlert ≠ .notRunning ∧
      (s.calls.chanA.state = .idle → (∃ y : Fin 12, s.calls.paging[y].staff = true) →
        (changeCondition .alert cause s).calls.staffAlert = .onChannel .a ∧
          (changeCondition .alert cause s).calls.chanA.state = .starting ∧
          (changeCondition .alert cause s).calls.chanA.call = some 1 ∧
          (changeCondition .alert cause s).calls.chanA.live = s.calls.staffZones) := by
  obtain ⟨e, -, hcalls⟩ := changeCondition_alert_calls cause s
  rw [hcalls]
  have hrun : (walk e.now (staffFound e s.calls)).val.staffAlert = (staffFound e s.calls).val.staffAlert :=
    walk_run e.now (staffFound e s.calls) .staffAlert
  refine ⟨by rw [hrun]; exact staffFound_runs e s.calls, fun ha hz => ?_⟩
  obtain ⟨h1, h2, h3, h4⟩ := staffFound_starts (e := e) ha hz
  have hchan : (walk e.now (staffFound e s.calls)).val.chanA = (staffFound e s.calls).val.chan .a :=
    walk_chan (k := .a) (by rw [h2]; decide)
  rw [hrun, hchan]
  exact ⟨h1, h2, h3, h4⟩

/-- On ALERT a general call whose live set meets the staff zones finishes PRE_EMPTED, where the collections are lawful
(R160). -/
theorem changeCondition_alert_preEmpts {cause : FireCause} {s : State} (h : s.calls.lawful) {ch : Channel} {x : CallId}
    (hx : 2 ≤ x.val) (hc : (s.calls.chan ch).call = some x)
    (hm : (s.calls.chan ch).live &&& s.calls.staffZones ≠ 0) :
    (changeCondition .alert cause s).calls.finishedAs x s.calls.table[x].creator .preEmpted s.clock := by
  obtain ⟨e, hnow, hcalls⟩ := changeCondition_alert_calls cause s
  obtain ⟨he, hr⟩ := staffFound_preEmpts (e := e) h hx hc (by simpa [meets] using hm)
  rw [hcalls, ← hnow]
  exact ((spares_walk e.now (staffFound e s.calls)).ended x _ _ _ hr he).finishedAs

/-- Settles O21: the batch is the zone alone, each row of the ladder is a change of condition of its own or leaves the
record, and the staff alert is the hand-off of ALERT to the calls. -/
theorem ladderOfOneAlarm : Obligations.LadderOfOneAlarm := by
  intro s z b hz hb ht hs hn
  obtain ⟨t, hx, hu⟩ := zoneReport_one hz hb (.inr (.inl ⟨rfl, rfl⟩)) ht
  obtain ⟨ha, hclimb⟩ := zoneArrival_alone hz hs hn
  have evacuates {cause : FireCause}
      (hc : (s.onZones (zoneArrival z .active)).1.fire.climb [z] = some (.evacuate, cause)) : Evacuated cause s t :=
    Evacuated.relink (hclimb ▸ climbLadder_evacuates ha hc) hu
  refine ⟨t, hx, fun hq hl hk => ?_, fun hq hl hk => evacuates ((ha.climb_detector hk).2.1 hq hl),
    fun hq hk => evacuates ((ha.climb_detector hk).1 hq), fun he hk => evacuates ((ha.climb_class he).1 hk),
    fun he hk => evacuates ((ha.climb_class he).2 hk), fun he => ?_⟩
  · have hbase : KeepsBase s t := by rw [hu]; exact (quietly_zoneEvent _ s).1
    generalize (s.onZones (zoneArrival z .active)).1 = r at ha hclimb
    have hr : climbLadder [z] r = changeCondition .alert .detectorAlarm r := by
      unfold climbLadder; rw [(ha.climb_detector hk).2.2 hq hl]
    rw [hclimb, hr] at hu
    have hfire : t.fire = (changeCondition .alert .detectorAlarm r).fire := by rw [hu]
    rw [changeCondition_alert_fire, ha.clock, ha.params] at hfire
    have hlist : r.fire.alarmList = [z] := by rw [ha.alarmList, hl]; rfl
    have hrelease : r.fire.zones[z].curtainRelease = s.fire.zones[z].curtainRelease := congrArg (·.2.2.1) ha.config
    have hhouse : t.house = (changeCondition .alert .detectorAlarm r).house := by rw [hu]
    rw [changeCondition_alert_house, ha.house] at hhouse
    have hcalls : t.calls = (changeCondition .alert .detectorAlarm r).calls := by rw [hu]
    have hlights : t.lights = (changeCondition .alert .detectorAlarm r).lights := by rw [hu]
    obtain ⟨k1, k2, k3⟩ := changeCondition_alert_seen .detectorAlarm r
    obtain ⟨c1, c2⟩ := changeCondition_alert_staff .detectorAlarm r
    rw [ha.calls] at c2
    rw [hfire, hcalls, hlights]
    refine ⟨rfl, congrArg some (ha.condition.trans hq), rfl, rfl, rfl, ?_, hlist, hhouse, k1, k2, k3, hbase, c1, c2,
      fun hlaw ch x hx' hc hm => ?_⟩
    · show (r.fire.alarmList.any fun y => r.fire.zones[y].curtainRelease) = _
      rw [hlist, List.any_cons, List.any_nil, Bool.or_false, hrelease]
    · rw [← ha.calls] at hlaw hc hm ⊢
      rw [← ha.clock]
      exact changeCondition_alert_preEmpts hlaw hx' hc hm
  · have hstay := ha.stays he
    rw [← hclimb] at hstay
    rw [hu]
    exact hstay

end Sys2Proof.Machine
end

section
/-! SUPPORT. The calls on the return to QUIET (R140, R156, R161, R163): the due calls of the timetable caught up, the
built-in calls cancelled, and a walk. -/
namespace Sys2Proof.Machine

/-! ## The catch-up (R140) -/

/-- One due call caught up: it leaves the timetable and is armed with its own due time. -/
def catchOne (now : Nat) (w : Act Calls) (i : CallId) : Act Calls :=
  armCall now (w.val.table[i].due.getD 0) (w.val.table[i].basis.getD .anchor) i (w.map (Calls.leave i))

/-- A call armed late enters no timetable (R135). -/
theorem armCall_late_timetable {now due : Nat} {basis : DueBasis} {i : CallId} {w : Act Calls} (h : due ≤ now)
    (hf : w.val.fireSeen ≠ .evacuate) (ht : i ∉ w.val.timetable) : i ∉ (armCall now due basis i w).val.timetable := by
  rw [armCall_late h hf]
  split
  · rw [finishCall_others]
    exact mt List.mem_of_mem_erase ht
  · exact ht

/-- A due call as the catch-up leaves it: armed with its own due time, and out of the timetable. -/
def Calls.caught (now : Nat) (d : Descriptor) (x : CallId) (c : Calls) : Prop :=
  c.armed now (d.due.getD 0) (d.basis.getD .anchor) d x ∧ x ∉ c.timetable

/-- What catching up some due calls one after another does to all of them. -/
theorem foldl_catchOne (now : Nat) (is : List CallId) (w : Act Calls)
    (hd : ∀ i ∈ is, w.val.table[i].due.getD 0 ≤ now) (he : w.val.fireSeen ≠ .evacuate) (hi : is.Nodup)
    (hf : ∀ i ∈ is, .general i ∉ w.val.finished)
    (hn : w.val.waiting.Nodup ∧ w.val.timetable.Nodup ∧ w.val.ready.Nodup) :
    let u := is.foldl (catchOne now) w
    w.val.Spares (· ∈ is) u.val ∧ w.val.SameStage u.val ∧ ∀ x ∈ is, u.val.caught now w.val.table[x] x := by
  induction is generalizing w with
  | nil => exact ⟨.refl _ _, .refl _, fun x hx => nomatch hx⟩
  | cons i is ih =>
    obtain ⟨hii, hi'⟩ := List.nodup_cons.mp hi
    obtain ⟨ln, lw, lt, lr⟩ := leave_nodup i hn
    obtain ⟨a1, a2⟩ : _ ∧ w.val.SameStage (catchOne now w i).val :=
      spares_armCall now (w.val.table[i].due.getD 0) (w.val.table[i].basis.getD .anchor) i (w.map (Calls.leave i))
    have a3 : (catchOne now w i).val.caught now w.val.table[i] i :=
      ⟨armCall_arms lw lt lr (hf i List.mem_cons_self), armCall_late_timetable (hd i List.mem_cons_self) he lt⟩
    have a4 := armCall_nodup (now := now) (due := w.val.table[i].due.getD 0)
      (basis := w.val.table[i].basis.getD .anchor) (w := w.map (Calls.leave i)) lt lr ln
    have s1 : w.val.Spares (· = i) (catchOne now w i).val := (spares_leave i w.val).trans a1
    have same (x : CallId) (hx : x ∈ is) : (catchOne now w i).val.table[x] = w.val.table[x] :=
      s1.table_eq (fun h => hii (h ▸ hx)) (hf x (.tail _ hx))
    obtain ⟨k1, k2, k3⟩ := ih (catchOne now w i) (fun x hx => by rw [same x hx]; exact hd x (.tail _ hx))
      (by rw [a2.1]; exact he) hi' (fun x hx h => hf x (.tail _ hx) (s1.finished x (fun h => hii (h ▸ hx)) h)) a4
    refine ⟨(s1.mono fun x hx => hx ▸ List.mem_cons_self).trans (k1.mono fun x hx => .tail _ hx), a2.trans k2, ?_⟩
    intro x hx
    rcases List.mem_cons.mp hx with rfl | hx
    · exact ⟨a3.1.spared k1 k2.1 hii, mt (k1.timetable x hii).mp a3.2⟩
    · rw [← same x hx]
      exact k3 x hx

/-- The head of the timetable that has fallen due, as R139 says it. -/
theorem dueNow_eq (now : Nat) (c : Calls) :
    c.dueNow now = c.timetable.takeWhile fun i => (c.table[i].due).any (· ≤ now) := by
  unfold Calls.dueNow
  congr 1
  funext i
  unfold timeReached
  cases c.table[i].due <;> rfl

theorem mem_dueNow {now : Nat} {c : Calls} {x : CallId} (h : x ∈ c.dueNow now) :
    x ∈ c.timetable ∧ c.table[x].due.getD 0 ≤ now := by
  rw [dueNow_eq] at h
  refine ⟨(List.takeWhile_sublist _).subset h, ?_⟩
  have hd := List.mem_takeWhile_imp h
  cases hx : c.table[x].due with
  | none => rw [hx] at hd; exact nomatch hd
  | some due => rw [hx] at hd; simpa using hd

/-! ## QUIET seen by both units -/

/-- The calls with QUIET seen by the Call Scheduler: RESTORE catches up (R140). -/
def Calls.caughtUp (now : Nat) (c : Calls) : Calls :=
  if c.fireSeen = .evacuate then (catchUp now ⟨{ c with fireSeen := .quiet }, []⟩).val else { c with fireSeen := .quiet }

theorem schedulerFireHandoff_quiet (e : CallEnv) (c : Calls) :
    (schedulerFireHandoff .quiet e ⟨c, []⟩).val = c.caughtUp e.now := by
  unfold schedulerFireHandoff Calls.caughtUp
  by_cases h : c.fireSeen = .evacuate
  · rw [if_pos h]
    exact congrArg Act.val (if_pos ⟨h, rfl⟩)
  · rw [if_neg h]
    exact congrArg Act.val (if_neg fun hc => h hc.1)

/-- The calls with QUIET seen by both units, ahead of the ends of the built-in calls. -/
def Calls.seesQuiet (now : Nat) (c : Calls) : Calls := { c.caughtUp now with arbiterFire := .quiet }

/-- The timetable as a catch-up finds it, where the collections are lawful. -/
theorem caughtUp_evacuate {now : Nat} {c : Calls} (h : c.lawful) (he : c.fireSeen = .evacuate) :
    c.Spares (· ∈ c.dueNow now) (c.caughtUp now) ∧ ({ c with fireSeen := .quiet } : Calls).SameStage (c.caughtUp now) ∧
      ∀ x ∈ c.dueNow now, (c.caughtUp now).caught now c.table[x] x := by
  have hi : (c.dueNow now).Nodup := h.nodup.2.1.sublist (List.takeWhile_sublist _)
  have hf (x : CallId) (hx : x ∈ c.dueNow now) : .general x ∉ c.finished := by
    have ht := (mem_dueNow hx).1
    have hg : 2 ≤ x.val := by
      by_contra hlt
      exact (h.builtIn_nowhere (by omega)).2.1 ht
    intro hm
    have := (h.mem_timetable hg).mp ht
    rw [(h.mem_finished hg).mp hm] at this
    exact nomatch this
  have hu : c.caughtUp now = ((c.dueNow now).foldl (catchOne now) ⟨{ c with fireSeen := .quiet }, []⟩).val := if_pos he
  rw [hu]
  obtain ⟨k1, k2, k3⟩ := foldl_catchOne now (c.dueNow now) ⟨{ c with fireSeen := .quiet }, []⟩
    (fun x hx => (mem_dueNow hx).2) (fun hq => nomatch hq) hi hf h.nodup
  have k0 : c.Spares (· ∈ c.dueNow now) { c with fireSeen := .quiet } := .of_same rfl rfl rfl rfl rfl rfl rfl
  exact ⟨k0.trans k1, k2, k3⟩

/-- With QUIET seen, the built-in calls, the channels and the paging zones stand as before, and so does every call that
was not due. -/
theorem seesQuiet_keeps {now : Nat} {c : Calls} (h : c.lawful) :
    c.Spares (· ∈ c.dueNow now) (c.seesQuiet now) ∧ (c.seesQuiet now).paging = c.paging ∧
      (∀ k, (c.seesQuiet now).chan k = c.chan k) ∧ ∀ b, (c.seesQuiet now).run b = c.run b := by
  have stage : c.Spares (· ∈ c.dueNow now) (c.caughtUp now) ∧
      ({ c with fireSeen := .quiet } : Calls).SameStage (c.caughtUp now) := by
    by_cases he : c.fireSeen = .evacuate
    · obtain ⟨h1, h2, -⟩ := caughtUp_evacuate (now := now) h he
      exact ⟨h1, h2⟩
    · rw [show c.caughtUp now = { c with fireSeen := .quiet } from if_neg he]
      exact ⟨.of_same rfl rfl rfl rfl rfl rfl rfl, .refl _⟩
  obtain ⟨h1, -, -, hp, ha, hb, hev, hst⟩ := stage
  refine ⟨h1.trans (.of_same rfl rfl rfl rfl rfl rfl rfl), hp, fun k => ?_, fun b => ?_⟩
  · cases k
    · exact ha
    · exact hb
  · cases b
    · exact hev
    · exact hst

/-! ## The built-in calls end (R161, R163) -/

theorem endBuiltIn_cases (e : CallEnv) (b : BuiltIn) (o : CallOutcome) (w : Act Calls) :
    w.val.run b = .notRunning ∧ endBuiltIn e b o w = w ∨ w.val.run b ≠ .notRunning ∧
      endBuiltIn e b o w = (finishBuiltIn e.now b o w).map (vacate e (w.val.run b)) := by
  by_cases h : w.val.run b = .notRunning
  · exact .inl ⟨h, by unfold endBuiltIn; rw [h]⟩
  · exact .inr ⟨h, endBuiltIn_eq h⟩

/-- A built-in call that ends runs no more, and the other keeps its run. -/
theorem endBuiltIn_run (e : CallEnv) (b b' : BuiltIn) (o : CallOutcome) (w : Act Calls) :
    (endBuiltIn e b o w).val.run b' = if b' = b then .notRunning else w.val.run b' := by
  rcases endBuiltIn_cases e b o w with ⟨hr, h⟩ | ⟨-, h⟩ <;> rw [h]
  · split
    · next hb => rw [hb, hr]
    · rfl
  · rw [Act.map_val, vacate_others, finishBuiltIn_others]
    cases b <;> cases b' <;> rfl

/-- The collections of live calls stand through the end of a built-in call. -/
theorem endBuiltIn_lists (e : CallEnv) (b : BuiltIn) (o : CallOutcome) (w : Act Calls) :
    (endBuiltIn e b o w).val.timetable = w.val.timetable ∧ (endBuiltIn e b o w).val.ready = w.val.ready := by
  rcases endBuiltIn_cases e b o w with ⟨-, h⟩ | ⟨-, h⟩ <;> rw [h]
  · exact ⟨rfl, rfl⟩
  · rw [Act.map_val, vacate_others, finishBuiltIn_others]
    cases b <;> exact ⟨rfl, rfl⟩

theorem sameZones_endBuiltIn (e : CallEnv) (b : BuiltIn) (o : CallOutcome) (w : Act Calls) :
    w.val.SameZones (endBuiltIn e b o w).val := by
  have vacated (r : RunPosition) (c : Calls) : c.SameZones (vacate e r c) := by
    cases r with
    | notRunning => exact .refl c
    | waiting => exact .refl c
    | onChannel ch => exact sameZones_stopChannel e ch c
    | inGap ch n => exact sameZones_setChan ch _ c
  rcases endBuiltIn_cases e b o w with ⟨-, h⟩ | ⟨-, h⟩ <;> rw [h]
  · exact .refl _
  · exact .trans (.of_paging (by rw [finishBuiltIn_others]; cases b <;> rfl)) (vacated _ _)

/-- Both built-in calls cancelled, the staff alert first. -/
def cancelBuiltIns (e : CallEnv) (w : Act Calls) : Act Calls :=
  endBuiltIn e .evacuation .cancelled (endBuiltIn e .staffAlert .cancelled w)

/-- The calls as a return to QUIET leaves them. -/
def quietFound (e : CallEnv) (c : Calls) : Act Calls := walk e.now (cancelBuiltIns e ⟨c.seesQuiet e.now, []⟩)

theorem arbiterFireHandoff_quiet (e : CallEnv) (c : Calls) :
    arbiterFireHandoff .quiet e ⟨c.caughtUp e.now, []⟩ = quietFound e c := rfl

theorem cancelBuiltIns_run (e : CallEnv) (b : BuiltIn) (w : Act Calls) :
    (cancelBuiltIns e w).val.run b = .notRunning := by
  unfold cancelBuiltIns
  rw [endBuiltIn_run, endBuiltIn_run]
  cases b <;> rfl

theorem cancelBuiltIns_lists (e : CallEnv) (w : Act Calls) :
    (cancelBuiltIns e w).val.timetable = w.val.timetable ∧ (cancelBuiltIns e w).val.ready = w.val.ready := by
  obtain ⟨h1, h2⟩ := endBuiltIn_lists e .evacuation .cancelled (endBuiltIn e .staffAlert .cancelled w)
  obtain ⟨k1, k2⟩ := endBuiltIn_lists e .staffAlert .cancelled w
  exact ⟨h1.trans k1, h2.trans k2⟩

theorem spares_cancelBuiltIns (e : CallEnv) (w : Act Calls) :
    w.val.Spares (·.val < 2) (cancelBuiltIns e w).val :=
  ((spares_endBuiltIn e .staffAlert .cancelled w).mono fun x hx => by rw [hx]; decide).trans
    ((spares_endBuiltIn e .evacuation .cancelled _).mono fun x hx => by rw [hx]; decide)

/-- No built-in call runs after the return to QUIET. -/
theorem quietFound_run (e : CallEnv) (c : Calls) (b : BuiltIn) : (quietFound e c).val.run b = .notRunning :=
  (walk_run _ _ b).trans (cancelBuiltIns_run e b _)

/-- A built-in call that has finished CANCELLED and waits in no list as a general one. -/
def Calls.runCancelled (b : BuiltIn) (c : Calls) : Prop :=
  (c.table[builtInCall b].life = .finished ∧ c.table[builtInCall b].outcome = some .cancelled) ∧
    .general (builtInCall b) ∉ c.finished

theorem endBuiltIn_runCancelled {e : CallEnv} {b : BuiltIn} {w : Act Calls} (h : w.val.run b ≠ .notRunning)
    (hf : .general (builtInCall b) ∉ w.val.finished) : (endBuiltIn e b .cancelled w).val.runCancelled b :=
  ⟨endBuiltIn_table h hf, mt (endBuiltIn_finished e b .cancelled w _) hf⟩

theorem Calls.runCancelled.spared {b : BuiltIn} {c c' : Calls} (h : c.runCancelled b) {J : CallId → Prop}
    (k : c.Spares J c') (hb : ¬ J (builtInCall b)) : c'.runCancelled b := by
  obtain ⟨h1, h2⟩ := h
  unfold Calls.runCancelled
  rw [k.table_eq hb h2]
  exact ⟨h1, mt (k.finished _ hb) h2⟩

/-- A running built-in call has finished CANCELLED, where the collections are lawful (R161, R163). -/
theorem quietFound_cancels {e : CallEnv} {c : Calls} (h : c.lawful) {b : BuiltIn} (hr : c.run b ≠ .notRunning) :
    (quietFound e c).val.table[builtInCall b].life = .finished ∧
      (quietFound e c).val.table[builtInCall b].outcome = some .cancelled := by
  obtain ⟨hs, -, -, hrun⟩ := seesQuiet_keeps (now := e.now) h
  obtain ⟨-, ht, hq, hfin⟩ := h.builtIn_nowhere (x := builtInCall b) (by cases b <;> decide)
  have hdue : builtInCall b ∉ c.dueNow e.now := fun hd => ht (mem_dueNow hd).1
  have hf : .general (builtInCall b) ∉ (c.seesQuiet e.now).finished := mt (hs.finished _ hdue) hfin
  have hready : builtInCall b ∉ (cancelBuiltIns e ⟨c.seesQuiet e.now, []⟩).val.ready := by
    rw [(cancelBuiltIns_lists e _).2]
    exact mt (hs.ready _ hdue).mp hq
  have cancelled : (cancelBuiltIns e ⟨c.seesQuiet e.now, []⟩).val.runCancelled b := by
    have hr' : (c.seesQuiet e.now).run b ≠ .notRunning := by rw [hrun]; exact hr
    unfold cancelBuiltIns
    cases b with
    | staffAlert =>
      exact (endBuiltIn_runCancelled (w := ⟨c.seesQuiet e.now, []⟩) hr' hf).spared (spares_endBuiltIn e .evacuation _ _)
        (by decide)
    | evacuation =>
      refine endBuiltIn_runCancelled ?_ (mt (endBuiltIn_finished e .staffAlert .cancelled _ _) hf)
      rw [endBuiltIn_run, if_neg (by decide)]
      exact hr'
  exact (cancelled.spared (spares_walk e.now _) hready).1

/-! ## The due calls after it (R140) -/

/-- A channel that carries nothing keeps its state through the ends of the built-in calls. -/
theorem cancelBuiltIns_chan {e : CallEnv} {c : Calls} (h : c.lawful) {k : Channel} (hk : (c.chan k).carrying = false) :
    ((cancelBuiltIns e ⟨c.seesQuiet e.now, []⟩).val.chan k).state = (c.chan k).state := by
  obtain ⟨-, -, hchan, hrun⟩ := seesQuiet_keeps (now := e.now) h
  obtain ⟨hcall, -, hev, hst⟩ := h.channel k
  rw [hk, Option.isSome_eq_false_iff, Option.isNone_iff_eq_none] at hcall
  have hs : (c.seesQuiet e.now).run .staffAlert ≠ .onChannel k := by
    rw [hrun]
    exact fun hn => nomatch hcall.symm.trans (hst.mp hn)
  have he : (endBuiltIn e .staffAlert .cancelled ⟨c.seesQuiet e.now, []⟩).val.run .evacuation ≠ .onChannel k := by
    rw [endBuiltIn_run, if_neg (by decide)]
    show (c.seesQuiet e.now).run .evacuation ≠ .onChannel k
    rw [hrun]
    exact fun hn => nomatch hcall.symm.trans (hev.mp hn)
  obtain ⟨v, hv⟩ := endBuiltIn_chan (e := e) (o := .cancelled) (w := ⟨c.seesQuiet e.now, []⟩) hs
  obtain ⟨v', hv'⟩ := endBuiltIn_chan (e := e) (o := .cancelled) he
  unfold cancelBuiltIns
  rw [hv', hv, ← hchan]

/-- What RESTORE makes of a call that is due, where the collections are lawful. -/
theorem quietFound_due {e : CallEnv} {c : Calls} (h : c.lawful) (he : c.fireSeen = .evacuate) {x : CallId}
    (hx : x ∈ c.dueNow e.now) :
    x ∉ (quietFound e c).val.timetable ∧
      (0 < c.table[x].lifetime → c.table[x].due.getD 0 + c.table[x].lifetime < e.now →
        (quietFound e c).val.ended x c.table[x].creator .expired e.now) ∧
      (c.table[x].lifetime = 0 ∨ e.now ≤ c.table[x].due.getD 0 + c.table[x].lifetime →
        c.chanA.state = .faulted → c.chanB.state = .faulted → c.audible c.table[x].zones →
        (quietFound e c).val.queued x (c.table[x].readyAt e.now)) := by
  obtain ⟨-, hstage, hcaught⟩ := caughtUp_evacuate (now := e.now) h he
  obtain ⟨⟨-, harm⟩, htime⟩ := hcaught x hx
  obtain ⟨late, ready⟩ := harm (mem_dueNow hx).2 (by rw [hstage.1]; exact fun hn => nomatch hn)
  have hg : ¬ x.val < 2 := fun hlt => (h.builtIn_nowhere hlt).2.1 (mem_dueNow hx).1
  have hseen : (c.caughtUp e.now).Spares (·.val < 2) (c.seesQuiet e.now) := .of_same rfl rfl rfl rfl rfl rfl rfl
  have hsp := hseen.trans (spares_cancelBuiltIns e ⟨c.seesQuiet e.now, []⟩)
  refine ⟨fun hm => ?_, fun hl ho => ?_, fun hl ha hb hz => ?_⟩
  · exact htime ((hsp.timetable x hg).mp ((listsShrink_walk e.now _).2.1.subset hm))
  · obtain ⟨hend, hr⟩ := late hl ho
    exact (spares_walk e.now _).ended x _ _ _ (mt (hsp.ready x hg).mp hr) (hsp.ended x _ _ _ hg hend)
  · have faulted (k : Channel) (hk : (c.chan k).state = .faulted) :
        ((cancelBuiltIns e ⟨c.seesQuiet e.now, []⟩).val.chan k).state ≠ .idle := by
      rw [cancelBuiltIns_chan h (carrying_of_state (.inr hk)), hk]
      decide
    have hzones : c.SameZones (cancelBuiltIns e ⟨c.seesQuiet e.now, []⟩).val :=
      ((Calls.SameZones.of_paging (seesQuiet_keeps (now := e.now) h).2.1).trans
        (sameZones_endBuiltIn e .staffAlert .cancelled ⟨c.seesQuiet e.now, []⟩)).trans
        (sameZones_endBuiltIn e .evacuation .cancelled _)
    refine walk_keepsQueued (faulted .a ha) (faulted .b hb) ?_ ((ready hl).spared hsp hg)
    obtain ⟨z, hz1, hz2⟩ := hz
    exact ⟨z, hz1, by rw [hzones z]; exact hz2⟩

end Sys2Proof.Machine
end

section
/-! STAND DOWN and RESTORE: the return to QUIET and what every block makes of it (R53, R54, R60, R123, R140, R161,
R163). -/
namespace Sys2Proof.Machine

/-! ## The requests (R53, R54) -/

theorem calm_iff (s : State) : s.fire.calm = true ↔ s.fire.alarmList = [] ∧ NoneDelayed s := by
  have hd : s.fire.anyDelayed = false ↔ NoneDelayed s := by
    rw [← Bool.not_eq_true, anyDelayed_iff, not_exists]
  unfold Fire.calm
  rw [Bool.and_eq_true, List.isEmpty_iff, Bool.not_eq_true', hd]

/-- The block of both requests, condition by condition. -/
theorem returnToQuiet_quiet {c other : Condition} {cause : FireCause} {s : State} (h : s.fire.condition = .quiet) :
    returnToQuiet c other cause s = (s, done .empty) := if_pos h

theorem returnToQuiet_other {c other : Condition} {cause : FireCause} {s : State} (hq : s.fire.condition ≠ .quiet)
    (h : s.fire.condition = other) : returnToQuiet c other cause s = (s, refuse .notActive) := by
  unfold returnToQuiet
  rw [if_neg hq, if_pos h]

theorem returnToQuiet_calm {c other : Condition} {cause : FireCause} {s : State} (h : s.fire.condition = c)
    (hq : c ≠ .quiet) (ho : c ≠ other) (hl : s.fire.alarmList = []) (hn : NoneDelayed s) :
    returnToQuiet c other cause s = (changeCondition .quiet cause s, done .empty) := by
  unfold returnToQuiet
  rw [h, if_neg hq, if_neg ho, if_pos ⟨rfl, (calm_iff s).mpr ⟨hl, hn⟩⟩]

theorem returnToQuiet_alarm {c other : Condition} {cause : FireCause} {s : State} (h : s.fire.condition = c)
    (hq : c ≠ .quiet) (ho : c ≠ other) (ha : s.fire.alarmList ≠ [] ∨ ¬ NoneDelayed s) :
    returnToQuiet c other cause s = (s, ⟨.refused, .alarmPresent s.fire.alarmList.length s.fire.delayedCount⟩) := by
  unfold returnToQuiet
  rw [h, if_neg hq, if_neg ho, if_neg fun hc => ?_]
  obtain ⟨hl, hn⟩ := (calm_iff s).mp hc.2
  exact ha.elim (· hl) (· hn)

/-- One of the two requests, with the condition it ends and the one in which it is refused. -/
structure QuietRequest (c other : Condition) (cause : FireCause) (kind : Byte) (i : Instr) : Prop where
  acts : ∀ s, exec i s = takeRequest .house i (returnToQuiet c other cause) s
  frame : requestFrame i = ⟨kind, []⟩
  known : kindKnown kind = true
  allowed : permitted .house kind = true
  shape : shapeOk i = true
  ends : c ≠ .quiet
  differs : c ≠ other
  rest : ∀ x : Condition, x ≠ .quiet → x ≠ c → x = other

theorem quietRequest_of {c : Condition} {cause : FireCause} {kind : Byte} {i : Instr}
    (h : (c = .alert ∧ cause = .standDown ∧ kind = 0x1B ∧ i = .standDown .house) ∨
      (c = .evacuate ∧ cause = .restore ∧ kind = 0x1C ∧ i = .restore .house)) :
    ∃ other, QuietRequest c other cause kind i := by
  rcases h with ⟨rfl, rfl, rfl, rfl⟩ | ⟨rfl, rfl, rfl, rfl⟩
  · exact ⟨.evacuate, fun _ => rfl, rfl, by decide, by decide, rfl, by decide, by decide,
      fun x => by cases x <;> decide⟩
  · exact ⟨.alert, fun _ => rfl, rfl, by decide, by decide, rfl, by decide, by decide,
      fun x => by cases x <;> decide⟩

theorem QuietRequest.unchanged {c other : Condition} {cause : FireCause} {kind : Byte} {i : Instr} {s : State}
    {a : Answer} (h : QuietRequest c other cause kind i) (ht : takeable .house ⟨kind, []⟩ s = true)
    (hb : returnToQuiet c other cause s = (s, a)) : exec i s = .next (s.withReply .house kind a) := by
  obtain ⟨hx, hf, hk, hp, hs, -⟩ := h
  rw [hx, takeRequest_unchanged (by rw [hf]; exact ht) (by rw [hf]; exact hk) (by rw [hf]; exact hp) hs hb, hf]

theorem QuietRequest.changes {c other : Condition} {cause : FireCause} {kind : Byte} {i : Instr} {s : State}
    (h : QuietRequest c other cause kind i) (ht : takeable .house ⟨kind, []⟩ s = true) (hc : s.fire.condition = c)
    (hl : s.fire.alarmList = []) (hn : NoneDelayed s) :
    ∃ t, exec i s = .next t ∧ AnsweredWith .house kind (done .empty) s t ∧
      t = { changeCondition .quiet cause s with links := t.links } := by
  obtain ⟨hx, hf, hk, hp, hs, hq, ho, -⟩ := h
  obtain ⟨t, h1, h2, h3, -⟩ := takeRequest_answers (i := i) (by rw [hf]; exact ht) (by rw [hf]; exact hk)
    (by rw [hf]; exact hp) hs (returnToQuiet_calm (cause := cause) hc hq ho hl hn) (quietly_changeCondition _ _ s).2
  rw [hf] at h2
  exact ⟨t, (hx s).trans h1, h2, h3⟩

/-! ## What each block makes of QUIET (R57) -/

theorem changeCondition_quiet_fire (cause : FireCause) (s : State) :
    (changeCondition .quiet cause s).fire = { s.fire with
      condition := .quiet, previous := some s.fire.condition, cause := some cause, enteredAt := s.clock,
      investigation := none, demand := false } := by
  rw [changeCondition_fire, conditionRecorded_fire, if_neg (by simp)]
  rfl

theorem changeCondition_quiet_house (cause : FireCause) (s : State) :
    (changeCondition .quiet cause s).house = s.house := by
  rw [changeCondition_house, if_neg (by decide)]

/-- The state whose curtain, lights and calls hear of QUIET: the record is complete and told. -/
def quietTold (cause : FireCause) (s : State) : State :=
  (conditionRecorded .quiet cause s).post [fireMail (conditionRecorded .quiet cause s).fire s.fire.condition cause]

theorem changeCondition_quiet (cause : FireCause) (s : State) :
    changeCondition .quiet cause s = handCondition .quiet false (quietTold cause s) :=
  (changeCondition_eq .quiet cause s).trans (if_neg (by decide))

theorem quietTold_keeps (cause : FireCause) (s : State) :
    (quietTold cause s).curtain = s.curtain ∧ (quietTold cause s).lights = s.lights ∧
      (quietTold cause s).calls = s.calls ∧ KeepsBase s (quietTold cause s) := by
  refine ⟨?_, ?_, ?_, ((quietly_conditionRecorded .quiet cause s).trans (quietly_post _ _)).1⟩
  · rw [quietTold, State.post_curtain, conditionRecorded_others]
  · rw [quietTold, State.post_lights, conditionRecorded_others]
  · rw [quietTold, State.post_calls, conditionRecorded_others]

/-- The demand ends on the curtain and its state stays (R67). -/
theorem curtainFireHandoff_quiet (e : CurtainEnv) (w : Act Curtain) :
    (curtainFireHandoff e false (some .quiet) w).val.state = w.val.state ∧
      (curtainFireHandoff e false (some .quiet) w).val.fireDemand = false := by
  refine ⟨curtainFireHandoff_state_quiet e _ (.inr rfl) w, ?_⟩
  rw [curtainFireHandoff_eq, if_neg (by simp)]
  unfold meetDemand
  cases h : w.val.fireDemand <;> simp [h]

theorem changeCondition_quiet_curtain (cause : FireCause) (s : State) :
    (changeCondition .quiet cause s).curtain.state = s.curtain.state ∧
      (changeCondition .quiet cause s).curtain.fireDemand = false := by
  obtain ⟨hc, -⟩ := quietTold_keeps cause s
  rw [changeCondition_quiet, ← hc]
  exact curtainFireHandoff_quiet _ ⟨(quietTold cause s).curtain, []⟩

/-- The end of the override restores the circuits where panic is off, and nothing else touches them (R123). -/
theorem lightsFireHandoff_quiet (e : LightEnv) (l : Lights) :
    (lightsFireHandoff .quiet e ⟨l, []⟩).val =
      if l.fireSeen = .evacuate ∧ l.panic = false then
        ({ l with fireSeen := .quiet } : Lights).restoreFades e fun _ => 255
      else { l with fireSeen := .quiet } := by
  unfold lightsFireHandoff
  dsimp only
  rw [if_neg (by decide)]
  by_cases h : l.fireSeen = .evacuate ∧ l.panic = false
  · rw [if_pos h]
    exact congrArg Act.val (if_pos ⟨h.1, by decide, h.2⟩)
  · rw [if_neg h]
    exact congrArg Act.val (if_neg fun hc => h ⟨hc.1, hc.2.2⟩)

theorem changeCondition_quiet_lights (cause : FireCause) (s : State) :
    (changeCondition .quiet cause s).lights =
      if s.lights.fireSeen = .evacuate ∧ s.lights.panic = false then
        ({ s.lights with fireSeen := .quiet } : Lights).restoreFades s.lightEnv fun _ => 255
      else { s.lights with fireSeen := .quiet } := by
  obtain ⟨-, hl, -, ⟨hclock, -, -, -, hparams, -⟩, -⟩ := quietTold_keeps cause s
  have henv : ((quietTold cause s).onCurtain fun e => curtainFireHandoff e false (some .quiet)).lightEnv = s.lightEnv := by
    unfold State.lightEnv
    rw [State.onCurtain_clock, State.onCurtain_params, hclock, hparams]
  rw [changeCondition_quiet, handCondition, State.onCalls_lights, State.onCalls_lights, State.onLights_lights, henv,
    State.onCurtain_lights, hl, lightsFireHandoff_quiet]

/-- A circuit whose restore fade starts, from 255 (R104, R123). -/
theorem restoreFades_began (e : LightEnv) (l : Lights) (i : Fin 48) :
    ({ l.circuits[i] with base := 255, fade := none } : Circuit).fadeBegan e.now e.restoreSlot
      (l.slotDuration e.restoreSlot) 255 (l.restoreFades e fun _ => 255).circuits[i] := by
  rw [show (l.restoreFades e fun _ => 255).circuits[i] = _ from vmap_get _ l.circuits i]
  exact Circuit.startFade_began _ _ _ _ _

/-- The calls and the lights have seen QUIET. -/
theorem changeCondition_quiet_seen (cause : FireCause) (s : State) :
    (changeCondition .quiet cause s).lights.fireSeen = .quiet ∧
      (changeCondition .quiet cause s).calls.fireSeen = .quiet ∧
      (changeCondition .quiet cause s).calls.arbiterFire = .quiet := by
  rw [changeCondition_quiet]
  obtain ⟨hc, hl⟩ := handCondition_seen .quiet false (quietTold cause s)
  simp only [Calls.seen, Lights.seen, Prod.mk.injEq] at hc hl
  exact ⟨hl.2.2.1, hc.2⟩

/-- The calls as a change to QUIET leaves them (R140, R156, R161, R163). -/
theorem changeCondition_quiet_calls (cause : FireCause) (s : State) : ∃ e : CallEnv, e.now = s.clock ∧
    (changeCondition .quiet cause s).calls = (quietFound e s.calls).val := by
  obtain ⟨-, -, hc, ⟨hclock, -⟩, -⟩ := quietTold_keeps cause s
  obtain ⟨v, hv, hvc, hnow⟩ : ∃ v : State, changeCondition .quiet cause s =
      (v.onCalls (schedulerFireHandoff .quiet)).onCalls (arbiterFireHandoff .quiet) ∧ v.calls = s.calls ∧
        v.clock = s.clock := by
    refine ⟨_, changeCondition_quiet cause s, ?_, ?_⟩
    · rw [State.onLights_calls, State.onCurtain_calls, hc]
    · rw [State.onLights_clock, State.onCurtain_clock, hclock]
  have hnow' : v.callEnv.now = (v.onCalls (schedulerFireHandoff .quiet)).callEnv.now := rfl
  refine ⟨(v.onCalls (schedulerFireHandoff .quiet)).callEnv, hnow, ?_⟩
  rw [hv, State.onCalls_calls, State.onCalls_calls, schedulerFireHandoff_quiet, hvc, hnow', arbiterFireHandoff_quiet]

/-- The end of the override restores every circuit from 255, with panic off; else the circuits stay (R123). -/
theorem changeCondition_quiet_circuits (cause : FireCause) (s : State) :
    (s.lights.fireSeen = .evacuate → s.lights.panic = false → ∀ j : Fin 48,
        Circuit.fadeBegan s.clock s.params.restoreSlot (s.lights.slotDuration s.params.restoreSlot) 255
          { s.lights.circuits[j] with base := 255, fade := none }
          (changeCondition .quiet cause s).lights.circuits[j]) ∧
      (s.lights.fireSeen ≠ .evacuate ∨ s.lights.panic = true →
        (changeCondition .quiet cause s).lights.circuits = s.lights.circuits) ∧
      (changeCondition .quiet cause s).lights.authority = s.lights.authority := by
  rw [changeCondition_quiet_lights]
  refine ⟨fun he hp j => ?_, fun h => ?_, ?_⟩
  · rw [if_pos ⟨he, hp⟩]
    exact restoreFades_began s.lightEnv { s.lights with fireSeen := .quiet } j
  · rw [if_neg fun hc => h.elim (· hc.1) fun hp => by rw [hp] at hc; exact nomatch hc.2]
  · split <;> rfl

/-- The built-in calls are over, and one that ran has finished CANCELLED (R161, R163). -/
theorem changeCondition_quiet_builtIns {cause : FireCause} {s : State} (h : s.calls.lawful) (b : BuiltIn) :
    (changeCondition .quiet cause s).calls.run b = .notRunning ∧
      (s.calls.run b ≠ .notRunning →
        (changeCondition .quiet cause s).calls.table[builtInCall b].life = .finished ∧
          (changeCondition .quiet cause s).calls.table[builtInCall b].outcome = some .cancelled) := by
  obtain ⟨e, -, hfound⟩ := changeCondition_quiet_calls cause s
  rw [hfound]
  exact ⟨quietFound_run e s.calls b, quietFound_cancels h⟩

/-- What RESTORE makes of a call that is due (R140). -/
theorem changeCondition_quiet_due {cause : FireCause} {s : State} (h : s.calls.lawful)
    (he : s.calls.fireSeen = .evacuate) {x : CallId} {due : Nat}
    (hx : x ∈ s.calls.timetable.takeWhile fun i => (s.calls.table[i].due).any (· ≤ s.clock))
    (hd : s.calls.table[x].due = some due) :
    x ∉ (changeCondition .quiet cause s).calls.timetable ∧
      (0 < s.calls.table[x].lifetime → due + s.calls.table[x].lifetime < s.clock →
        (changeCondition .quiet cause s).calls.finishedAs x s.calls.table[x].creator .expired s.clock) ∧
      (s.calls.table[x].lifetime = 0 ∨ s.clock ≤ due + s.calls.table[x].lifetime →
        s.calls.chanA.state = .faulted → s.calls.chanB.state = .faulted → s.calls.audible s.calls.table[x].zones →
        (changeCondition .quiet cause s).calls.queued x (s.calls.table[x].readyAt s.clock)) := by
  obtain ⟨e, hnow, hfound⟩ := changeCondition_quiet_calls cause s
  rw [← dueNow_eq, ← hnow] at hx
  have hq := quietFound_due h he hx
  rw [hd, Option.getD_some, hnow] at hq
  obtain ⟨h1, h2, h3⟩ := hq
  rw [hfound]
  exact ⟨h1, fun hl ho => (h2 hl ho).finishedAs, h3⟩

/-- Settles O19: the block of the two requests, condition by condition, and the return to QUIET block by block. -/
theorem standDownAndRestoreReturnToQuiet : Obligations.ReturnToQuiet := by
  intro s c cause kind i hi ht
  obtain ⟨other, hreq⟩ := quietRequest_of hi
  refine ⟨fun hc hl hn => ?_, fun hc ha => hreq.unchanged ht (returnToQuiet_alarm hc hreq.ends hreq.differs ha),
    fun hc => hreq.unchanged ht (returnToQuiet_quiet hc),
    fun hq hc => hreq.unchanged ht (returnToQuiet_other hq (hreq.rest _ hq hc))⟩
  obtain ⟨t, hx, hans, hu⟩ := hreq.changes ht hc hl hn
  have hfire : t.fire = (changeCondition .quiet cause s).fire := by rw [hu]
  have hhouse : t.house = (changeCondition .quiet cause s).house := by rw [hu]
  have hcurtain : t.curtain = (changeCondition .quiet cause s).curtain := by rw [hu]
  have hlights : t.lights = (changeCondition .quiet cause s).lights := by rw [hu]
  have hcalls : t.calls = (changeCondition .quiet cause s).calls := by rw [hu]
  have hbase : KeepsBase s t := by rw [hu]; exact (quietly_changeCondition .quiet cause s).1
  rw [changeCondition_quiet_fire, hc] at hfire
  rw [changeCondition_quiet_house] at hhouse
  obtain ⟨u1, u2⟩ := changeCondition_quiet_curtain cause s
  obtain ⟨k1, k2, k3⟩ := changeCondition_quiet_seen cause s
  obtain ⟨l1, l2, l3⟩ := changeCondition_quiet_circuits cause s
  refine ⟨t, hx, hans, hfire, hhouse, ?_⟩
  rw [hcurtain, hlights, hcalls]
  refine ⟨u1, u2, k1, l3, k2, k3, hbase, l1, l2, fun hlaw => ?_, fun hlaw he x due hdue hd => ?_⟩
  · obtain ⟨e1, e2⟩ := changeCondition_quiet_builtIns (cause := cause) hlaw .evacuation
    obtain ⟨a1, a2⟩ := changeCondition_quiet_builtIns (cause := cause) hlaw .staffAlert
    exact ⟨e1, a1, e2, a2⟩
  · obtain ⟨h1, h2, h3⟩ := changeCondition_quiet_due (cause := cause) hlaw he hdue hd
    refine ⟨h1, h2, fun hl ha hb hz => ?_⟩
    obtain ⟨htable, hready, -⟩ := h3 hl ha hb hz
    rw [htable]
    exact ⟨hready, rfl, rfl⟩

end Sys2Proof.Machine
end

section
/-! What the Curtain Controller does to the part as a whole (R62, R64, R82, R84): an act that changes no state and tells
nothing, a change to HALTED, and a request to the curtain. -/
namespace Sys2Proof.Machine

/-! ## Acts of the curtain -/

/-- An act that tells nothing and leaves the curtain state writes the curtain record alone. -/
theorem onCurtain_silent {f : CurtainEnv → Act Curtain → Act Curtain} {s : State} {c : Curtain}
    (h : f s.curtainEnv ⟨s.curtain, []⟩ = ⟨c, []⟩) (hc : c.state = s.curtain.state) :
    s.onCurtain f = { s with curtain := c } := by
  unfold State.onCurtain
  rw [h]
  dsimp only
  rw [hc, demoBookkeeping_eq_self s.house (.inl rfl), Links.post_nil]

/-- An act that does nothing to the curtain does nothing to the part. -/
theorem onCurtain_idle {f : CurtainEnv → Act Curtain → Act Curtain} {s : State}
    (h : f s.curtainEnv ⟨s.curtain, []⟩ = ⟨s.curtain, []⟩) : s.onCurtain f = s := onCurtain_silent h rfl

/-- A curtain that neither lands nor is stowed leaves the house condition record (R6). -/
theorem onCurtain_house_moving {f : CurtainEnv → Act Curtain → Act Curtain} {s : State}
    (h1 : (f s.curtainEnv ⟨s.curtain, []⟩).val.state ≠ .landed)
    (h2 : (f s.curtainEnv ⟨s.curtain, []⟩).val.state ≠ .stowed) : (s.onCurtain f).house = s.house :=
  demoBookkeeping_moving _ h1 h2

/-- A curtain that stays as it is leaves the house condition record (R6). -/
theorem onCurtain_house_still {f : CurtainEnv → Act Curtain → Act Curtain} {s : State}
    (h : (f s.curtainEnv ⟨s.curtain, []⟩).val.state = s.curtain.state) : (s.onCurtain f).house = s.house :=
  demoBookkeeping_eq_self _ (.inl h)

/-- The record of a curtain that has halted (Table 4-1, R73, R96). -/
def Curtain.halted (e : CurtainEnv) (reason : CurtainReason) (c : Curtain) : Curtain :=
  { c with
    state := .halted, enteredAt := e.now, reason := reason, raise := none, samplesDue := 0
    descent := c.descent.map fun d => { d with retard := false } }

theorem changeState_halted (e : CurtainEnv) (reason : CurtainReason) (w : Act Curtain) :
    (changeState e .halted reason w).val = w.val.halted e reason := rfl

/-- Only a raise halts (R73, R74). -/
theorem haltRaise_raising {e : CurtainEnv} {reason : CurtainReason} {w : Act Curtain} (h : w.val.state = .raising) :
    (haltRaise e reason w).val = w.val.halted e reason := by
  rw [haltRaise, if_pos h, changeState_halted]

theorem haltRaise_still {e : CurtainEnv} {reason : CurtainReason} {w : Act Curtain} (h : w.val.state ≠ .raising) :
    haltRaise e reason w = w := if_neg h

/-- The state after an act in which the curtain halted: the other blocks stand as before. -/
theorem onCurtain_halted {f : CurtainEnv → Act Curtain → Act Curtain} {s : State} {c : Curtain} {reason : CurtainReason}
    (h : (f s.curtainEnv ⟨s.curtain, []⟩).val = c.halted s.curtainEnv reason) :
    (s.onCurtain f).curtain = c.halted s.curtainEnv reason ∧ (s.onCurtain f).house = s.house :=
  ⟨h, onCurtain_house_moving (by rw [h]; simp [Curtain.halted]) (by rw [h]; simp [Curtain.halted])⟩

/-- The record of a raise that has begun (R72). -/
theorem startRaise_val (e : CurtainEnv) (w : Act Curtain) :
    (startRaise e w).val = { w.val with
      state := .raising, enteredAt := e.now, reason := .raise, causes := w.val.causes.heldOnly
      raise := some ⟨min (e.now + 5) 4294967295, 0, [w.val.position e]⟩
      samplesDue := 0, descent := w.val.descent.map fun d => { d with retard := false } } := rfl

/-! ## A request to the curtain -/

/-- A taken request whose block lets the curtain act: the reply, the curtain record, the marks of R6, and the rest as it
was. -/
theorem takeRequest_onCurtain {p : Port} {i : Instr} {block : State → State × Answer}
    {f : CurtainEnv → Act Curtain → Act Curtain} {s : State} {a : Answer}
    (ht : takeable p (requestFrame i) s = true) (hk : kindKnown (requestFrame i).kind = true)
    (hp : permitted p (requestFrame i).kind = true) (hs : shapeOk i = true) (hb : block s = (s.onCurtain f, a)) :
    ∃ t, takeRequest p i block s = .next t ∧ AnsweredWith p (requestFrame i).kind a s t ∧
      t.curtain = (s.onCurtain f).curtain ∧ t.house = (s.onCurtain f).house ∧ t.inert = s.inert ∧ t.fire = s.fire ∧
      t.lights = s.lights ∧ t.calls = s.calls ∧ KeepsBase s t ∧
      ∀ q n, Reaches q n s (s.onCurtain f) → Reaches q n s t := by
  have hq := quietly_onCurtain f s
  obtain ⟨t, hx, ha, hu, hr⟩ := takeRequest_answers ht hk hp hs hb hq.2
  refine ⟨t, hx, ha, ?_⟩
  rw [hu] at hr ⊢
  exact ⟨rfl, rfl, rfl, rfl, rfl, rfl, hq.1, hr⟩

end Sys2Proof.Machine
end

section
/-! RAISE HOLD, STOP RAISE and the end of the lease (R72, R73, R74). -/
namespace Sys2Proof.Machine

/-- The conditions that RAISE HOLD tests, in the order of their bits (R72). -/
theorem raiseInterlock_eq (s : State) :
    s.raiseInterlock = (if s.fire.condition ≠ .quiet then [Interlock.fireNotQuiet] else []) ++
      (if s.curtain.fireDemand = true ∨ s.curtain.hardLine = true ∨ s.curtain.manual = true then
        [.releaseDemand] else []) ++
      (if s.curtain.state = .jammed ∨ s.curtain.faults.jammed ≠ none then [.curtainJammed] else []) := by
  simp only [State.raiseInterlock, failing_cons, show failing [] = [] from rfl, List.append_nil, List.append_assoc,
    bne_iff_ne, Curtain.heldDemand, Bool.or_eq_true, or_assoc, beq_iff_eq, ← Option.isSome_iff_ne_none]

/-- A curtain held by nothing rises (R72). -/
theorem raiseHoldBlock_free {s : State} (hs : s.curtain.state = .landed ∨ s.curtain.state = .halted)
    (hi : s.raiseInterlock = []) : raiseHoldBlock s = (s.onCurtain startRaise, done .empty) := by
  rcases hs with hs | hs <;> simp only [raiseHoldBlock, hs, hi] <;> rfl

theorem raiseHoldBlock_held {s : State}
    (hs : s.curtain.state = .landed ∨ s.curtain.state = .halted ∨ s.curtain.state = .jammed)
    (hi : s.raiseInterlock ≠ []) : raiseHoldBlock s = (s, ⟨.refused, .interlock s.raiseInterlock⟩) := by
  rcases hs with hs | hs | hs <;> simp only [raiseHoldBlock, hs] <;> exact interlocked_failing hi

theorem raiseHoldBlock_raising {s : State} (hs : s.curtain.state = .raising) :
    raiseHoldBlock s = (s.onCurtain renewLease, done .empty) := by simp only [raiseHoldBlock, hs]

theorem raiseHoldBlock_stowed {s : State} (hs : s.curtain.state = .stowed) :
    raiseHoldBlock s = (s, done .empty) := by simp only [raiseHoldBlock, hs]

theorem raiseHoldBlock_falling {s : State} (hs : s.curtain.state = .descending ∨ s.curtain.state = .secondary) :
    raiseHoldBlock s = (s, refuse .inMotion) := by rcases hs with hs | hs <;> simp only [raiseHoldBlock, hs]

/-- RAISE HOLD begins a raise (R72). -/
theorem raiseHold_begins {s : State} (ht : takeable .prompt ⟨0x1F, []⟩ s = true)
    (hs : s.curtain.state = .landed ∨ s.curtain.state = .halted) (hi : s.raiseInterlock = []) :
    ∃ t, exec (.raiseHold .prompt) s = .next t ∧ AnsweredWith .prompt 0x1F (done .empty) s t ∧
      t.curtain = (startRaise s.curtainEnv ⟨s.curtain, []⟩).val ∧
      (s.inert = false → t.curtainOutputs = ⟨true, true, false, false⟩) ∧
      t.house = s.house ∧ t.fire = s.fire ∧ t.lights = s.lights ∧ t.calls = s.calls ∧ KeepsBase s t := by
  obtain ⟨t, hx, ha, hc, hh, hn, hf, hl, hk, hb, -⟩ := takeRequest_onCurtain (i := .raiseHold .prompt) ht (by decide)
    (by decide) rfl (raiseHoldBlock_free hs hi)
  refine ⟨t, hx, ha, hc, fun h => ?_, hh.trans (onCurtain_house_moving ?_ ?_), hf, hl, hk, hb⟩
  · rw [State.curtainOutputs_live (hn.trans h), hc]; rfl
  all_goals rw [startRaise_val]; simp

/-- A halt of the raise under way (R73, R74). -/
theorem onCurtain_haltRaise {s : State} (reason : CurtainReason) (hs : s.curtain.state = .raising) :
    (s.onCurtain fun e => haltRaise e reason).curtain = s.curtain.halted s.curtainEnv reason ∧
      (s.onCurtain fun e => haltRaise e reason).house = s.house :=
  onCurtain_halted (f := fun e => haltRaise e reason) (haltRaise_raising (w := ⟨s.curtain, []⟩) hs)

/-- No halt reaches a curtain that is not RAISING. -/
theorem onCurtain_haltRaise_still {s : State} (reason : CurtainReason) (hs : s.curtain.state ≠ .raising) :
    (s.onCurtain fun e => haltRaise e reason) = s := onCurtain_idle (haltRaise_still hs)

/-- STOP RAISE halts a raise (R74). -/
theorem stopRaise_raising {s : State} (ht : takeable .prompt ⟨0x20, []⟩ s = true) (hs : s.curtain.state = .raising) :
    ∃ t, exec (.stopRaise .prompt) s = .next t ∧ AnsweredWith .prompt 0x20 (done .empty) s t ∧
      t.curtain = s.curtain.halted s.curtainEnv .stopRaise ∧
      t.house = s.house ∧ t.fire = s.fire ∧ t.lights = s.lights ∧ t.calls = s.calls ∧ KeepsBase s t := by
  obtain ⟨kc, kh⟩ := onCurtain_haltRaise .stopRaise hs
  obtain ⟨t, hx, ha, hc, hh, -, hf, hl, hk, hb, -⟩ := takeRequest_onCurtain (i := .stopRaise .prompt)
    (block := stopRaiseBlock) ht (by decide) (by decide) rfl rfl
  exact ⟨t, hx, ha, hc.trans kc, hh.trans kh, hf, hl, hk, hb⟩

theorem leaseOver_iff {now : Nat} {c : Curtain} {r : RaiseRecord} (h : c.raise = some r) :
    c.leaseOver now = true ↔ r.leaseExpiry ≤ now := by simp [Curtain.leaseOver, timeReached, h]

theorem leaseExpiry_over {s : State} (hi : s.inert = false) (h : s.curtain.leaseOver s.clock = true) :
    exec .leaseExpiry s = .next (s.onCurtain fun e => haltRaise e .leaseExpired) := if_pos (by rw [hi, h]; rfl)

theorem leaseExpiry_early {s : State} (h : s.curtain.leaseOver s.clock = false) : exec .leaseExpiry s = .next s :=
  if_neg (by rw [h]; simp)

/-- The end of a lease means nothing to a curtain that is not RAISING (R73). -/
theorem leaseExpiry_still {s : State} (hs : s.curtain.state ≠ .raising) : exec .leaseExpiry s = .next s := by
  show execLeaseExpiry s = _
  unfold execLeaseExpiry
  rw [onCurtain_haltRaise_still _ hs, ite_self]

/-- Settles O27: RAISE HOLD by the branch that the curtain state selects, and the two ends of a raise by the one halt
that they share. -/
theorem raiseIsHeldAndHalted : Obligations.RaiseIsHeldAndHalted := by
  refine ⟨fun s ht => ⟨fun hs hf hh hm hq hj => ?_, ?_, fun hs => ?_, fun hs => ?_, fun hs => ?_⟩,
    fun s => ⟨stopRaise_raising, fun ht hs => ?_, fun r hr hi hs hl => ?_, fun r hr hl => ?_, leaseExpiry_still⟩⟩
  · have hi : s.raiseInterlock = [] := by
      rw [raiseInterlock_eq, hf, hh, hm, hq, hj]; rcases hs with hs | hs <;> rw [hs] <;> rfl
    exact raiseHold_begins ht hs hi
  · rintro hs c rfl hne
    rw [← raiseInterlock_eq] at hne ⊢
    exact takeRequest_unchanged (i := .raiseHold .prompt) ht (by decide) (by decide) rfl (raiseHoldBlock_held hs hne)
  · refine takeRequest_silent (i := .raiseHold .prompt) ht (by decide) (by decide) rfl ?_ rfl
    rw [raiseHoldBlock_raising hs]
    exact congrArg (·, _) (onCurtain_silent rfl rfl)
  · exact takeRequest_unchanged (i := .raiseHold .prompt) ht (by decide) (by decide) rfl (raiseHoldBlock_stowed hs)
  · exact takeRequest_unchanged (i := .raiseHold .prompt) ht (by decide) (by decide) rfl (raiseHoldBlock_falling hs)
  · exact takeRequest_unchanged (i := .stopRaise .prompt) ht (by decide) (by decide) rfl
      (congrArg (·, done .empty) (onCurtain_haltRaise_still .stopRaise hs))
  · obtain ⟨kc, kh⟩ := onCurtain_haltRaise .leaseExpired hs
    obtain ⟨kb, kl⟩ := quietly_onCurtain (fun e => haltRaise e .leaseExpired) s
    exact ⟨_, leaseExpiry_over hi ((leaseOver_iff hr).mpr hl), kl, kc, kh, rfl, rfl, rfl, kb⟩
  · exact leaseExpiry_early (Bool.eq_false_iff.mpr fun h => absurd ((leaseOver_iff hr).mp h) (Nat.not_le.mpr hl))

end Sys2Proof.Machine
end

section
/-! CLEAR CURTAIN FAULTS (R83). -/
namespace Sys2Proof.Machine

/-- The faults removed are those in the set, JAMMED apart while the state is JAMMED (R83). -/
theorem clearable_eq (c : Curtain) :
    c.clearable = ([c.faults.lag, c.faults.overspeed, if c.state = .jammed then none else c.faults.jammed,
      c.faults.raiseStall, c.faults.overTravel, c.faults.creep, c.faults.encoderDisagree,
      c.faults.limitSwitch].filter Option.isSome).length := by
  unfold Curtain.clearable Curtain.clearedFaults FaultSet.size FaultSet.empty
  simp only [← List.countP_eq_length_filter, List.countP_cons, List.countP_nil]
  by_cases hj : c.state = .jammed
  · simp only [if_pos hj, Option.isSome_none, Bool.false_eq_true, if_false]
    omega
  · simp only [if_neg hj, Option.isSome_none, Bool.false_eq_true, if_false]
    omega

theorem clearFaults_none {e : CurtainEnv} {w : Act Curtain} (h : w.val.clearable = 0) : clearFaults e w = w := if_pos h

/-- A clearing that removes a fault tells the set that is left (R83). -/
theorem clearFaults_some {e : CurtainEnv} {w : Act Curtain} (h : w.val.clearable ≠ 0) :
    clearFaults e w = ⟨{ w.val with faults := w.val.clearedFaults }, w.out ++ [⟨curtainPorts,
      .curtainFault ⟨none, none, none, w.val.state, w.val.position e, w.val.clearedFaults⟩⟩]⟩ := if_neg h

/-- Settles O28: nothing to clear leaves the state, and a clearing writes the fault set and tells it. -/
theorem clearCurtainFaults : Obligations.ClearCurtainFaults := by
  rintro s ht n rfl
  rw [← clearable_eq]
  by_cases hn : s.curtain.clearable = 0
  · have hb : clearFaultsBlock s = (s, done (.number 0)) := by
      unfold clearFaultsBlock
      rw [onCurtain_idle (clearFaults_none hn), hn]
    have hx := takeRequest_unchanged (i := .clearCurtainFaults .prompt) ht (by decide) (by decide) rfl hb
    rw [hn]
    exact ⟨_, hx, .refl _, fun _ => rfl, fun h => absurd rfl h, rfl, rfl, rfl, rfl, .refl s⟩
  · have hc := clearFaults_some (e := s.curtainEnv) (w := ⟨s.curtain, []⟩) hn
    obtain ⟨t, hx, ha, kc, kh, -, hf, hl, hk, hb, hr⟩ := takeRequest_onCurtain (i := .clearCurtainFaults .prompt)
      (block := clearFaultsBlock) ht (by decide) (by decide) rfl rfl
    rw [State.onCurtain_curtain, hc] at kc
    refine ⟨t, hx, ha, fun h => absurd h hn, fun _ => ⟨kc, fun q hq => hr q _ ?_⟩,
      kh.trans (onCurtain_house_still (by rw [hc])), hf, hl, hk, hb⟩
    rw [kc]
    have hp : (s.onCurtain clearFaults).links = s.links.post s.clock [_] :=
      congrArg (fun w : Act Curtain => s.links.post s.clock w.out) hc
    refine Reaches.of_post hp (List.mem_singleton_self _) ?_
    rcases hq with rfl | rfl <;> simp [curtainPorts]

end Sys2Proof.Machine
end

section
/-! Samples of the curtain that are taken, and what they do in RAISING and in STOWED (R63, R75, R76, R77). -/
namespace Sys2Proof.Machine

/-! ## A sample that is taken -/

/-- A sample that the time base owes, in a state that it samples, reads the encoder and lets the curtain act. -/
theorem sampleCurtain_taken {raw : BitVec 17} {due : Curtain → Bool} {f : CurtainEnv → Act Curtain → Act Curtain}
    {s : State} (hi : s.inert = false) (hn : 0 < s.curtain.samplesDue) (hd : due s.curtain = true) :
    sampleCurtain raw due f s = (s.readEncoder raw).onCurtain f := if_pos (by simp [hi, hn, hd])

/-- A sample reaches the ports by notices alone. -/
theorem keepsLinks_sample (raw : BitVec 17) (f : CurtainEnv → Act Curtain → Act Curtain) (s : State) :
    KeepsLinks s ((s.readEncoder raw).onCurtain f) := (quietly_onCurtain f (s.readEncoder raw)).2

theorem execRaiseSample_taken {raw : BitVec 17} {s : State} (hi : s.inert = false) (hs : s.curtain.state = .raising)
    (hn : 0 < s.curtain.samplesDue) :
    exec (.raiseSample raw) s = .next ((s.readEncoder raw).onCurtain raiseSampleAct) :=
  congrArg _ (sampleCurtain_taken hi hn (by rw [hs]; rfl))

theorem execCreepSample_taken {raw : BitVec 17} {s : State} (hi : s.inert = false) (hs : s.curtain.state = .stowed)
    (hn : 0 < s.curtain.samplesDue) :
    exec (.creepSample raw) s = .next ((s.readEncoder raw).onCurtain creepSampleAct) :=
  congrArg _ (sampleCurtain_taken hi hn (by rw [hs]; rfl))

theorem execDescentSample_taken {raw : BitVec 17} {s : State} (hi : s.inert = false)
    (hs : s.curtain.state.falling = true) (hn : 0 < s.curtain.samplesDue) :
    exec (.descentSample raw) s = .next ((s.readEncoder raw).onCurtain descentSampleAct) :=
  congrArg _ (sampleCurtain_taken hi hn hs)

/-- A window of 21 positions, newest first, holds what the one before it held, one place further on. -/
theorem window_push (p : Nat) (ps : List Nat) {k : Nat} (h : k < 20) : ((p :: ps).take 21)[k + 1]? = ps[k]? := by
  rw [List.getElem?_take_of_lt (Nat.succ_lt_succ h), List.getElem?_cons_succ]

/-- The curtain with one more fault in its set (R82). -/
def Curtain.faulted (now : Nat) (f : CurtainFault) (c : Curtain) : Curtain :=
  { c with faults := c.faults.add now none f }

theorem latchFault_val (e : CurtainEnv) (f : CurtainFault) (w : Act Curtain) :
    (latchFault e f none w).val = w.val.faulted e.now f := rfl

/-! ## The raise sample (R75, R76) -/

/-- The raise record after a sample at position `p`. -/
def RaiseRecord.sampled (p : Nat) (r : RaiseRecord) : RaiseRecord :=
  ⟨r.leaseExpiry, r.sample + 1, (p :: r.positions).take 21⟩

/-- The curtain record after a raise sample. -/
def Curtain.raiseSampled (p : Nat) (r : RaiseRecord) (c : Curtain) : Curtain :=
  { c with raise := some (r.sampled p), samplesDue := c.samplesDue - 1 }

/-- A raise that has risen too little over 20 samples (R76). -/
def RaiseRecord.stalls (stall p : Nat) (r : RaiseRecord) : Bool :=
  decide (20 ≤ r.sample + 1) && (r.positions[19]?).any fun before => decide (p < before + stall)

theorem RaiseRecord.stalls_iff (stall p : Nat) (r : RaiseRecord) : r.stalls stall p = true ↔
    20 ≤ r.sample + 1 ∧ ∃ before, r.positions[19]? = some before ∧ p < before + stall := by
  simp [RaiseRecord.stalls, Option.any_eq_true]

/-- A raise sample tests over-travel first, and the stall where there is none (R75, R76). -/
theorem raiseSampleAct_eq {e : CurtainEnv} {w : Act Curtain} {r : RaiseRecord} {p : Nat}
    (hs : w.val.state = .raising) (hr : w.val.raise = some r) (hp : p = w.val.position e) :
    raiseSampleAct e w =
      if e.params.travel + 200 ≤ p ∧ e.top ≠ some .active then
        haltRaise e .overTravel (latchFault e .overTravel none ⟨w.val.raiseSampled p r, w.out⟩)
      else if r.stalls e.params.stallDistance p = true then
        haltRaise e .raiseStall (latchFault e .raiseStall none ⟨w.val.raiseSampled p r, w.out⟩)
      else ⟨w.val.raiseSampled p r, w.out⟩ := by
  subst hp
  simp only [raiseSampleAct, hs, hr, window_push _ _ (show 19 < 20 by decide)]
  refine ite_congr rfl (fun _ => rfl) fun _ => ?_
  unfold RaiseRecord.stalls
  cases r.positions[19]? with
  | none => simp only [Option.any_none, Bool.and_false, Bool.false_eq_true, if_false]; rfl
  | some before => simp only [Option.any_some, Bool.and_eq_true, decide_eq_true_eq]; rfl

/-- A raise that is within its travel, or at its top limit, and has not stalled goes on. -/
theorem raiseSampleAct_rises {e : CurtainEnv} {w : Act Curtain} {r : RaiseRecord} {p : Nat}
    (hs : w.val.state = .raising) (hr : w.val.raise = some r) (hp : p = w.val.position e)
    (hover : p < e.params.travel + 200 ∨ e.top = some .active)
    (hstall : r.sample + 1 < 20 ∨
      ∀ before, r.positions[19]? = some before → before + e.params.stallDistance ≤ p) :
    raiseSampleAct e w = ⟨w.val.raiseSampled p r, w.out⟩ := by
  have hn : ¬ r.stalls e.params.stallDistance p = true := fun h => by
    obtain ⟨hk, before, hb, hd⟩ := (r.stalls_iff _ _).mp h
    exact hstall.elim (Nat.not_lt.mpr hk) fun hall => absurd (hall before hb) (Nat.not_le.mpr hd)
  rw [raiseSampleAct_eq hs hr hp, if_neg fun h => hover.elim (Nat.not_lt.mpr h.1) h.2, if_neg hn]

theorem raiseSampleAct_overTravels {e : CurtainEnv} {w : Act Curtain} {r : RaiseRecord} {p : Nat}
    (hs : w.val.state = .raising) (hr : w.val.raise = some r) (hp : p = w.val.position e)
    (hover : e.params.travel + 200 ≤ p) (ht : e.top ≠ some .active) :
    (raiseSampleAct e w).val = ((w.val.raiseSampled p r).faulted e.now .overTravel).halted e .overTravel := by
  rw [raiseSampleAct_eq hs hr hp, if_pos ⟨hover, ht⟩, haltRaise_raising (by exact hs), latchFault_val]

theorem raiseSampleAct_stalls {e : CurtainEnv} {w : Act Curtain} {r : RaiseRecord} {p before : Nat}
    (hs : w.val.state = .raising) (hr : w.val.raise = some r) (hp : p = w.val.position e)
    (hlow : p < e.params.travel + 200) (hk : 20 ≤ r.sample + 1) (hb : r.positions[19]? = some before)
    (hd : p < before + e.params.stallDistance) :
    (raiseSampleAct e w).val = ((w.val.raiseSampled p r).faulted e.now .raiseStall).halted e .raiseStall := by
  rw [raiseSampleAct_eq hs hr hp, if_neg fun h => absurd h.1 (Nat.not_le.mpr hlow),
    if_pos ((r.stalls_iff _ _).mpr ⟨hk, before, hb, hd⟩), haltRaise_raising (by exact hs), latchFault_val]

/-- A raise sample that latches a fault halts the raise. -/
theorem raiseSample_halts {raw : BitVec 17} {s : State} {r : RaiseRecord} {p : Nat} {f : CurtainFault}
    {reason : CurtainReason} (hi : s.inert = false) (hs : s.curtain.state = .raising) (hn : 0 < s.curtain.samplesDue)
    (h : (raiseSampleAct (s.readEncoder raw).curtainEnv ⟨s.curtain, []⟩).val =
      ((s.curtain.raiseSampled p r).faulted s.clock f).halted (s.readEncoder raw).curtainEnv reason) :
    ∃ t, exec (.raiseSample raw) s = .next t ∧ KeepsLinks s t ∧ t.curtain.state = .halted ∧
      t.curtain.reason = reason ∧ t.curtain.raise = none ∧ t.curtain.causes = s.curtain.causes ∧
      t.curtain.faults = s.curtain.faults.add s.clock none f ∧ t.house = s.house ∧
      t.fire = s.fire ∧ t.lights = s.lights ∧ t.calls = s.calls := by
  obtain ⟨hc, hh⟩ := onCurtain_halted (f := raiseSampleAct) (s := s.readEncoder raw) h
  refine ⟨_, execRaiseSample_taken hi hs hn, keepsLinks_sample _ _ _, ?_⟩
  rw [hc]
  exact ⟨rfl, rfl, rfl, rfl, rfl, hh, rfl, rfl, rfl⟩

/-! ## The creep sample (R77) -/

/-- A sample in STOWED that finds the curtain within the creep limit is counted and does nothing else. -/
theorem creepSampleAct_held {e : CurtainEnv} {w : Act Curtain} {p : Nat} (hs : w.val.state = .stowed)
    (hp : p = w.val.position e) (h : e.params.travel ≤ p + e.params.creepLimit) :
    creepSampleAct e w = ⟨{ w.val with samplesDue := w.val.samplesDue - 1 }, w.out⟩ := by
  subst hp
  exact (if_pos hs).trans (if_neg (Nat.not_lt.mpr h))

/-- A sample in STOWED that finds the curtain below the creep limit latches CREEP and halts the curtain. -/
theorem creepSampleAct_crept {e : CurtainEnv} {w : Act Curtain} {p : Nat} (hs : w.val.state = .stowed)
    (hp : p = w.val.position e) (h : p + e.params.creepLimit < e.params.travel) :
    (creepSampleAct e w).val =
      Curtain.halted e .creep (Curtain.faulted e.now .creep { w.val with samplesDue := w.val.samplesDue - 1 }) := by
  subst hp
  exact congrArg Act.val ((if_pos hs).trans (if_pos h))

/-- Settles O29: a raise sample by the two tests of R75 and R76, a sample in STOWED by the test of R77. -/
theorem raiseAndCreepSamples : Obligations.RaiseAndCreepSamples := by
  refine ⟨fun s raw r hr p hp hi hs hn => ⟨fun hover hstall => ?_, fun hover ht => ?_, fun hlow hk before hb hd => ?_⟩,
    fun s raw p hp hi hs hn => ⟨fun h => ?_, fun h => ?_⟩⟩
  · have hact := raiseSampleAct_rises (e := (s.readEncoder raw).curtainEnv) (w := ⟨s.curtain, []⟩) hs hr hp hover hstall
    rw [execRaiseSample_taken hi hs hn, onCurtain_silent (s := s.readEncoder raw) hact rfl]
    rfl
  · exact raiseSample_halts hi hs hn (raiseSampleAct_overTravels (e := (s.readEncoder raw).curtainEnv)
      (w := ⟨s.curtain, []⟩) hs hr hp hover ht)
  · exact raiseSample_halts hi hs hn (raiseSampleAct_stalls (e := (s.readEncoder raw).curtainEnv)
      (w := ⟨s.curtain, []⟩) hs hr hp hlow hk hb hd)
  · have hact := creepSampleAct_held (e := (s.readEncoder raw).curtainEnv) (w := ⟨s.curtain, []⟩) hs hp h
    rw [execCreepSample_taken hi hs hn, onCurtain_silent (s := s.readEncoder raw) hact rfl]
    rfl
  · obtain ⟨hc, hh⟩ := onCurtain_halted (f := creepSampleAct) (s := s.readEncoder raw)
      (creepSampleAct_crept (w := ⟨s.curtain, []⟩) hs hp h)
    refine ⟨_, execCreepSample_taken hi hs hn, keepsLinks_sample _ _ _, ?_⟩
    rw [State.curtainOutputs_live (s := (s.readEncoder raw).onCurtain creepSampleAct) hi, hc]
    exact ⟨rfl, rfl, rfl, rfl, rfl, rfl, hh, rfl, rfl, rfl⟩

end Sys2Proof.Machine
end

section
/-! The five steps of a descent sample (R79, R92 to R97), each by what it does to the curtain record. -/
namespace Sys2Proof.Machine

/-! ## The sample number and the window (R92) -/

theorem advance_sample {d : Descent} (p : Nat) (h : d.sample < 4294967295) : (d.advance p).sample = d.sample + 1 :=
  Nat.min_eq_left h

theorem advance_allowed {d : Descent} (p : Nat) (h : d.sample < 4294967295) :
    (d.advance p).allowed = some (d.allowedAt (d.sample + 1)) :=
  congrArg (fun k => some (d.allowedAt k)) (advance_sample p h)

/-- The descent record at a sample that the envelope covers: advanced, with no run of lag (R92, R93). -/
def Descent.followed (p : Nat) (d : Descent) : Descent := { d.advance p with lagCount := 0 }

theorem advance_window (d : Descent) (p : Nat) {k : Nat} (h : k < 20) : (d.advance p).window[k + 1]? = d.window[k]? :=
  window_push p d.window h

/-! ## The landing test (R79) -/

/-- A sample above the landing window ends the run of low samples. -/
theorem landingTest_above {e : CurtainEnv} {p : Nat} {w : Act Curtain} (h : e.params.landingWindow < p) :
    landingTest e p w = w.map fun c => { c with lowCount := some 0 } := by
  simp only [landingTest, Nat.not_le.mpr h, false_and, if_false]
  exact if_neg (by decide)

/-- The record of a curtain that has landed by position (R79, R80). -/
def Curtain.landedByPosition (e : CurtainEnv) (c : Curtain) : Curtain :=
  { c with
    state := .landed, enteredAt := e.now, reason := .position, raise := none, samplesDue := 0, lowCount := none
    causes := c.causes.heldOnly
    faults := c.faults.add e.now none .limitSwitch
    descent := c.descent.map fun d => { d with retard := false } }

/-- The tenth low sample in a row lands the curtain. -/
theorem landingTest_tenth {e : CurtainEnv} {p : Nat} {w : Act Curtain} (h : p ≤ e.params.landingWindow)
    (hb : e.bottom ≠ some .active) (hl : w.val.lowCount = some 9) :
    (landingTest e p w).val = w.val.landedByPosition e := by
  simp only [landingTest, h, hb, hl, ne_eq, not_false_eq_true, and_self, if_true, Option.getD_some]
  exact congrArg Act.val (if_pos (by decide))

/-! ## The lag test (R93) -/

/-- A sample within the tolerance of the envelope ends the run of lag. -/
theorem lagTest_within {e : CurtainEnv} {p : Nat} {w : Act Curtain} {d : Descent} (hs : w.val.state = .descending)
    (hd : w.val.descent = some d) (hp : p ≤ d.allowed.getD 0 + e.params.lagTolerance)
    (hl : 0 < e.params.lagPersistence) :
    lagTest e p w = w.map fun c => { c with descent := some { d with lagCount := 0 } } := by
  simp only [lagTest, hs, hd, if_neg (Nat.not_lt.mpr hp)]
  exact if_neg (Nat.not_le.mpr hl)

/-- Lag is tested in DESCENDING alone. -/
theorem lagTest_other {e : CurtainEnv} {p : Nat} {w : Act Curtain} (hs : w.val.state ≠ .descending) :
    lagTest e p w = w := by
  unfold lagTest
  split
  · next h _ => exact absurd h hs
  · rfl

/-! ## The speed test (R95, R96) -/

theorem speedNow_eq {d : Descent} {p before : Nat} (hk : 5 ≤ d.sample) (hb : d.window[5]? = some before) :
    d.speedNow p = some (((before : Int) - (p : Int)) * 2) := by simp [Descent.speedNow, hk, hb]

/-- A sample in DESCENDING is over speed below the slow height and above the slow speed (R95). -/
theorem overSpeed_descending {e : CurtainEnv} {d : Descent} {p : Nat} {v : Int} (hv : d.speedNow p = some v) :
    overSpeed e .descending d p = true ↔ p ≤ d.slowHeight ∧ (e.params.slowSpeed : Int) < v := by
  simp [overSpeed, hv]

/-- A retard state that is on is released at three quarters of the slow speed, rounded down (R96). -/
theorem retardReleased_descending {e : CurtainEnv} {d : Descent} {p : Nat} {v : Int} (hv : d.speedNow p = some v)
    (hr : d.retard = true) :
    retardReleased e .descending d p = decide (v ≤ ((e.params.slowSpeed * 3 / 4 : Nat) : Int)) := by
  simp [retardReleased, hv, hr]

/-- The over-speed samples in a row, this one counted (R95). -/
def Descent.overspeedRun (e : CurtainEnv) (x : CurtainState) (p : Nat) (d : Descent) : Nat :=
  if overSpeed e x d p then min 255 (d.overspeedCount + 1) else 0

/-- This sample turns the retard state on (R95). -/
def Descent.turnsRetardOn (e : CurtainEnv) (x : CurtainState) (p : Nat) (d : Descent) : Bool :=
  decide (2 ≤ d.overspeedRun e x p) && !d.retard

/-- The descent record after the speed test. -/
def Descent.speedTested (e : CurtainEnv) (x : CurtainState) (p : Nat) (d : Descent) : Descent :=
  { d with
    speed := if 5 ≤ d.sample then d.speedNow p else d.speed
    overspeedCount := d.overspeedRun e x p
    retard := if d.turnsRetardOn e x p then true else d.retard && !retardReleased e x d p }

/-- The speed test writes the descent record, and latches OVERSPEED as the retard state goes on. -/
theorem speedTest_eq {e : CurtainEnv} {p : Nat} {w : Act Curtain} {d : Descent} (hd : w.val.descent = some d) :
    speedTest e p w =
      if d.turnsRetardOn e w.val.state p then latchFault e .overspeed none
        (w.map fun c => { c with descent := some (d.speedTested e w.val.state p) })
      else w.map fun c => { c with descent := some (d.speedTested e w.val.state p) } := by
  simp only [speedTest, hd]
  rfl

/-- The speed test that does not turn the retard state on writes the descent record alone. -/
theorem speedTest_quiet {e : CurtainEnv} {p : Nat} {w : Act Curtain} {d : Descent} {x : CurtainState}
    (hs : w.val.state = x) (hd : w.val.descent = some d) (ht : d.turnsRetardOn e x p = false) :
    speedTest e p w = w.map fun c => { c with descent := some (d.speedTested e x p) } := by
  subst hs
  rw [speedTest_eq hd, ht]
  rfl

/-- The second over-speed sample in a row turns the retard state on (R95). -/
theorem speedTest_second {e : CurtainEnv} {p : Nat} {w : Act Curtain} {d : Descent} {v : Int}
    (hs : w.val.state = .descending) (hd : w.val.descent = some d) (hv : d.speedNow p = some v)
    (hslow : p ≤ d.slowHeight) (hfast : (e.params.slowSpeed : Int) < v) (hc : d.overspeedCount = 1)
    (hr : d.retard = false) :
    (speedTest e p w).val =
        Curtain.faulted e.now .overspeed { w.val with descent := some (d.speedTested e .descending p) } ∧
      (d.speedTested e .descending p).overspeedCount = 2 ∧ (d.speedTested e .descending p).retard = true := by
  have hrun : d.overspeedRun e .descending p = 2 := by
    rw [Descent.overspeedRun, if_pos ((overSpeed_descending hv).mpr ⟨hslow, hfast⟩), hc]
    rfl
  have hon : d.turnsRetardOn e .descending p = true := by rw [Descent.turnsRetardOn, hrun, hr]; rfl
  rw [speedTest_eq hd, hs, if_pos hon]
  exact ⟨rfl, hrun, if_pos hon⟩

/-- A retard state that is on is not turned on again: it stays on exactly above three quarters of the slow
speed (R96). -/
theorem speedTest_retarding {e : CurtainEnv} {p : Nat} {w : Act Curtain} {d : Descent} {v : Int}
    (hs : w.val.state = .descending) (hd : w.val.descent = some d) (hv : d.speedNow p = some v) (hr : d.retard = true) :
    speedTest e p w = w.map (fun c => { c with descent := some (d.speedTested e .descending p) }) ∧
      (d.speedTested e .descending p).retard = decide (((e.params.slowSpeed * 3 / 4 : Nat) : Int) < v) := by
  have ht : d.turnsRetardOn e .descending p = false := by simp [Descent.turnsRetardOn, hr]
  refine ⟨speedTest_quiet hs hd ht, ?_⟩
  rw [Descent.speedTested, ht, hr, retardReleased_descending hv hr, ← decide_not]
  simp only [Bool.false_eq_true, if_false, Bool.true_and, Int.not_le]

/-- Speed is tested in DESCENDING alone. -/
theorem turnsRetardOn_other {e : CurtainEnv} {x : CurtainState} {p : Nat} {d : Descent} (hx : x ≠ .descending) :
    d.turnsRetardOn e x p = false := by
  have ho : overSpeed e x d p = false := by unfold overSpeed; split <;> simp [hx]
  simp [Descent.turnsRetardOn, Descent.overspeedRun, ho]

theorem speedTested_speed {e : CurtainEnv} {x : CurtainState} {p : Nat} {d : Descent} (hk : 5 ≤ d.sample) :
    (d.speedTested e x p).speed = d.speedNow p := if_pos hk

/-! ## The jam test (R97) -/

/-- A jam is tested in SECONDARY alone. -/
theorem jamTest_other {e : CurtainEnv} {p : Nat} {w : Act Curtain} (hs : w.val.state ≠ .secondary) :
    jamTest e p w = w := by
  unfold jamTest
  split
  · next h _ => exact absurd h hs
  · rfl

/-- A SECONDARY that has fallen too little over 20 samples is JAMMED. -/
theorem jamTest_jams {e : CurtainEnv} {p start before : Nat} {w : Act Curtain} {d : Descent}
    (hs : w.val.state = .secondary) (hd : w.val.descent = some d) (hstart : d.secondaryStart = some start)
    (hb : d.window[20]? = some before) (hk : start + 20 ≤ d.sample) (hp : before < p + e.params.stallDistance) :
    jamTest e p w = changeState e .jammed .jam (latchFault e .jammed none w) := by
  simp only [jamTest, hs, hd, hstart, hb]
  exact if_pos ⟨hk, hp⟩

/-! ## The steps in their order (R92) -/

/-- The curtain record at a sample above the landing window, with its new descent record. -/
def Curtain.fallenTo (d : Descent) (c : Curtain) : Curtain :=
  { c with descent := some d, samplesDue := c.samplesDue - 1, lowCount := some 0 }

/-- Above the landing window a sample goes on to the lag, the speed and the jam. -/
theorem descentSampleAct_above {e : CurtainEnv} {p : Nat} {w : Act Curtain} {d : Descent}
    (hs : w.val.state.falling = true) (hd : w.val.descent = some d) (hp : p = w.val.position e)
    (hw : e.params.landingWindow < p) :
    descentSampleAct e w = jamTest e p (speedTest e p (lagTest e p ⟨w.val.fallenTo (d.advance p), w.out⟩)) := by
  subst hp
  have hl : w.val.state ≠ .landed := fun h => by rw [h] at hs; exact absurd hs (by decide)
  simp only [descentSampleAct, hd, hs, if_true, landingTest_above hw]
  exact if_neg hl

/-- The tenth low sample of a falling curtain lands it, and no test follows. -/
theorem descentSampleAct_lands {e : CurtainEnv} {p : Nat} {w : Act Curtain} {d : Descent}
    (hs : w.val.state.falling = true) (hd : w.val.descent = some d) (hp : p = w.val.position e)
    (hw : p ≤ e.params.landingWindow) (hb : e.bottom ≠ some .active) (hl : w.val.lowCount = some 9) :
    (descentSampleAct e w).val = Curtain.landedByPosition e { w.val with descent := some (d.advance p) } := by
  subst hp
  have hland := landingTest_tenth (w := w.map fun c =>
    { c with descent := some (d.advance (w.val.position e)), samplesDue := c.samplesDue - 1 }) hw hb hl
  simp only [descentSampleAct, hd, hs, if_true]
  exact (congrArg Act.val (if_pos (congrArg Curtain.state hland))).trans hland

/-- A sample in DESCENDING above the landing window and within the envelope comes down to the speed test. -/
theorem descentSampleAct_within {e : CurtainEnv} {p : Nat} {w : Act Curtain} {d : Descent}
    (hs : w.val.state = .descending) (hd : w.val.descent = some d) (hp : p = w.val.position e)
    (hw : e.params.landingWindow < p) (hk : d.sample < 4294967295)
    (ha : p ≤ d.allowedAt (d.sample + 1) + e.params.lagTolerance) (hl : 0 < e.params.lagPersistence) :
    descentSampleAct e w = speedTest e p ⟨w.val.fallenTo (d.followed p), w.out⟩ := by
  have hlag := lagTest_within (e := e) (p := p) (w := ⟨w.val.fallenTo (d.advance p), w.out⟩) (d := d.advance p) hs rfl
    (by rw [advance_allowed p hk]; exact ha) hl
  rw [descentSampleAct_above (by rw [hs]; rfl) hd hp hw, hlag]
  refine jamTest_other ?_
  rw [speedTest_eq rfl]
  have hns : w.val.state ≠ .secondary := by rw [hs]; decide
  split <;> exact hns

/-- A sample in SECONDARY that finds no fall over 20 samples ends in JAMMED. -/
theorem descentSampleAct_jams {e : CurtainEnv} {p start before : Nat} {w : Act Curtain} {d : Descent}
    (hs : w.val.state = .secondary) (hd : w.val.descent = some d) (hp : p = w.val.position e)
    (hw : e.params.landingWindow < p) (hk : d.sample < 4294967295) (hstart : d.secondaryStart = some start)
    (hb : d.window[19]? = some before) (ha : start + 20 ≤ d.sample + 1)
    (hf : before < p + e.params.stallDistance) :
    descentSampleAct e w = changeState e .jammed .jam (latchFault e .jammed none
      ⟨w.val.fallenTo ((d.advance p).speedTested e .secondary p), w.out⟩) := by
  have hlag := lagTest_other (e := e) (p := p) (w := ⟨w.val.fallenTo (d.advance p), w.out⟩)
    (fun h => absurd (hs.symm.trans h) (by decide))
  have hspeed := speedTest_quiet (e := e) (p := p) (w := ⟨w.val.fallenTo (d.advance p), w.out⟩) hs rfl
    (turnsRetardOn_other (by decide))
  rw [descentSampleAct_above (by rw [hs]; rfl) hd hp hw, hlag, hspeed]
  exact jamTest_jams hs rfl hstart ((advance_window d p (by decide)).trans hb)
    (ha.trans_eq (advance_sample p hk).symm) hf

/-! ## On the whole part -/

/-- The tenth low sample in a row lands the curtain (R79, R80), and the landing sets the mark of R6. -/
theorem descentSample_lands {s : State} {raw : BitVec 17} {d : Descent} {p : Nat} (hi : s.inert = false)
    (hs : s.curtain.state.falling = true) (hn : 0 < s.curtain.samplesDue) (hd : s.curtain.descent = some d)
    (hp : p = s.curtain.position (s.readEncoder raw).curtainEnv) (hw : p ≤ s.params.curtain.landingWindow)
    (hb : s.settled bottomLine ≠ some .active) (hl : s.curtain.lowCount = some 9) :
    ∃ t, exec (.descentSample raw) s = .next t ∧ KeepsLinks s t ∧
      t.curtain = Curtain.landedByPosition (s.readEncoder raw).curtainEnv
        { s.curtain with descent := some (d.advance p) } ∧
      t.house = { s.house with demoMark := s.house.demoMark || (s.house.phase.occupied &&
        decide (s.fire.condition = .quiet)) } ∧
      t.fire = s.fire ∧ t.lights = s.lights ∧ t.calls = s.calls := by
  have hc := descentSampleAct_lands (e := (s.readEncoder raw).curtainEnv) (w := ⟨s.curtain, []⟩) hs hd hp hw hb hl
  refine ⟨_, execDescentSample_taken hi hs hn, keepsLinks_sample _ _ _, hc, ?_, rfl, rfl, rfl⟩
  rw [State.onCurtain_house, State.readEncoder_curtain, hc]
  exact demoBookkeeping_landed (fun h => by rw [h] at hs; exact absurd hs (by decide)) _ _

/-- A sample in DESCENDING within the envelope: the curtain is what the speed test makes of it. -/
theorem descentSample_within {s : State} {raw : BitVec 17} {d : Descent} {p : Nat} (hi : s.inert = false)
    (hs : s.curtain.state = .descending) (hn : 0 < s.curtain.samplesDue) (hd : s.curtain.descent = some d)
    (hp : p = s.curtain.position (s.readEncoder raw).curtainEnv) (hw : s.params.curtain.landingWindow < p)
    (hk : d.sample < 4294967295) (ha : p ≤ d.allowedAt (d.sample + 1) + s.params.curtain.lagTolerance)
    (hl : 0 < s.params.curtain.lagPersistence) :
    ∃ t, exec (.descentSample raw) s = .next t ∧ KeepsLinks s t ∧ t.curtainOutputs = t.curtain.outputs ∧
      t.curtain = (speedTest (s.readEncoder raw).curtainEnv p
        ⟨s.curtain.fallenTo (d.followed p), []⟩).val :=
  ⟨_, execDescentSample_taken hi (by rw [hs]; rfl) hn, keepsLinks_sample _ _ _,
    State.curtainOutputs_live (s := (s.readEncoder raw).onCurtain descentSampleAct) hi,
    congrArg Act.val (descentSampleAct_within (w := ⟨s.curtain, []⟩) hs hd hp hw hk ha hl)⟩

/-- The outputs in DESCENDING: RETARD alone, as the descent record has it (Table 4-2, R96). -/
theorem outputs_descending {c : Curtain} {d : Descent} {b : Bool} (hs : c.state = .descending)
    (hd : c.descent = some d) (hr : d.retard = b) : c.outputs = ⟨false, false, false, b⟩ := by
  simp only [Curtain.outputs, hs, Curtain.retardState, hd, hr]

/-- Settles O31: each clause by the step of R92 that decides its sample. -/
theorem descentSampleEndsAndRetards : Obligations.DescentSampleEndsAndRetards := by
  intro s raw d hd p hp hi hn hk
  have hspeed (h4 : 4 ≤ d.sample) (before : Nat) (hb : d.window[4]? = some before) :
      5 ≤ (d.followed p).sample ∧ (d.followed p).speedNow p = some (((before : Int) - (p : Int)) * 2) := by
    have h5 : 5 ≤ (d.followed p).sample := (Nat.succ_le_succ h4).trans_eq (advance_sample p hk).symm
    exact ⟨h5, speedNow_eq h5 ((advance_window d p (by decide)).trans hb)⟩
  refine ⟨fun hs hw hb hl => ?_, fun hs hw ha hl h4 hslow hr hc before hbefore hfast => ?_,
    fun hs hw ha hl h4 hr before hbefore => ?_, fun hs hw start hstart before hbefore hlong hstall => ?_⟩
  · have hf : s.curtain.state.falling = true := by rcases hs with hs | hs | hs <;> rw [hs] <;> rfl
    obtain ⟨t, hx, hl, hc, hrest⟩ := descentSample_lands hi hf hn hd hp hw hb hl
    refine ⟨t, hx, hl, ?_⟩
    rw [hc]
    exact ⟨rfl, rfl, rfl, rfl, rfl, rfl, hrest⟩
  · obtain ⟨h5, hv⟩ := hspeed h4 before hbefore
    obtain ⟨t, hx, -, ho, ht⟩ := descentSample_within hi hs hn hd hp hw hk ha hl
    obtain ⟨htest, hcount, hon⟩ := speedTest_second (e := (s.readEncoder raw).curtainEnv)
      (w := ⟨s.curtain.fallenTo (d.followed p), []⟩) hs rfl hv hslow
      (show (s.params.curtain.slowSpeed : Int) < _ by omega) hc hr
    rw [htest] at ht
    refine ⟨t, hx, ?_⟩
    rw [ho, ht]
    exact ⟨hs, _, rfl, hon, hcount, (speedTested_speed h5).trans hv, rfl, outputs_descending hs rfl hon⟩
  · obtain ⟨h5, hv⟩ := hspeed h4 before hbefore
    obtain ⟨t, hx, hk, ho, ht⟩ := descentSample_within hi hs hn hd hp hw hk ha hl
    obtain ⟨htest, hret⟩ := speedTest_retarding (e := (s.readEncoder raw).curtainEnv)
      (w := ⟨s.curtain.fallenTo (d.followed p), []⟩) hs rfl hv hr
    rw [htest] at ht
    refine ⟨t, hx, hk, ?_⟩
    rw [ho, ht]
    refine ⟨hs, _, rfl, (speedTested_speed h5).trans hv, fun hslow => ?_, fun hfast => ?_, rfl⟩
    · have hoff := hret.trans (decide_eq_false (Int.not_lt.mpr hslow))
      exact ⟨hoff, outputs_descending hs rfl hoff⟩
    · have hon := hret.trans (decide_eq_true hfast)
      exact ⟨hon, outputs_descending hs rfl hon⟩
  · have hc := congrArg Act.val (descentSampleAct_jams (e := (s.readEncoder raw).curtainEnv) (w := ⟨s.curtain, []⟩) hs
      hd hp hw hk hstart hbefore hlong hstall)
    refine ⟨_, execDescentSample_taken hi (by rw [hs]; rfl) hn, ?_⟩
    rw [State.curtainOutputs_live (s := (s.readEncoder raw).onCurtain descentSampleAct) hi, State.onCurtain_curtain,
      State.readEncoder_curtain, hc]
    exact ⟨rfl, rfl, rfl, rfl⟩

end Sys2Proof.Machine
end

section
/-! A sample in DESCENDING above the landing window, by the lag that it finds (R92, R93, R94). -/
namespace Sys2Proof.Machine

/-! ## The lag test in DESCENDING (R93, R94) -/

/-- The descent record with the lag of this sample counted (R93). -/
def Descent.lagged (e : CurtainEnv) (p : Nat) (d : Descent) : Descent :=
  { d with lagCount := if d.allowed.getD 0 + e.params.lagTolerance < p then d.lagCount + 1 else 0 }

/-- The descent record on the move to SECONDARY (R94). -/
def Descent.inSecondary (d : Descent) : Descent :=
  { d with retard := false, overspeedCount := 0, secondaryStart := some d.sample }

/-- The curtain record on the move to SECONDARY, with LAG latched (R94). -/
def Curtain.inSecondary (e : CurtainEnv) (c : Curtain) : Curtain :=
  { c with
    state := .secondary, enteredAt := e.now, reason := .lag, raise := none
    faults := { c.faults with lag := some e.now }
    descent := c.descent.map Descent.inSecondary }

theorem toSecondary_val (e : CurtainEnv) (w : Act Curtain) : (toSecondary e w).val = w.val.inSecondary e := by
  obtain ⟨c, out⟩ := w
  cases hd : c.descent <;> simp [toSecondary, changeState, Act.map, latchFault, FaultSet.add, Curtain.retardOff,
    Curtain.inSecondary, Descent.inSecondary, hd]

section
variable {e : CurtainEnv} {p : Nat} {w : Act Curtain} {d : Descent}

theorem lagTest_descending (hs : w.val.state = .descending) (hd : w.val.descent = some d) :
    lagTest e p w =
      if e.params.lagPersistence ≤ (d.lagged e p).lagCount then
        toSecondary e (w.map fun c => { c with descent := some (d.lagged e p) })
      else w.map fun c => { c with descent := some (d.lagged e p) } := by
  simp only [lagTest, hs, hd]
  rfl

/-- The count of lag at the persistence moves the curtain to SECONDARY (R94). -/
theorem lagTest_persists (hs : w.val.state = .descending) (hd : w.val.descent = some d)
    (h : e.params.lagPersistence ≤ (d.lagged e p).lagCount) :
    (lagTest e p w).val = Curtain.inSecondary e { w.val with descent := some (d.lagged e p) } := by
  rw [lagTest_descending hs hd, if_pos h, toSecondary_val]
  rfl

/-- A count of lag below the persistence is recorded and nothing else. -/
theorem lagTest_counts (hs : w.val.state = .descending) (hd : w.val.descent = some d)
    (h : (d.lagged e p).lagCount < e.params.lagPersistence) :
    lagTest e p w = w.map fun c => { c with descent := some (d.lagged e p) } := by
  rw [lagTest_descending hs hd, if_neg (Nat.not_le.mpr h)]

/-! ## The two tests that follow (R95 to R97) -/

/-- The speed test leaves the curtain state and the causes, and latches no fault but OVERSPEED (R95). -/
theorem speedTest_keeps (hd : w.val.descent = some d) :
    (speedTest e p w).val = { w.val with
      descent := some (d.speedTested e w.val.state p)
      faults := if d.turnsRetardOn e w.val.state p then w.val.faults.add e.now none .overspeed else w.val.faults } := by
  rw [speedTest_eq hd]
  split <;> rfl

theorem overspeedRun_other {x : CurtainState} (hx : x ≠ .descending) : d.overspeedRun e x p = 0 := by
  refine if_neg fun h => ?_
  unfold overSpeed at h
  split at h <;> simp [hx] at h

/-- Outside DESCENDING the speed test leaves no run of over-speed samples, and a retard state that is off (R95). -/
theorem speedTested_other {x : CurtainState} (hx : x ≠ .descending) (hr : d.retard = false) :
    (d.speedTested e x p).overspeedCount = 0 ∧ (d.speedTested e x p).retard = false :=
  ⟨overspeedRun_other hx, by simp [Descent.speedTested, turnsRetardOn_other hx, hr]⟩

/-- A SECONDARY of less than 20 samples is not tested for a jam (R97). -/
theorem jamTest_early {start : Nat} (hd : w.val.descent = some d) (hstart : d.secondaryStart = some start)
    (hk : d.sample < start + 20) : jamTest e p w = w := by
  unfold jamTest
  split
  · next hs hd' =>
    obtain rfl := Option.some.inj (hd.symm.trans hd')
    rw [hstart]
    split
    · next h _ =>
      obtain rfl := Option.some.inj h
      exact if_neg fun h => absurd h.1 (Nat.not_le.mpr hk)
    · rfl
  · rfl

/-! ## The steps in their order (R92) -/

/-- A sample whose lag count is below the persistence leaves the curtain in DESCENDING. -/
theorem descentSampleAct_counts (hs : w.val.state = .descending) (hd : w.val.descent = some d)
    (hp : p = w.val.position e) (hw : e.params.landingWindow < p)
    (hlag : ((d.advance p).lagged e p).lagCount < e.params.lagPersistence) :
    descentSampleAct e w = speedTest e p ⟨w.val.fallenTo ((d.advance p).lagged e p), w.out⟩ := by
  have htest := lagTest_counts (e := e) (p := p) (w := ⟨w.val.fallenTo (d.advance p), w.out⟩) hs rfl hlag
  rw [descentSampleAct_above (by rw [hs]; rfl) hd hp hw, htest]
  refine jamTest_other fun h => ?_
  rw [speedTest_keeps rfl] at h
  exact absurd (hs.symm.trans h) (by decide)

/-- A sample whose lag count comes to the persistence leaves the curtain in SECONDARY: it is not over speed, and too
short in SECONDARY to be a jam. -/
theorem descentSampleAct_persists (hs : w.val.state = .descending) (hd : w.val.descent = some d)
    (hp : p = w.val.position e) (hw : e.params.landingWindow < p)
    (hlag : e.params.lagPersistence ≤ ((d.advance p).lagged e p).lagCount) :
    (descentSampleAct e w).val = { (w.val.fallenTo ((d.advance p).lagged e p)).inSecondary e with
      descent := some (((d.advance p).lagged e p).inSecondary.speedTested e .secondary p) } := by
  have htest := lagTest_persists (e := e) (p := p) (w := ⟨w.val.fallenTo (d.advance p), w.out⟩) hs rfl hlag
  have hdesc : (lagTest e p ⟨w.val.fallenTo (d.advance p), w.out⟩).val.descent =
      some ((d.advance p).lagged e p).inSecondary := by rw [htest]; rfl
  have hspeed := speedTest_keeps (e := e) (p := p) hdesc
  rw [descentSampleAct_above (by rw [hs]; rfl) hd hp hw,
    jamTest_early (congrArg Curtain.descent hspeed) rfl (Nat.lt_add_of_pos_right (by decide)), hspeed, htest]
  simp only [Curtain.inSecondary, turnsRetardOn_other (show CurtainState.secondary ≠ .descending by decide)]
  rfl

end

/-- A curtain that an act leaves falling has neither landed nor been stowed, so the house condition record stands
(R6). -/
theorem onCurtain_house_falling {f : CurtainEnv → Act Curtain → Act Curtain} {s : State}
    (h : (f s.curtainEnv ⟨s.curtain, []⟩).val.state.falling = true) : (s.onCurtain f).house = s.house :=
  onCurtain_house_moving (fun k => by rw [k] at h; cases h) (fun k => by rw [k] at h; cases h)

/-- Settles O30: the lag count of the sample decides whether the curtain stays in DESCENDING or moves to SECONDARY. -/
theorem descentSampleCountsLag : Obligations.DescentSampleCountsLag := by
  intro s raw d hd p hp hi hs hn hk hw
  have hallowed := advance_allowed p hk
  have hsample := advance_sample p hk
  have hcount : ((d.advance p).lagged (s.readEncoder raw).curtainEnv p).lagCount =
      if d.allowedAt (d.sample + 1) + s.params.curtain.lagTolerance < p then d.lagCount + 1 else 0 := by
    rw [Descent.lagged, hallowed]
    rfl
  refine ⟨_, execDescentSample_taken hi (by rw [hs]; rfl) hn, keepsLinks_sample _ _ _, ?_⟩
  rcases Nat.lt_or_ge ((d.advance p).lagged (s.readEncoder raw).curtainEnv p).lagCount
    s.params.curtain.lagPersistence with hlag | hlag
  · have hc := (congrArg Act.val (descentSampleAct_counts (e := (s.readEncoder raw).curtainEnv) (w := ⟨s.curtain, []⟩)
      hs hd hp hw hlag)).trans (speedTest_keeps rfl)
    have hhouse := onCurtain_house_falling (f := descentSampleAct) (s := s.readEncoder raw)
      (congrArg CurtainState.falling ((congrArg Curtain.state hc).trans hs))
    rw [State.onCurtain_curtain, State.readEncoder_curtain, hc]
    refine ⟨_, rfl, hsample, hallowed, rfl, rfl, rfl, hcount, fun h => absurd h (Nat.not_le.mpr hlag),
      fun _ => ⟨hs, ?_⟩, hhouse, rfl, rfl, rfl⟩
    dsimp only
    split <;> rfl
  · have hc := descentSampleAct_persists (e := (s.readEncoder raw).curtainEnv) (w := ⟨s.curtain, []⟩) hs hd hp hw hlag
    have hhouse := onCurtain_house_falling (f := descentSampleAct) (s := s.readEncoder raw)
      (congrArg (fun c : Curtain => c.state.falling) hc)
    obtain ⟨hover, hret⟩ := speedTested_other (e := (s.readEncoder raw).curtainEnv) (p := p)
      (d := ((d.advance p).lagged (s.readEncoder raw).curtainEnv p).inSecondary)
      (show CurtainState.secondary ≠ .descending by decide) rfl
    rw [State.onCurtain_curtain, State.readEncoder_curtain, hc]
    exact ⟨_, rfl, hsample, hallowed, rfl, rfl, rfl, hcount,
      fun _ => ⟨rfl, rfl, rfl, congrArg some hsample, hret, hover⟩, fun h => absurd h (Nat.not_lt.mpr hlag),
      hhouse, rfl, rfl, rfl⟩

end Sys2Proof.Machine
end

section
/-! The envelope of a descent (R90, R91). -/
namespace Sys2Proof.Machine

/-! ## Division rounded up -/

theorem ceilDiv_eq (q b : Nat) : ceilDiv q b = q ⌈/⌉ b := rfl

theorem ceilDiv_of_dvd {q b : Nat} (hb : 0 < b) (h : b ∣ q) : ceilDiv q b = q / b := by
  obtain ⟨k, rfl⟩ := h
  rw [ceilDiv, Nat.add_sub_assoc hb, Nat.mul_add_div hb, Nat.div_eq_of_lt (Nat.sub_lt hb Nat.one_pos),
    Nat.mul_div_cancel_left k hb, Nat.add_zero]

theorem ceilDiv_of_not_dvd {q b : Nat} (hb : 0 < b) (h : ¬ b ∣ q) : ceilDiv q b = q / b + 1 := by
  have hr : 0 < q % b := Nat.pos_of_ne_zero (mt Nat.dvd_of_mod_eq_zero h)
  have hlt : q % b < b := Nat.mod_lt q hb
  have hsplit : q + b - 1 = b * (q / b + 1) + (q % b - 1) := by
    have hq := Nat.div_add_mod q b
    rw [Nat.mul_add_one]
    omega
  rw [ceilDiv, hsplit, Nat.mul_add_div hb, Nat.div_eq_of_lt (Nat.lt_of_le_of_lt (Nat.sub_le ..) hlt), Nat.add_zero]

/-- An allowance scaled to a part of its distance and rounded up is no longer than the allowance. -/
theorem ceilDiv_scaled_le {a part whole : Nat} (hw : 0 < whole) (h : part ≤ whole) :
    ceilDiv (a * part) whole ≤ a := by
  rw [ceilDiv_eq, ceilDiv_le_iff_le_mul hw, Nat.mul_comm whole]
  exact Nat.mul_le_mul_left a h

/-! ## The two legs (R90) -/

theorem fastLegOf_above {Tf T S p0 : Nat} (h : S < p0) :
    fastLegOf Tf T S p0 = max 1 (ceilDiv (Tf * (p0 - S)) (T - S)) := if_pos h

theorem fastLegOf_below {Tf T S p0 : Nat} (h : p0 ≤ S) : fastLegOf Tf T S p0 = 0 := if_neg (Nat.not_lt.mpr h)

theorem fastLegOf_pos_iff (Tf T S p0 : Nat) : 0 < fastLegOf Tf T S p0 ↔ S < p0 := by
  rcases Nat.lt_or_ge S p0 with h | h
  · rw [fastLegOf_above h]
    exact iff_of_true (Nat.le_max_left 1 _) h
  · rw [fastLegOf_below h]
    exact iff_of_false (Nat.lt_irrefl 0) (Nat.not_lt.mpr h)

theorem fastLegOf_le {Tf T S p0 : Nat} (hS : S < T) (hp : p0 ≤ T) : fastLegOf Tf T S p0 ≤ max 1 Tf := by
  rcases Nat.lt_or_ge S p0 with h | h
  · rw [fastLegOf_above h]
    exact max_le_max_left 1 (ceilDiv_scaled_le (Nat.sub_pos_of_lt hS) (Nat.sub_le_sub_right hp S))
  · rw [fastLegOf_below h]
    exact Nat.zero_le _

theorem slowLegOf_above {Ts S s0 : Nat} (hs : s0 ≤ S) (h : 0 < s0) : slowLegOf Ts S s0 = ceilDiv (Ts * s0) S :=
  if_pos ⟨Nat.lt_of_lt_of_le h hs, h⟩

theorem slowLegOf_floor (Ts S : Nat) : slowLegOf Ts S 0 = 0 := if_neg fun h => Nat.lt_irrefl 0 h.2

theorem slowLegOf_le {Ts S s0 : Nat} (hs : s0 ≤ S) : slowLegOf Ts S s0 ≤ Ts := by
  rcases Nat.eq_zero_or_pos s0 with rfl | h
  · rw [slowLegOf_floor]
    exact Nat.zero_le _
  · rw [slowLegOf_above hs h]
    exact ceilDiv_scaled_le (Nat.lt_of_lt_of_le h hs) hs

/-! ## One leg of the envelope -/

/-- The allowed position `k` samples into a leg of `n` that falls by `drop` from `top` (R91). -/
def legAt (top drop n k : Nat) : Nat := top - drop * k / n

theorem legAt_antitone (top drop n : Nat) : Antitone (legAt top drop n) := fun _ _ h =>
  Nat.sub_le_sub_left (Nat.div_le_div_right (Nat.mul_le_mul_left drop h)) top

theorem legAt_le_top (top drop n k : Nat) : legAt top drop n k ≤ top := Nat.sub_le _ _

theorem legAt_end {top drop n : Nat} (h : 0 < n) : legAt top drop n n = top - drop := by
  rw [legAt, Nat.mul_div_cancel drop h]

/-! ## The rows of the envelope (R91) -/

section
variable {d : Descent} {k : Nat}

theorem allowedAt_fast (h : k ≤ d.fastLeg) :
    d.allowedAt k = legAt d.p0 (d.p0 - d.slowHeight) d.fastLeg k := if_pos h

theorem allowedAt_slow (hf : d.fastLeg < k) (h : k ≤ d.fastLeg + d.slowLeg) :
    d.allowedAt k = legAt d.s0 d.s0 d.slowLeg (k - d.fastLeg) := (if_neg (Nat.not_le.mpr hf)).trans (if_pos h)

theorem allowedAt_after (h : d.fastLeg + d.slowLeg < k) : d.allowedAt k = 0 :=
  (if_neg (by omega)).trans (if_neg (Nat.not_le.mpr h))

theorem allowedAt_past_fast (h : d.fastLeg < k) : d.allowedAt k ≤ d.s0 := by
  rcases Nat.lt_or_ge (d.fastLeg + d.slowLeg) k with ha | hs
  · rw [allowedAt_after ha]
    exact Nat.zero_le _
  · rw [allowedAt_slow h hs]
    exact legAt_le_top ..

theorem allowedAt_slow_end (h : 0 < d.slowLeg) : d.allowedAt (d.fastLeg + d.slowLeg) = 0 := by
  rw [allowedAt_slow (Nat.lt_add_of_pos_right h) (Nat.le_refl _), Nat.add_sub_cancel_left, legAt_end h, Nat.sub_self]

end

/-- The two legs of a descent join: a fast leg is there only above the slow height, and the slow leg starts at the
lower of the start position and the slow height (R90). -/
def Descent.joined (d : Descent) : Prop := (0 < d.fastLeg ↔ d.slowHeight < d.p0) ∧ d.s0 = min d.p0 d.slowHeight

theorem makeDescent_joined (e : CurtainEnv) (position : Nat) : (makeDescent e position).joined :=
  ⟨fastLegOf_pos_iff .., rfl⟩

section
variable {d : Descent} (h : d.joined)
include h

theorem Descent.joined.fast_end (hf : 0 < d.fastLeg) : d.allowedAt d.fastLeg = d.slowHeight := by
  have := h.1.mp hf
  rw [allowedAt_fast (Nat.le_refl _), legAt_end hf]
  omega

theorem Descent.joined.slowHeight_le_fast {k : Nat} (hk : 1 ≤ k) (hf : k ≤ d.fastLeg) :
    d.slowHeight ≤ d.allowedAt k :=
  calc d.slowHeight = d.allowedAt d.fastLeg := (h.fast_end (Nat.lt_of_lt_of_le hk hf)).symm
    _ = legAt d.p0 (d.p0 - d.slowHeight) d.fastLeg d.fastLeg := allowedAt_fast (Nat.le_refl _)
    _ ≤ legAt d.p0 (d.p0 - d.slowHeight) d.fastLeg k := legAt_antitone _ _ _ hf
    _ = d.allowedAt k := (allowedAt_fast hf).symm

/-- The envelope never rises: on each leg by its line, from the fast leg to what follows across the slow height. -/
theorem Descent.joined.allowedAt_le {j k : Nat} (hj : 1 ≤ j) (hjk : j ≤ k) : d.allowedAt k ≤ d.allowedAt j := by
  rcases Nat.lt_or_ge (d.fastLeg + d.slowLeg) k with hafter | hk
  · rw [allowedAt_after hafter]
    exact Nat.zero_le _
  · rcases Nat.lt_or_ge d.fastLeg k with hslow | hfast
    · rcases Nat.lt_or_ge d.fastLeg j with hjslow | hjfast
      · rw [allowedAt_slow hslow hk, allowedAt_slow hjslow (hjk.trans hk)]
        exact legAt_antitone _ _ _ (Nat.sub_le_sub_right hjk _)
      · calc d.allowedAt k ≤ d.s0 := allowedAt_past_fast hslow
          _ ≤ d.slowHeight := h.2.trans_le (Nat.min_le_right _ _)
          _ ≤ d.allowedAt j := h.slowHeight_le_fast hj hjfast
    · rw [allowedAt_fast hfast, allowedAt_fast (hjk.trans hfast)]
      exact legAt_antitone _ _ _ hjk

theorem Descent.joined.allowedAt_le_p0 (k : Nat) : d.allowedAt k ≤ d.p0 := by
  rcases Nat.lt_or_ge d.fastLeg k with hslow | hfast
  · exact (allowedAt_past_fast hslow).trans (h.2.trans_le (Nat.min_le_left _ _))
  · rw [allowedAt_fast hfast]
    exact legAt_le_top ..

end

/-- Settles O32: the rows of the envelope are lines that meet at the slow height, and each leg is its allowance scaled
and rounded up. -/
theorem envelopeOfADescent : Obligations.EnvelopeOfADescent := by
  intro e position d hS hd
  have hj : d.joined := hd ▸ makeDescent_joined e position
  have hfast : d.fastLeg = fastLegOf d.fastAllowance d.travel d.slowHeight d.p0 := by rw [hd]; rfl
  have hslow : d.slowLeg = slowLegOf d.slowAllowance d.slowHeight d.s0 := by rw [hd]; rfl
  have hST : d.slowHeight < d.travel := by rw [hd]; exact hS
  have hp0 : d.p0 ≤ d.travel := by rw [hd]; exact Nat.min_le_right _ _
  have hs0 : d.s0 ≤ d.slowHeight := hj.2.trans_le (Nat.min_le_right _ _)
  have hdist : 0 < d.travel - d.slowHeight := Nat.sub_pos_of_lt hST
  refine ⟨fun k _ => allowedAt_fast, fun k => allowedAt_slow, fun k => allowedAt_after, hj.fast_end,
    allowedAt_slow_end, fun j k => hj.allowedAt_le, fun k _ => hj.allowedAt_le_p0 k, ?_, ?_, hj.1, ?_,
    fun q hp hq hdvd => ?_, fun q hp hq hndvd => ?_, fun q hs hq => ?_, fun hs => ?_⟩
  · rw [hfast]
    exact fastLegOf_le hST hp0
  · rw [hslow]
    exact slowLegOf_le hs0
  · rw [hd]
    exact ⟨rfl, rfl, rfl, rfl, rfl, rfl, rfl, rfl, rfl, rfl⟩
  · rw [hfast, fastLegOf_above hp, ← hq, ceilDiv_of_dvd hdist hdvd]
  · rw [hfast, fastLegOf_above hp, ← hq, ceilDiv_of_not_dvd hdist hndvd]
    exact Nat.max_eq_right (Nat.le_add_left 1 _)
  · have hpos : 0 < d.slowHeight := Nat.lt_of_lt_of_le hs hs0
    rw [hslow, slowLegOf_above hs0 hs, ← hq]
    split
    · next hdvd => exact ceilDiv_of_dvd hpos hdvd
    · next hndvd => exact ceilDiv_of_not_dvd hpos hndvd
  · rw [hslow, hs, slowLegOf_floor]

end Sys2Proof.Machine
end

section
/-! The curtain, timing, option and built-in call records of the Configuration Store (R87, R181 to R183). -/
namespace Sys2Proof.Machine

/-- CLAMPED exactly when a quantity was changed (R174, R181). -/
theorem stored_clamped {α : Type} [DecidableEq α] (a given : α) (n : Nat) (i : Option Nat) (fs : List Nat) :
    stored (decide (a ≠ given)) n i fs = ⟨if a = given then .done else .clamped, .config n i fs⟩ := by
  by_cases h : a = given <;> simp [stored, doneOrClamped, h]

/-- A record on port H, in a phase that takes configuration, whose write touches the parameters alone: they are
written and the reply is all that joins a port (R181). -/
theorem configure_params {i : Instr} {write : Option (State → State × Answer)} {f : State → State × Answer} {s : State}
    {params : Params} {a : Answer} (hp : s.house.phase = .unconfigured ∨ s.house.phase = .dark)
    (ht : takeable .house (requestFrame i) s = true) (hk : (requestFrame i).kind = 0x01) (hs : shapeOk i = true)
    (hw : write = some f) (hf : f s = ({ s with params := params }, a)) :
    takeRequest .house i (configure write) s = .next (State.withReply .house 0x01 a { s with params := params }) := by
  rw [takeRequest_silent ht (by rw [hk]; rfl) (by rw [hk]; rfl) hs ((configure_open hp hw).trans hf) rfl, hk]

/-! ## CURTAIN (R87, Table 5-1) -/

theorem writeCurtain_eq (given : CurtainParams) (s : State) :
    writeCurtain given s = ({ s with params := { s.params with curtain := given.clamped } },
      ⟨if given.clamped = given then .done else .clamped, .config 1 none given.clamped.fields⟩) :=
  congrArg (_, ·) (stored_clamped ..)

/-! ## TIMING (R182, Table 11-2) -/

theorem writeTiming_eq (given : TimingRecord) (s : State) :
    writeTiming given s = ({ s with params := s.params.withTiming given.clamped },
      ⟨if given.clamped = given then .done else .clamped, .config 7 none given.clamped.fields⟩) :=
  congrArg (_, ·) (stored_clamped ..)

/-! ## BUILT-IN CALL (R183) -/

/-- The parameters with the record of one built-in call written. -/
def Params.withBuiltIn (b : BuiltIn) (c : BuiltInConfig) (p : Params) : Params :=
  match b with
  | .evacuation => { p with evacuationCall := c }
  | .staffAlert => { p with staffAlertCall := c }

theorem writeBuiltIn_eq (b : BuiltIn) (message length gap : Nat) (s : State) :
    writeBuiltIn b message length gap s =
      ({ s with params := s.params.withBuiltIn b (builtInClamped message length gap) },
        ⟨if builtInClamped message length gap = ⟨message, length, gap⟩ then .done else .clamped,
          .config 6 (some (callNumber (builtInCall b)))
            [message, (builtInClamped message length gap).length, (builtInClamped message length gap).gap]⟩) := by
  cases b <;> exact congrArg (_, ·) (stored_clamped ..)

theorem configureBuiltInCall_taken {s : State} {b : BuiltIn} {n m : Byte} {l g : Half}
    (hp : s.house.phase = .unconfigured ∨ s.house.phase = .dark) (hn : builtInNamed n = some b) (hm : m ≠ 0)
    (ht : takeable .house (requestFrame (.configureBuiltInCall .house n m l g)) s = true) :
    exec (.configureBuiltInCall .house n m l g) s = .next (State.withReply .house 0x01
      (writeBuiltIn b m.toNat l.toNat g.toNat s).2
      { s with params := s.params.withBuiltIn b (builtInClamped m.toNat l.toNat g.toNat) }) := by
  refine configure_params (f := writeBuiltIn b m.toNat l.toNat g.toNat) hp ht rfl rfl ?_ ?_
  · simp only [hn, if_neg hm]
  · rw [writeBuiltIn_eq]

/-! ## OPTION (R182) -/

theorem configureOption_taken {s : State} {on : Bool} {d : Byte}
    (hp : s.house.phase = .unconfigured ∨ s.house.phase = .dark) (hd : d = if on then 1 else 0)
    (ht : takeable .house ⟨0x01, [9, d]⟩ s = true) :
    exec (.configureOption .house d) s = .next (State.withReply .house 0x01 (done (.config 9 none [d.toNat]))
      { s with params := { s.params with demoRequired := on } }) := by
  refine configure_params (i := .configureOption .house d) hp ht rfl ?_ rfl ?_
  · show isFlag d = true
    rw [hd, isFlag_of_bool]
  · rw [hd, flagOf_of_bool, flag_toNat]
    rfl

/-- Settles O48: each record is written as clamped, and the reply says whether the clamps changed it. -/
theorem parameterRecordsAreClamped : Obligations.ParameterRecordsAreClamped := by
  refine ⟨?_, fun s hp => ⟨?_, fun on d hd ht => configureOption_taken hp hd ht, ?_⟩⟩
  · rintro s T C S Tf Ts B D Vs W stall creep hp ht given rfl stored rfl
    exact configure_params hp ht rfl rfl rfl (writeCurtain_eq _ s)
  · intro v d n e p r a b c f hpark hrestore ht given hgiven t hclamped
    obtain rfl : t = given.clamped := by rw [hclamped, hgiven]; rfl
    refine configure_params hp ht rfl rfl ?_ (writeTiming_eq given s)
    rw [identifier_of_lt (i := ⟨p.toNat, hpark⟩) rfl, identifier_of_lt (i := ⟨r.toNat, hrestore⟩) rfl, hgiven]
  · rintro m l g hm r rfl
    refine ⟨fun ht => ?_, fun ht => ?_⟩
    · rw [configureBuiltInCall_taken (b := .evacuation) hp rfl hm ht, writeBuiltIn_eq]
      rfl
    · rw [configureBuiltInCall_taken (b := .staffAlert) hp rfl hm ht, writeBuiltIn_eq]
      rfl

end Sys2Proof.Machine
end

section
/-! SUPPORT. The ways in which the lighting record is written (R102 to R128), and that each keeps the law of the
authority (R118) and the ranges of the levels and the fades (R101, R105, R107). -/
namespace Sys2Proof.Machine

/-- What a circuit record writes: the base level and the fade stay (R102). -/
def Circuit.configured (slot : Nat) (lit masked : Bool) (park : Nat) (c : Circuit) : Circuit :=
  { c with slot := slot, escapeLit := lit, masked := masked, park := park }

/-- What a preset record writes (R107). -/
def Lights.withPreset (n : Fin 8) (p : Preset) (l : Lights) : Lights := { l with presets := l.presets.set n p }

/-- One write of the lighting record. A command leaves that record or makes such writes, one after another; the only one
that makes the console the holder of the authority tests the phase, the link and the fire condition first (R116). -/
inductive Lights.Write : Lights → Lights → Prop
  | startFade (l : Lights) (now slot : Nat) {target : Nat} (i : Fin 48) (h : target ≤ 255) :
      Write l (l.startFade now slot target i)
  | startPreset (l : Lights) (now slot : Nat) (n : Fin 8) : Write l (l.startPreset now slot n)
  | holdFades (l : Lights) : Write l l.holdFades
  | stepFade (l : Lights) (i : Fin 48) : Write l (l.stepFade i)
  | tick (l : Lights) : Write l l.tick
  | panicOn (l : Lights) : Write l { l with panic := true }
  | panicOff (l : Lights) (e : LightEnv) : Write l (panicOff e l)
  | frame (l : Lights) (levels : Vector Nat 48) : Write l { l with dimmer := some levels }
  | blackout (l : Lights) (r : Reading) : Write l { l with blackout := r }
  | circuit (l : Lights) (i : Fin 48) (slot : Nat) (lit masked : Bool) {park : Nat} (h : park ≤ 255) :
      Write l { l with circuits := l.circuits.set i (l.circuits[i].configured slot lit masked park) }
  | slot (l : Lights) (i : Fin 4) (code : Nat) : Write l { l with slots := l.slots.set i code }
  | preset (l : Lights) (n : Fin 8) (levels : Vector Byte 48) (slot : Nat) (used : Bool) :
      Write l (l.withPreset n ⟨vmap (·.toNat) levels, slot, used⟩)
  | phase (l : Lights) (e : LightEnv) (phase : Phase) (stop : Option StopRecord) :
      Write l (lightsPhaseHandoff phase stop e ⟨l, []⟩).val
  | fire (l : Lights) (e : LightEnv) (new : Condition) : Write l (lightsFireHandoff new e ⟨l, []⟩).val
  | console (l : Lights) (e : LightEnv) (present : Bool) : Write l (consoleLinkChange present e ⟨l, []⟩).val
  | take (l : Lights) (e : LightEnv) (hp : l.phaseSeen.consolePhase = true) (hi : l.takeInterlock = []) :
      Write l (changeAuthority e .console .take ⟨l, []⟩).val
  | giveBack (l : Lights) (e : LightEnv) (cause : AuthorityCause) :
      Write l (changeAuthority e .house cause ⟨l, []⟩).val
  | powerOn (l : Lights) : Write l Lights.powerOn

/-! ## The law of the authority (R118) -/

/-- What the law of the authority reads. -/
def Lights.held (l : Lights) : Authority × Phase × Bool × Condition :=
  (l.authority, l.phaseSeen, l.consoleSeen, l.fireSeen)

theorem Lights.authorityLawful.congr {l m : Lights} (h : l.authorityLawful) (hm : m.held = l.held) :
    m.authorityLawful := by
  simp only [Lights.held, Prod.mk.injEq] at hm
  obtain ⟨h1, h2, h3, h4⟩ := hm
  unfold Lights.authorityLawful
  rw [h1, h2, h3, h4]
  exact h

/-- With the house the law asks for nothing. -/
theorem authorityLawful_house {l : Lights} (h : l.authority = .house) : l.authorityLawful :=
  fun k => absurd (h.symm.trans k) (by decide)

theorem takeInterlock_nil {l : Lights} (h : l.takeInterlock = []) : l.consoleSeen = true ∧ l.fireSeen ≠ .evacuate := by
  unfold Lights.takeInterlock at h
  rw [failing_cons, failing_cons] at h
  cases hc : l.consoleSeen <;> cases hf : l.fireSeen <;> simp [hc, hf] at h ⊢

theorem authorityLawful_take {e : LightEnv} {l : Lights} (hp : l.phaseSeen.consolePhase = true)
    (hi : l.takeInterlock = []) : (changeAuthority e .console .take ⟨l, []⟩).val.authorityLawful := by
  have hl : l.authorityLawful := fun _ => ⟨hp, takeInterlock_nil hi⟩
  unfold changeAuthority
  split
  · exact hl
  · exact fun _ => ⟨hp, takeInterlock_nil hi⟩

/-- A phase in which the console may not hold the authority takes it back; another leaves the rest as it was (R118). -/
theorem authorityLawful_phase {l : Lights} (h : l.authorityLawful) (e : LightEnv) (phase : Phase)
    (stop : Option StopRecord) : (lightsPhaseHandoff phase stop e ⟨l, []⟩).val.authorityLawful := by
  unfold lightsPhaseHandoff
  dsimp only
  split
  · next hp => split <;> exact fun hc => ⟨hp, (h hc).2⟩
  · exact authorityLawful_house (changeAuthority_house _ _ _)

/-- EVACUATE takes the authority back (R118). -/
theorem authorityLawful_fire {l : Lights} (h : l.authorityLawful) (e : LightEnv) (new : Condition) :
    (lightsFireHandoff new e ⟨l, []⟩).val.authorityLawful := by
  unfold lightsFireHandoff
  dsimp only
  split
  · exact authorityLawful_house (changeAuthority_house _ _ _)
  · next hn => split <;> exact fun hc => ⟨(h hc).1, (h hc).2.1, hn⟩

/-- A console that is LOST gives the authority back (R119). -/
theorem authorityLawful_console {l : Lights} (h : l.authorityLawful) (e : LightEnv) (present : Bool) :
    (consoleLinkChange present e ⟨l, []⟩).val.authorityLawful := by
  cases present with
  | true =>
    rw [consoleLinkChange_back]
    exact fun hc => ⟨(h hc).1, rfl, (h hc).2.2⟩
  | false =>
    cases ha : l.authority with
    | house =>
      rw [consoleLinkChange_house (w := ⟨l, []⟩) ha]
      exact authorityLawful_house ha
    | console =>
      rw [consoleLinkChange_lost (w := ⟨l, []⟩) ha]
      exact authorityLawful_house rfl

theorem stepFade_held (i : Fin 48) (l : Lights) : (l.stepFade i).held = l.held := by
  unfold Lights.stepFade; split <;> rfl

theorem panicOff_held (e : LightEnv) (l : Lights) : (panicOff e l).held = l.held := by
  unfold panicOff; dsimp only; split <;> rfl

theorem Lights.Write.authorityLawful {l m : Lights} (w : Write l m) (h : l.authorityLawful) : m.authorityLawful := by
  cases w with
  | startFade | startPreset | holdFades | tick | panicOn | frame | blackout | circuit | slot | preset =>
    exact h.congr rfl
  | stepFade => exact h.congr (stepFade_held _ _)
  | panicOff => exact h.congr (panicOff_held _ _)
  | phase => exact authorityLawful_phase h _ _ _
  | fire => exact authorityLawful_fire h _ _
  | console => exact authorityLawful_console h _ _
  | take _ hp hi => exact authorityLawful_take hp hi
  | giveBack => exact authorityLawful_house (changeAuthority_house _ _ _)
  | powerOn => exact authorityLawful_house rfl

end Sys2Proof.Machine
end

section
/-! SUPPORT. The levels and the fades in their ranges (R101, R105, R107), kept by every write of the lighting record. -/
namespace Sys2Proof.Machine

/-! ## The line of a fade (R105) -/

/-- The share of a way taken at a part of its duration is at most the way. -/
theorem share_le {n e d : Nat} (h : e ≤ d) : n * e / d ≤ n :=
  Nat.div_le_of_le_mul (by rw [Nat.mul_comm d]; exact Nat.mul_le_mul_left n h)

/-- A fade that rises. -/
theorem fadeLevel_up (a n : Nat) {d e : Nat} (h : e ≤ d) :
    (a : Int) + Int.tdiv (((a + n : Nat) - (a : Int)) * e) d = (a + n * e / d : Nat) ∧ n * e / d ≤ n := by
  refine ⟨?_, share_le h⟩
  rw [show ((a + n : Nat) : Int) - a = n by omega, ← Int.natCast_mul, ← Int.ofNat_tdiv, ← Int.natCast_add]

/-- A fade that falls. -/
theorem fadeLevel_down (a n : Nat) {d e : Nat} (h : e ≤ d) :
    ((a + n : Nat) : Int) + Int.tdiv (((a : Int) - (a + n : Nat)) * e) d = (a + (n - n * e / d) : Nat) ∧
      n * e / d ≤ n := by
  have hn := share_le (n := n) h
  refine ⟨?_, hn⟩
  rw [show (a : Int) - (a + n : Nat) = -n by omega, Int.neg_mul, Int.neg_tdiv, ← Int.natCast_mul, ← Int.ofNat_tdiv]
  omega

/-- The level of a fade under way stands on its line, between its ends. -/
theorem fadeLevel_line (start target : Nat) {duration elapsed : Nat} (h : elapsed ≤ duration) :
    (fadeLevel start target duration elapsed : Int) =
        start + Int.tdiv (((target : Int) - start) * elapsed) duration ∧
      min start target ≤ fadeLevel start target duration elapsed ∧
      fadeLevel start target duration elapsed ≤ max start target := by
  unfold fadeLevel
  rcases Nat.le_total start target with hs | hs
  · obtain ⟨n, rfl⟩ := Nat.exists_eq_add_of_le hs
    obtain ⟨hv, hn⟩ := fadeLevel_up start n h
    rw [hv, Int.toNat_natCast]
    generalize n * elapsed / duration = share at hn
    omega
  · obtain ⟨n, rfl⟩ := Nat.exists_eq_add_of_le hs
    obtain ⟨hv, hn⟩ := fadeLevel_down target n h
    rw [hv, Int.toNat_natCast]
    generalize n * elapsed / duration = share at hn
    omega

/-- At the end of its duration a fade stands at its target. -/
theorem fadeLevel_end (start target : Nat) {duration : Nat} (h : 0 < duration) :
    fadeLevel start target duration duration = target := by
  unfold fadeLevel
  rw [Int.mul_tdiv_cancel _ (by omega)]
  omega

/-! ## The ranges of one circuit (Tables 6-1 and 6-3) -/

theorem Circuit.lawful.startFade {c : Circuit} (h : c.lawful) (now slot duration : Nat) {target : Nat}
    (ht : target ≤ 255) : (c.startFade now slot duration target).lawful := by
  obtain ⟨hb, hp, -⟩ := h
  unfold Circuit.startFade
  split
  · exact ⟨ht, hp, fun f hf => by cases hf⟩
  · next hd =>
    refine ⟨hb, hp, fun f hf => ?_⟩
    cases hf
    exact ⟨hb, ht, Nat.pos_of_ne_zero hd⟩

theorem Circuit.lawful.held {c : Circuit} (h : c.lawful) : ({ c with fade := none } : Circuit).lawful :=
  ⟨h.1, h.2.1, fun f hf => by cases hf⟩

/-- A step stays between the ends of the fade, and leaves a fade only while its duration is not over. -/
theorem Circuit.lawful.step {c : Circuit} (h : c.lawful) : c.step.lawful := by
  unfold Circuit.step
  split
  · exact h
  · next f hf =>
    obtain ⟨-, hp, hfades⟩ := h
    obtain ⟨h1, h2, h3⟩ := hfades f hf
    obtain ⟨-, -, hmax⟩ := fadeLevel_line f.start f.target (elapsed := f.elapsed + 1) h3
    refine ⟨hmax.trans (max_le h1 h2), hp, fun g hg => ?_⟩
    dsimp only at hg
    split at hg <;> cases hg
    next hd => exact ⟨h1, h2, Nat.lt_of_not_le hd⟩

theorem Circuit.lawful.heading {c : Circuit} (h : c.lawful) : c.heading ≤ 255 := by
  obtain ⟨hb, -, hfades⟩ := h
  unfold Circuit.heading
  split
  · next f hf => exact (hfades f hf).2.1
  · exact hb

theorem Circuit.lawful.configured {c : Circuit} (h : c.lawful) (slot : Nat) (lit masked : Bool) {park : Nat}
    (hp : park ≤ 255) : (c.configured slot lit masked park).lawful := ⟨h.1, hp, h.2.2⟩

/-! ## The ranges of the lighting record -/

/-- Every level of a preset lies in 0 to 255 (R107). -/
def Preset.lawful (p : Preset) : Prop := ∀ x ∈ p.levels.toList, x ≤ 255

/-- The ranges that the lighting record holds. -/
def Lights.inRange (l : Lights) : Prop := (∀ i : Fin 48, l.circuits[i].lawful) ∧ ∀ n : Fin 8, l.presets[n].lawful

theorem forall_mem_toList {α : Type} {n : Nat} (v : Vector α n) (P : α → Prop) :
    (∀ x ∈ v.toList, P x) ↔ ∀ i : Fin n, P v[i] := by
  refine ⟨fun h i => h _ (by simp), fun h x hx => ?_⟩
  obtain ⟨k, hk, rfl⟩ := List.getElem_of_mem hx
  exact h ⟨k, by simpa using hk⟩

theorem levelsLawful_iff (s : State) : s.levelsLawful ↔ s.lights.inRange ∧ s.params.escapeMin ≤ 255 := by
  unfold State.levelsLawful Lights.inRange Preset.lawful
  rw [forall_mem_toList, forall_mem_toList s.lights.presets fun p => ∀ x ∈ p.levels.toList, x ≤ 255, and_assoc]

/-- A table with one entry written. -/
theorem vector_set_get {α : Type} {n : Nat} (v : Vector α n) (i j : Fin n) (x : α) :
    (v.set i x)[j] = if j = i then x else v[j] := by
  rw [Fin.getElem_fin, Vector.getElem_set]
  exact if_congr (by rw [Fin.ext_iff, eq_comm]) rfl rfl

/-- What holds of every entry of a table and of a new one holds of the table with the new one written. -/
theorem vector_set_forall {α : Type} {n : Nat} {v : Vector α n} {P : α → Prop} (h : ∀ j : Fin n, P v[j]) (i : Fin n)
    {x : α} (hx : P x) (j : Fin n) : P (v.set i x)[j] := by
  rw [vector_set_get]
  split
  · exact hx
  · exact h j

theorem Lights.inRange.setCircuit {l : Lights} (h : l.inRange) (i : Fin 48) {c : Circuit} (hc : c.lawful) :
    ({ l with circuits := l.circuits.set i c } : Lights).inRange := ⟨vector_set_forall h.1 i hc, h.2⟩

theorem Lights.inRange.startAll {l : Lights} (h : l.inRange) (now slot : Nat) {target : Nat → Circuit → Nat}
    (ht : ∀ i : Fin 48, target i l.circuits[i] ≤ 255) : (l.startAll now slot target).inRange := by
  refine ⟨fun i => ?_, h.2⟩
  rw [startAll_circuit]
  exact (h.1 i).startFade _ _ _ (ht i)

theorem Lights.inRange.startPreset {l : Lights} (h : l.inRange) (now slot : Nat) (n : Fin 8) :
    (l.startPreset now slot n).inRange :=
  h.startAll now slot fun i => by
    rw [show l.presets[n].levels.toList.getD i 0 = l.presets[n].levels[i] by simp]
    exact (forall_mem_toList _ _).mp (h.2 n) i

theorem Lights.inRange.restoreFades {l : Lights} (h : l.inRange) (e : LightEnv) {target : Circuit → Nat}
    (ht : ∀ i : Fin 48, target l.circuits[i] ≤ 255) : (l.restoreFades e target).inRange := by
  refine ⟨fun i => ?_, h.2⟩
  have full : ({ l.circuits[i] with base := 255, fade := none } : Circuit).lawful :=
    ⟨Nat.le_refl 255, (h.1 i).2.1, fun f hf => by cases hf⟩
  rw [show (l.restoreFades e target).circuits[i] = _ from vmap_get _ l.circuits i]
  exact full.startFade _ _ _ (ht i)

theorem Lights.inRange.changeAuthority {w : Act Lights} (h : w.val.inRange) (e : LightEnv) (a : Authority)
    (cause : AuthorityCause) : (changeAuthority e a cause w).val.inRange := by
  unfold Machine.changeAuthority; split <;> exact h

theorem Lights.inRange.phase {l : Lights} (h : l.inRange) (e : LightEnv) (phase : Phase) (stop : Option StopRecord) :
    (lightsPhaseHandoff phase stop e ⟨l, []⟩).val.inRange := by
  have seen : ({ l with phaseSeen := phase, stopSeen := stop } : Lights).inRange := h
  unfold lightsPhaseHandoff
  dsimp only
  split
  · split
    · exact seen.startPreset _ _ _
    · exact seen
  · refine Lights.inRange.changeAuthority ?_ _ _ _
    split
    · exact seen.startPreset _ _ _
    · exact seen

theorem Lights.inRange.fire {l : Lights} (h : l.inRange) (e : LightEnv) (new : Condition) :
    (lightsFireHandoff new e ⟨l, []⟩).val.inRange := by
  have seen : ({ l with fireSeen := new } : Lights).inRange := h
  unfold lightsFireHandoff
  dsimp only
  split
  · refine Lights.inRange.changeAuthority ?_ _ _ _
    split
    · exact seen.restoreFades e fun _ => Nat.le_refl 255
    · exact seen
  · split
    · exact seen.restoreFades e fun _ => Nat.le_refl 255
    · exact seen

theorem Lights.inRange.console {l : Lights} (h : l.inRange) (e : LightEnv) (present : Bool) :
    (consoleLinkChange present e ⟨l, []⟩).val.inRange := by
  unfold consoleLinkChange
  dsimp only
  split
  · have back : (Lights.setAuthority e.now .house .consoleLost { l with consoleSeen := present }).inRange := h
    exact back.startAll _ _ fun i => (h.1 i).2.1
  · exact h

theorem Lights.inRange.panicOff {l : Lights} (h : l.inRange) (e : LightEnv) : (panicOff e l).inRange := by
  have off : ({ l with panic := false } : Lights).inRange := h
  unfold Machine.panicOff
  dsimp only
  split
  · exact off
  · exact off.restoreFades e fun i => (h.1 i).heading

theorem Lights.inRange.stepFade {l : Lights} (h : l.inRange) (i : Fin 48) : (l.stepFade i).inRange := by
  unfold Lights.stepFade
  split
  · exact h.setCircuit i (h.1 i).step
  · exact h

theorem Lights.inRange.holdFades {l : Lights} (h : l.inRange) : l.holdFades.inRange := by
  refine ⟨fun i => ?_, h.2⟩
  rw [show l.holdFades.circuits[i] = _ from vmap_get _ l.circuits i]
  exact (h.1 i).held

theorem Lights.inRange.withPreset {l : Lights} (h : l.inRange) (n : Fin 8) (levels : Vector Byte 48) (slot : Nat)
    (used : Bool) : (l.withPreset n ⟨vmap (·.toNat) levels, slot, used⟩).inRange := by
  refine ⟨h.1, vector_set_forall h.2 n ((forall_mem_toList _ _).mpr fun i => ?_)⟩
  rw [vmap_get]
  exact Nat.le_of_lt_succ levels[i].isLt

theorem Lights.inRange.powerOn : Lights.powerOn.inRange := ((levelsLawful_iff _).mp (powerOn_levelsLawful Pins.rest)).1

theorem Lights.Write.inRange {l m : Lights} (w : Write l m) (h : l.inRange) : m.inRange := by
  cases w with
  | tick | panicOn | frame | blackout | slot => exact h
  | startFade _ _ i ht => exact h.setCircuit i ((h.1 i).startFade _ _ _ ht)
  | startPreset => exact h.startPreset _ _ _
  | holdFades => exact h.holdFades
  | stepFade => exact h.stepFade _
  | panicOff => exact h.panicOff _
  | circuit i _ _ _ hp => exact h.setCircuit i ((h.1 i).configured _ _ _ hp)
  | preset => exact h.withPreset _ _ _ _
  | phase => exact h.phase _ _ _
  | fire => exact h.fire _ _
  | console => exact h.console _ _
  | take | giveBack => exact Lights.inRange.changeAuthority (w := ⟨l, []⟩) h _ _ _
  | powerOn => exact .powerOn

end Sys2Proof.Machine
end

section
/-! Every command leaves the lighting record or makes writes of it, one after another, and keeps the escape minimum in
its range: from the acts of the blocks up to the step (R101, R105, R107, R118). -/
namespace Sys2Proof.Machine

/-! ## Writes of the lighting record within a state -/

/-- A law that every write keeps is kept by writes one after another. -/
theorem Lights.law_of_writes {Law : Lights → Prop} (hw : ∀ l m, Write l m → Law l → Law m) {l m : Lights}
    (h : Relation.ReflTransGen Write l m) (hl : Law l) : Law m := by
  induction h with
  | refl => exact hl
  | tail _ w ih => exact hw _ _ w ih

/-- The lighting record of `t` comes of that of `s` by its writes, and the escape minimum is in its range in `t` when it
is in `s` (Table 11-2). -/
structure Relit (s t : State) : Prop where
  writes : Relation.ReflTransGen Lights.Write s.lights t.lights
  escape : s.params.escapeMin ≤ 255 → t.params.escapeMin ≤ 255

section
variable {s t u : State}

theorem Relit.same (hl : t.lights = s.lights) (hp : t.params = s.params) : Relit s t :=
  ⟨hl ▸ .refl, hp ▸ id⟩

theorem Relit.wrote (w : Lights.Write s.lights t.lights) (hp : t.params = s.params) : Relit s t :=
  ⟨.single w, hp ▸ id⟩

/-- What comes after a change of other records. -/
theorem Relit.after (k : Relit t u) (hl : t.lights = s.lights) (hp : t.params = s.params) : Relit s u :=
  ⟨hl ▸ k.writes, hp ▸ k.escape⟩

/-- A change of other records that comes after. -/
theorem Relit.followed (h : Relit s t) (hl : u.lights = t.lights) (hp : u.params = t.params) : Relit s u :=
  ⟨hl ▸ h.writes, hp ▸ h.escape⟩

theorem Relit.trans (h : Relit s t) (k : Relit t u) : Relit s u := ⟨h.writes.trans k.writes, k.escape ∘ h.escape⟩

end

theorem Relit.refl (s : State) : Relit s s := .same rfl rfl

theorem relit_onLights {f : LightEnv → Act Lights → Act Lights} {s : State}
    (w : Lights.Write s.lights (f s.lightEnv ⟨s.lights, []⟩).val) : Relit s (s.onLights f) := .wrote w rfl

theorem relit_withLights {l : Lights} {s : State} (w : Lights.Write s.lights l) : Relit s (s.withLights l) :=
  .wrote w rfl

/-- States run through one after another. -/
theorem relit_foldl {α : Type} {f : State → α → State} (h : ∀ s x, Relit s (f s x)) (xs : List α) (s : State) :
    Relit s (xs.foldl f s) := by
  induction xs generalizing s with
  | nil => exact .refl s
  | cons x xs ih => exact (h s x).trans (ih _)

/-! ## A change of the house condition record (R4) -/

theorem relit_handRecord (old : House) (cause : ClearanceCause) (s : State) : Relit s (handRecord old cause s) := by
  obtain ⟨⟨⟨-, -, -, -, hp, -, -⟩, -⟩, -⟩ := quietly_handRecord old cause s
  by_cases h : old.phase = s.house.phase ∧ old.stop = s.house.stop
  · exact .same (handRecord_samePhase h.1 h.2).1 hp
  · exact .wrote ((handRecord_newPhase (cause := cause) h).1 ▸ .phase _ _ _ _) hp

theorem relit_completeChange {handOff : State → State} (h : ∀ t, Relit t (handOff t)) (old : House)
    (cause : ClearanceCause) (s : State) : Relit s (completeChange old cause handOff s) := by
  rw [completeChange_eq]
  refine (relit_handRecord old cause s).trans ?_
  unfold handShowMode
  dsimp only
  split
  · exact .refl _
  · split
    · exact .same rfl rfl
    · exact (h _).after rfl rfl

/-! ## The fire condition and the zones (R118, R122) -/

theorem relit_stopShow (s : State) : Relit s (stopShow s) :=
  (relit_completeChange .refl s.house .cleared { s with house := s.house.evacuated }).after rfl rfl

theorem relit_handCondition (new : Condition) (d : Bool) (s : State) : Relit s (handCondition new d s) := by
  have told : Relit (s.onCurtain fun e => curtainFireHandoff e d (some new))
      ((s.onCurtain fun e => curtainFireHandoff e d (some new)).onLights (lightsFireHandoff new)) :=
    relit_onLights (.fire _ _ new)
  exact (told.after (s := s) rfl rfl).followed rfl rfl

theorem relit_changeCondition (new : Condition) (cause : FireCause) (s : State) :
    Relit s (changeCondition new cause s) := by
  have hr : Relit s (conditionRecorded new cause s) := by
    rw [conditionRecorded_others]; exact .same rfl rfl
  have hc := hr.trans ((relit_handCondition new (s.fire.demandFor new)
    ((conditionRecorded new cause s).post
      [fireMail (conditionRecorded new cause s).fire s.fire.condition cause])).after rfl rfl)
  rw [changeCondition_eq]
  dsimp only
  split
  · exact hc.trans (relit_stopShow _)
  · exact hc

theorem relit_evaluateDemand (s : State) : Relit s (evaluateDemand s) := by
  unfold evaluateDemand
  dsimp only
  split
  · exact .refl s
  · exact .same rfl rfl

theorem relit_climbLadder (entering : List ZoneId) (s : State) : Relit s (climbLadder entering s) := by
  unfold climbLadder
  split
  · exact relit_changeCondition _ _ s
  · exact relit_evaluateDemand s

theorem relit_zoneEvent (f : ZoneEvent) (s : State) : Relit s (zoneEvent f s) := by
  rcases zoneEvent_cases f s with ⟨-, k⟩ | ⟨-, k⟩ <;> rw [k]
  · exact .same rfl rfl
  · exact (relit_climbLadder _ _).after rfl rfl

theorem relit_changeHouse (cause : ClearanceCause) (new : House) (s : State) : Relit s (changeHouse cause new s) :=
  (relit_completeChange (relit_zoneEvent promoteAll) s.house cause { s with house := new }).after rfl rfl

theorem changed_relit (cause : ClearanceCause) (new : House) (b : Body) (s : State) :
    Relit s (changed cause new b s).1 := relit_changeHouse cause new s

/-! ## Requests -/

theorem takeRequest_relit {p : Port} {i : Instr} {block : State → State × Answer} {s t : State}
    (ht : takeRequest p i block s = .next t) (hb : Relit s (block s).1) : Relit s t := by
  rcases takeRequest_cases p i block s with ⟨-, k⟩ | ⟨-, -, k⟩ | ⟨-, -, -, k⟩ | ⟨-, -, -, -, k⟩ | ⟨-, -, -, -, k⟩ <;>
    rw [k] at ht <;> cases ht
  · exact .refl s
  · exact .same rfl rfl
  · exact .same rfl rfl
  · exact .same rfl rfl
  · exact hb.followed rfl rfl

section
variable {block : State → State × Answer} {s : State}

theorem inPhase_relit {accepted : Bool} (hb : accepted = true → Relit s (block s).1) :
    Relit s (inPhase accepted block s).1 := by
  unfold inPhase
  split
  · next ha => exact hb ha
  · exact .refl s

theorem interlocked_relit {failed : List Interlock} (hb : failed = [] → Relit s (block s).1) :
    Relit s (interlocked failed block s).1 := by
  unfold interlocked
  split
  · next he => exact hb (by simpa using he)
  · exact .refl s

theorem withAuthority_relit {p : Port} (hb : Relit s (block s).1) : Relit s (withAuthority p block s).1 := by
  unfold withAuthority
  split
  · exact hb
  · exact .refl s

theorem report_relit {b : Option Body} : Relit s (report b s).1 := by
  unfold report; split <;> exact .refl s

theorem onZone_relit {zone : Byte} {allowed : ZoneId → Bool} {block : ZoneId → State → State × Answer}
    (hb : ∀ z, Relit s (block z s).1) : Relit s (onZone zone allowed block s).1 := by
  unfold onZone
  split
  · split
    · exact hb _
    · exact .refl s
  · exact .refl s

theorem configure_relit {write : Option (State → State × Answer)} (hw : ∀ f, write = some f → Relit s (f s).1) :
    Relit s (configure write s).1 := by
  unfold configure
  split
  · split
    · next f => exact hw f rfl
    · exact .refl s
  · exact .refl s

end

section
variable (s : State)

/-! ### The Performance Unit -/

theorem openPerformance_relit : Relit s (openPerformanceBlock s).1 :=
  inPhase_relit fun _ =>
    (relit_changeHouse .cleared s.house.opened { s with fire := s.fire.clearSuppressed }).after rfl rfl

theorem enterDark_relit : Relit s (enterDark s) :=
  (relit_completeChange (relit_zoneEvent promoteAll) s.house .cleared
    (({ s with house := s.house.darkened } : State).onCalls darkCancelAct)).after rfl rfl

theorem endAct_relit (final : Bool) : Relit s (endActBlock final s).1 := by
  refine inPhase_relit fun _ => ?_
  split
  · exact changed_relit _ _ _ s
  · split
    · exact .refl s
    · exact changed_relit _ _ _ s

theorem resume_relit : Relit s (resumeBlock s).1 := by
  unfold resumeBlock
  split
  · split <;> exact interlocked_relit fun _ => changed_relit _ _ _ s
  · exact .refl s

theorem delayUp_relit (n : Nat) : Relit s (delayUpBlock n s).1 := by
  refine inPhase_relit fun _ => ?_
  dsimp only
  split
  · exact .refl s
  · exact relit_changeHouse _ _ s

/-! ### The Fire Monitor -/

theorem zoneReport_relit (pairs : List (Byte × Byte)) : Relit s (zoneReportBlock pairs s).1 := by
  unfold zoneReportBlock
  split
  · exact .refl s
  · next ps _ =>
    have arrival (t : State) (q : ZoneId × Reading) : Relit t (zoneEvent (zoneArrival q.1 q.2) t) :=
      relit_zoneEvent _ t
    exact relit_foldl arrival ps s

theorem resetZoneBlock_relit (z : ZoneId) : Relit s (resetZoneBlock z s).1 := by
  unfold resetZoneBlock
  dsimp only
  split
  · split
    · exact .refl s
    · exact (relit_evaluateDemand (s.onZones (leaveAlarm z)).1).after rfl rfl
  · exact .refl s

theorem isolateBlock_relit (z : ZoneId) : Relit s (isolateBlock z s).1 := by
  unfold isolateBlock
  dsimp only
  split
  case h_4 | h_5 => dsimp only; exact relit_zoneEvent _ s
  all_goals exact .refl s

theorem restoreZoneBlock_relit (z : ZoneId) : Relit s (restoreZoneBlock z s).1 := by
  unfold restoreZoneBlock
  split
  · exact relit_zoneEvent _ s
  · exact .refl s

theorem acknowledgeBlock_relit (k : Desk) (zone : Option ZoneId) : Relit s (acknowledgeBlock k zone s).1 := by
  cases zone <;> exact .same rfl rfl

theorem acknowledgeNamed_relit (k : Desk) (zone : Byte) : Relit s (acknowledgeNamed k zone s).1 := by
  unfold acknowledgeNamed
  split
  · exact acknowledgeBlock_relit s k none
  · exact onZone_relit fun z => acknowledgeBlock_relit s k (some z)

theorem evacuateBlock_relit (cause : FireCause) : Relit s (evacuateBlock cause s).1 := by
  unfold evacuateBlock
  split
  · exact .refl s
  · exact relit_changeCondition .evacuate cause s

theorem returnToQuiet_relit (required other : Condition) (cause : FireCause) :
    Relit s (returnToQuiet required other cause s).1 := by
  unfold returnToQuiet
  split_ifs
  · exact .refl s
  · exact .refl s
  · exact relit_changeCondition .quiet cause s
  · exact .refl s

/-! ### The curtain and the Call Scheduler, which leave the lights -/

theorem raiseHoldBlock_relit : Relit s (raiseHoldBlock s).1 := by
  unfold raiseHoldBlock
  split
  case h_1 | h_2 | h_3 => exact interlocked_relit fun _ => .same rfl rfl
  all_goals exact .same rfl rfl

theorem resetManualBlock_relit : Relit s (resetManualBlock s).1 := by
  unfold resetManualBlock
  split_ifs <;> exact .same rfl rfl

theorem createCallBlock_relit (k : Desk) (o : CallOrder) : Relit s (createCallBlock k o s).1 := by
  unfold createCallBlock
  split_ifs
  · exact .refl s
  · exact .refl s
  · exact .refl s
  · split <;> exact .same rfl rfl

theorem cancelCallBlock_relit (d : Byte) : Relit s (cancelCallBlock d s).1 := by
  unfold cancelCallBlock
  split
  · exact .refl s
  · split_ifs <;> exact .same rfl rfl

theorem zoneGateBlock_relit (z : Byte) (muted held : Bool) : Relit s (zoneGateBlock z muted held s).1 := by
  unfold zoneGateBlock
  split <;> exact .same rfl rfl

theorem resetChannelBlock_relit (c : Byte) : Relit s (resetChannelBlock c s).1 := by
  unfold resetChannelBlock
  split
  · exact .refl s
  · split_ifs <;> exact .same rfl rfl

/-! ### The lights -/

/-- Every pair of a LIGHTS command carries a byte for its level. -/
theorem lightPairs_level {ps : List (Byte × Byte)} {xs : List (Fin 48 × Nat)} (h : lightPairs ps = some xs) :
    ∀ x ∈ xs, x.2 ≤ 255 := by
  induction ps generalizing xs with
  | nil => cases h; exact fun _ hx => absurd hx List.not_mem_nil
  | cons q qs ih =>
    unfold lightPairs at h
    split at h <;> cases h
    next hq =>
    intro x hx
    rcases List.mem_cons.mp hx with rfl | hx
    · exact Nat.le_of_lt_succ q.2.isLt
    · exact ih hq x hx

theorem startPairs_writes (now : Nat) (slot : Option (Fin 4)) {xs : List (Fin 48 × Nat)} (h : ∀ x ∈ xs, x.2 ≤ 255)
    (l : Lights) : Relation.ReflTransGen Lights.Write l (l.startPairs now slot xs) := by
  unfold Lights.startPairs
  induction xs generalizing l with
  | nil => exact .refl
  | cons x xs ih =>
    obtain ⟨hx, hxs⟩ := List.forall_mem_cons.mp h
    exact .head (.startFade l now _ x.1 hx) (ih hxs _)

theorem lightsBlock_relit (slot : Byte) (pairs : List (Byte × Byte)) : Relit s (lightsBlock slot pairs s).1 := by
  unfold lightsBlock
  split
  · next hx => exact ⟨startPairs_writes _ _ (lightPairs_level hx) _, id⟩
  · exact .refl s

theorem goPresetBlock_relit (p slot : Byte) : Relit s (goPresetBlock p slot s).1 := by
  unfold goPresetBlock
  split
  · split_ifs
    · exact relit_withLights (.startPreset _ _ _ _)
    · exact .refl s
  · exact .refl s

theorem takeLightsBlock_relit : Relit s (takeLightsBlock s).1 :=
  inPhase_relit fun hp => interlocked_relit fun hi => .wrote (.take _ s.lightEnv hp hi) rfl

theorem panicOffBlock_relit : Relit s (panicOffBlock s).1 := by
  unfold panicOffBlock
  dsimp only
  split
  · exact relit_withLights (.panicOff _ _)
  · exact .same rfl rfl

/-! ### The Configuration Store -/

theorem writeZone_relit (z : ZoneId) (c : ZoneClass) (a : Area) (r d : Bool) : Relit s (writeZone z c a r d s).1 := by
  refine Relit.after (t := s.zoneWritten z c a r d) ?_ rfl rfl
  show Relit (s.zoneWritten z c a r d) (afterZoneWrite z s.fire.zones[z] (s.zoneWritten z c a r d))
  rcases afterZoneWrite_cases z s.fire.zones[z] (s.zoneWritten z c a r d) with
    ⟨-, k⟩ | ⟨-, -, -, cause, -, k⟩ | ⟨-, -, k⟩ <;> rw [k]
  · exact .refl _
  · exact relit_changeCondition _ _ _
  · exact relit_evaluateDemand _

/-- A parameter record that keeps the escape minimum. -/
theorem relit_params {p : Params} (h : p.escapeMin = s.params.escapeMin) : Relit s { s with params := p } :=
  ⟨.refl, fun k => h ▸ k⟩

theorem writeTiming_relit {given : TimingRecord} (h : given.escapeMin ≤ 255) : Relit s (writeTiming given s).1 :=
  ⟨.refl, fun _ => h⟩

/-! ## Events -/

theorem sampleCurtain_relit (raw : BitVec 17) (due : Curtain → Bool) (f : CurtainEnv → Act Curtain → Act Curtain) :
    Relit s (sampleCurtain raw due f s) := by
  unfold sampleCurtain
  dsimp only
  split <;> exact .same rfl rfl

theorem completePresence_relit (p : Port) (r : PortRecord) (v : Option Nat) : Relit s (completePresence p r v s) := by
  unfold completePresence
  refine Relit.after (t := (s.setPort p { r with changedAt := some s.clock }).post [linkMail p r.present v]) ?_ rfl rfl
  unfold handPresence
  split
  · exact relit_onLights (.console _ _ _)
  · split
    · exact .same rfl rfl
    · exact relit_zoneEvent _ _
  · exact .refl _
  · exact .refl _

theorem markPresent_relit (p : Port) : Relit s (markPresent p s) := by
  unfold markPresent
  dsimp only
  split
  · exact .same rfl rfl
  · exact completePresence_relit s _ _ _

theorem receiveValid_relit (p : Port) (f : Frame) : Relit s (receiveValid p f s) :=
  (markPresent_relit s p).followed rfl rfl

theorem receiveOne_relit (p : Port) (b : Byte) : Relit s (receiveOne p s b) := by
  unfold receiveOne
  dsimp only
  split
  · exact (receiveValid_relit _ p _).after rfl rfl
  · exact .same rfl rfl

theorem linkLoss_relit (p : Port) : Relit s (linkLoss p s) := by
  unfold linkLoss
  dsimp only
  split
  · exact completePresence_relit s _ _ _
  · exact .refl s

theorem handLine_relit (l : Line) (old : Option Reading) (new : Reading) : Relit s (handLine l old new s) := by
  unfold handLine
  split_ifs
  · exact relit_zoneEvent _ s
  · exact .same rfl rfl
  · exact .same rfl rfl
  · exact .wrote (.blackout _ _) rfl
  · exact .same rfl rfl
  · exact .same rfl rfl

theorem settleLine_relit (l : Line) : Relit s (settleLine l s) := by
  unfold settleLine
  dsimp only
  split
  · exact (handLine_relit _ _ _ _).after rfl rfl
  · exact .refl s

theorem takeBaselines_relit : Relit s (takeBaselines s) := by
  rw [takeBaselines_eq]
  have hz : Relit s ((List.finRange 8).foldl zoneLineBaseline s.linesTaken) :=
    (relit_foldl (f := zoneLineBaseline) (fun t _ => relit_zoneEvent _ t) _ s.linesTaken).after rfl rfl
  generalize (List.finRange 8).foldl zoneLineBaseline s.linesTaken = t at hz ⊢
  exact hz.trans (.wrote (.blackout t.lights _) rfl)

/-- A part powered on or held in reset has the power-on record (R101, R184). -/
theorem relit_atPowerOn {t : State} (hl : t.lights = Lights.powerOn) (hp : t.params = Params.default) : Relit s t :=
  ⟨hl ▸ .single (.powerOn _), fun _ => hp ▸ show 64 ≤ 255 by decide⟩

theorem poweredOn_relit : Relit s (poweredOn s) := by
  have check (t : State) (ch : Channel) : Relit t (checkPlayer t ch) := by
    unfold checkPlayer
    split <;> exact .same rfl rfl
  exact .trans (relit_atPowerOn s rfl rfl)
    (relit_foldl check [.a, .b] { State.atPowerOn s.pins with pending := s.pending })

end

/-! ## Every command -/

section
variable {s t : State}

theorem relit_of_ite {c : Prop} [Decidable c] {a b : State}
    (ht : (if c then .next a else .next b : Answered) = .next t) (ha : Relit s a) (hb : Relit s b) : Relit s t := by
  split at ht <;> cases ht
  · exact ha
  · exact hb

theorem callEvent_relit {f : CallEnv → Act Calls → Act Calls} (ht : callEvent f s = .next t) : Relit s t :=
  relit_of_ite ht (.refl s) (.same rfl rfl)

theorem execUnknownRequest_relit {p : Port} {k : Byte} {payload : List Byte}
    (ht : execUnknownRequest p k payload s = .next t) : Relit s t := by
  unfold execUnknownRequest at ht
  split at ht
  · cases ht; exact .refl s
  · refine takeRequest_relit ht ?_
    split
    · unfold unknownRecord; split <;> exact .refl s
    · exact .refl s

/-- Everything that a command can do to the lighting record. -/
theorem exec_relit (i : Instr) (ht : exec i s = .next t) : Relit s t := by
  have request {p : Port} {block : State → State × Answer} (ht : takeRequest p i block s = .next t)
      (hb : Relit s (block s).1) : Relit s t := takeRequest_relit ht hb
  have configured {p : Port} {write : Option (State → State × Answer)}
      (ht : takeRequest p i (configure write) s = .next t) (hw : ∀ f, write = some f → Relit s (f s).1) : Relit s t :=
    takeRequest_relit ht (configure_relit hw)
  cases i with
  | powerOn => cases ht; exact poweredOn_relit s
  | resetAsserted => cases ht; exact relit_atPowerOn s rfl rfl
  | startUpSettleEnd => exact relit_of_ite ht (takeBaselines_relit s) (.refl s)
  | lineRawChange => exact relit_of_ite ht (.same rfl rfl) (.same rfl rfl)
  | settleExpiry l => exact relit_of_ite ht (.refl s) (settleLine_relit s l)
  | receiveFrame p => exact relit_of_ite ht (.refl s) (relit_foldl (fun u b => receiveOne_relit u p b) _ s)
  | supervisionExpiry p => exact relit_of_ite ht (.refl s) (linkLoss_relit s p)
  | frameAbandoned | frameSent | lengthAbove120 => exact relit_of_ite ht (.refl s) (.same rfl rfl)
  | unknownRequest => exact execUnknownRequest_relit ht
  | configureZone =>
    refine configured ht fun f hf => ?_
    split at hf <;> cases hf
    exact writeZone_relit s _ _ _ _ _
  | configureCurtain | configureOption => exact configured ht (fun f hf => by cases hf; exact relit_params s rfl)
  | configureCircuit =>
    refine configured ht fun f hf => ?_
    split at hf <;> cases hf
    exact .wrote (.circuit _ _ _ _ _ (Nat.le_of_lt_succ (BitVec.isLt _))) rfl
  | configureSlot =>
    refine configured ht fun f hf => ?_
    split at hf <;> cases hf
    exact .wrote (.slot _ _ _) rfl
  | configurePreset =>
    refine configured ht fun f hf => ?_
    split at hf <;> cases hf
    exact .wrote (.preset _ _ _ _ _) rfl
  | configurePagingZone | configureLine =>
    refine configured ht fun f hf => ?_
    split at hf <;> cases hf
    exact .same rfl rfl
  | configureBuiltInCall =>
    refine configured ht fun f hf => ?_
    split at hf
    · split at hf <;> cases hf
      next b _ _ => exact relit_params s (by cases b <;> rfl)
    · cases hf
  | configureTiming =>
    refine configured ht fun f hf => ?_
    split at hf <;> cases hf
    exact writeTiming_relit s (Nat.le_of_lt_succ (BitVec.isLt _))
  | configurationComplete | showStop | endPerformance | giveClearance | showModeOn | showModeOff =>
    exact request ht (inPhase_relit fun _ => changed_relit _ _ _ s)
  | setPlannedUp | extendInterval => exact request ht (inPhase_relit fun _ => relit_changeHouse _ _ s)
  | withdrawClearance => exact request ht (changed_relit _ _ _ s)
  | openHouse | goAct =>
    exact request ht (inPhase_relit fun _ => interlocked_relit fun _ => changed_relit _ _ _ s)
  | openPerformance => exact request ht (openPerformance_relit s)
  | closePerformance | houseClosed => exact request ht (inPhase_relit fun _ => enterDark_relit s)
  | endAct => exact request ht (endAct_relit s _)
  | resume => exact request ht (resume_relit s)
  | delayUp => exact request ht (delayUp_relit s _)
  | intervalCountdownExpiry => exact relit_of_ite ht (.same rfl rfl) (.refl s)
  | zoneReport => exact request ht (zoneReport_relit s _)
  | panelResetZone | resetZone => exact request ht (onZone_relit (resetZoneBlock_relit s))
  | isolateZone => exact request ht (onZone_relit (isolateBlock_relit s))
  | restoreZone => exact request ht (onZone_relit (restoreZoneBlock_relit s))
  | acknowledgeZones => exact request ht (acknowledgeNamed_relit s _ _)
  | showDelayExpiry => exact relit_of_ite ht (.refl s) (relit_zoneEvent _ s)
  | investigationExpiry => exact relit_of_ite ht (relit_changeCondition _ _ s) (.refl s)
  | evacuateNow | panelEvacuate => exact request ht (evacuateBlock_relit s _)
  | standDown | restore => exact request ht (returnToQuiet_relit s _ _ _)
  | dropCurtain | stopRaise | clearCurtainFaults | collectCompletions => exact request ht (.same rfl rfl)
  | demonstrateCurtain =>
    exact request ht (inPhase_relit fun _ => interlocked_relit fun _ => .same rfl rfl)
  | raiseHold => exact request ht (raiseHoldBlock_relit s)
  | resetManualRelease => exact request ht (resetManualBlock_relit s)
  | leaseExpiry => exact relit_of_ite ht (.same rfl rfl) (.refl s)
  | raiseSample | creepSample | descentSample => cases ht; exact sampleCurtain_relit s _ _ _
  | lights => exact request ht (withAuthority_relit (lightsBlock_relit s _ _))
  | goPreset => exact request ht (withAuthority_relit (goPresetBlock_relit s _ _))
  | holdFades => exact request ht (withAuthority_relit (relit_withLights (.holdFades _)))
  | fadeStep => exact relit_of_ite ht (.refl s) (relit_withLights (.stepFade _ _))
  | takeLights => exact request ht (takeLightsBlock_relit s)
  | giveBackLights | reclaimLights => exact request ht (.wrote (.giveBack _ s.lightEnv _) rfl)
  | panicLightsOn => exact request ht (relit_withLights (.panicOn _))
  | panicLightsOff => exact request ht (panicOffBlock_relit s)
  | dimmerFrame => exact relit_of_ite ht (.refl s) (relit_withLights (.frame _ _))
  | createCall => exact request ht (createCallBlock_relit s _ _)
  | cancelCall => exact request ht (cancelCallBlock_relit s _)
  | zoneGate => exact request ht (zoneGateBlock_relit s _ _ _)
  | resetChannel => exact request ht (resetChannelBlock_relit s _)
  | dueTimerExpiry | callDeadline | startTimerExpiry | guardTimerExpiry | stopTimerExpiry | builtInGapExpiry =>
    exact callEvent_relit ht
  | playingRises ch | playingFalls ch =>
    exact (callEvent_relit (s := s.setPlaying ch _) ht).after rfl rfl
  | readHouse | readZones | readAlarmList | readCurtain | readCircuits | readCall | readQueues | readChannels
  | readLinks => exact request ht report_relit
  | performanceClockTick => exact relit_of_ite ht (.same rfl rfl) (.wrote (.tick s.lights) rfl)

end

/-- Settles O59: a command writes the lighting record in the ways of `Lights.Write` alone, and each of them keeps the
law of the authority and the ranges. -/
theorem everyStepKeepsTheLights : Obligations.EveryStepKeepsTheLights := by
  refine ⟨keptByStep_of_exec (fun _ _ h => h) fun i _ _ h ht =>
      Lights.law_of_writes (fun _ _ w => w.authorityLawful) (exec_relit i ht).writes h,
    keptByStep_of_exec (fun _ _ h => h) fun i s t h ht => ?_⟩
  rw [levelsLawful_iff] at h ⊢
  have hr := exec_relit i ht
  exact ⟨Lights.law_of_writes (fun _ _ w => w.inRange) hr.writes h.1, hr.escape h.2⟩

end Sys2Proof.Machine
end

section
/-! Fades stepped, and the commands GO PRESET and HOLD FADES (R104, R105, R108, R110, R111). -/
namespace Sys2Proof.Machine

/-! ## One step of a fade (R105) -/

theorem Circuit.step_fading {c : Circuit} {f : Fade} (h : c.fade = some f) :
    c.step = { c with
      base := fadeLevel f.start f.target f.duration (f.elapsed + 1)
      fade := if f.duration ≤ f.elapsed + 1 then none else some { f with elapsed := f.elapsed + 1 } } := by
  unfold Circuit.step
  rw [h]

theorem Lights.stepFade_owed {l : Lights} {i : Fin 48} {f : Fade} (hf : l.circuits[i].fade = some f)
    (hd : 0 < l.stepsDue[i]) :
    l.stepFade i = { l with
      circuits := l.circuits.set i l.circuits[i].step, stepsDue := l.stepsDue.set i (l.stepsDue[i] - 1) } :=
  if_pos ⟨by rw [hf]; rfl, hd⟩

/-- Settles O35: the step is one write of its circuit, whose new level stands on the line of the fade. -/
theorem fadeStepFollowsItsLine : Obligations.FadeStepFollowsItsLine := by
  intro s i f hf hi hd he
  have ht : exec (.fadeStep i) s = .next (s.withLights (s.lights.stepFade i)) :=
    if_neg (by rw [hi]; exact Bool.false_ne_true)
  obtain ⟨hline, hmin, hmax⟩ := fadeLevel_line f.start f.target (duration := f.duration) (elapsed := f.elapsed + 1) he
  rw [Lights.stepFade_owed hf hd, Circuit.step_fading hf] at ht
  refine ⟨_, ht, rfl, fun j hj => ?_, ?_⟩
  · simp only [State.withLights_lights, vector_set_get, if_neg hj, and_self]
  · simp only [State.withLights_lights, vector_set_get, if_true]
    refine ⟨Nat.sub_add_cancel hd, by exact_mod_cast hline, hmin, hmax, fun hlast => ⟨?_, ?_⟩, fun hmore => ?_⟩
    · rw [hlast]; exact fadeLevel_end _ _ (by omega)
    · exact if_pos (Nat.le_of_eq hlast.symm)
    · exact if_neg (Nat.not_le_of_lt hmore)

/-! ## Requests for the holder of the authority (R108) -/

section
variable {p : Port} {a : Authority}

theorem accepts_holder (h : p = .house ∧ a = .house ∨ p = .console ∧ a = .console) : a.accepts p = true := by
  rcases h with ⟨rfl, rfl⟩ | ⟨rfl, rfl⟩ <;> rfl

theorem accepts_other (h : p = .house ∧ a = .console ∨ p = .console ∧ a = .house) : a.accepts p = false := by
  rcases h with ⟨rfl, rfl⟩ | ⟨rfl, rfl⟩ <;> rfl

end

/-- The kinds of LIGHTS, GO PRESET and HOLD FADES are known, and permitted to the two lighting desks (Table 10-2). -/
theorem fadeKinds_permitted {k : Byte} (h : k = 0x23 ∨ k = 0x24 ∨ k = 0x25) :
    kindKnown k = true ∧ permitted .house k = true ∧ permitted .console k = true := by
  rcases h with rfl | rfl | rfl <;> decide

section
variable {p : Port} {i : Instr} {block : State → State × Answer} {s : State}

/-- A lighting command from the holder: its block acts on the lights and tells nothing. -/
theorem takeRequest_holder {l : Lights} {x : Answer} (ht : takeable p (requestFrame i) s = true)
    (hk : (requestFrame i).kind = 0x23 ∨ (requestFrame i).kind = 0x24 ∨ (requestFrame i).kind = 0x25)
    (hs : shapeOk i = true)
    (hd : p = .house ∧ s.lights.authority = .house ∨ p = .console ∧ s.lights.authority = .console)
    (hb : block s = (s.withLights l, x)) :
    takeRequest p i (withAuthority p block) s = .next ((s.withLights l).withReply p (requestFrame i).kind x) := by
  obtain ⟨known, house, console⟩ := fadeKinds_permitted hk
  refine takeRequest_silent ht known (by rcases hd with ⟨rfl, -⟩ | ⟨rfl, -⟩ <;> assumption) hs ?_ rfl
  exact (if_pos (accepts_holder hd)).trans hb

/-- A lighting command from the desk without the authority is refused. -/
theorem takeRequest_notHolder (ht : takeable p (requestFrame i) s = true)
    (hk : (requestFrame i).kind = 0x23 ∨ (requestFrame i).kind = 0x24 ∨ (requestFrame i).kind = 0x25)
    (hs : shapeOk i = true)
    (hd : p = .house ∧ s.lights.authority = .console ∨ p = .console ∧ s.lights.authority = .house) :
    takeRequest p i (withAuthority p block) s =
      .next (s.withReply p (requestFrame i).kind ⟨.refused, .refusal .notAuthority⟩) := by
  obtain ⟨known, house, console⟩ := fadeKinds_permitted hk
  refine takeRequest_unchanged ht known (by rcases hd with ⟨rfl, -⟩ | ⟨rfl, -⟩ <;> assumption) hs ?_
  exact if_neg (by rw [accepts_other hd]; exact Bool.false_ne_true)

end

/-! ## The slot of a command (R108) -/

/-- The slot that a command uses: the one it carries, or else the circuit's or the preset's own. -/
def slotOr (given : Option (Fin 4)) (own : Nat) : Nat := (given.map Fin.val).getD own

/-- A slot byte of 0xFF carries none, one below 4 that slot. -/
theorem optionalSlot_good {b : Byte} (h : b = 0xFF ∨ b.toNat < 4) :
    ∃ given, optionalSlot b = some given ∧ ∀ own, slotOr given own = if b = 0xFF then own else b.toNat := by
  unfold optionalSlot
  by_cases hb : b = 0xFF
  · exact ⟨none, if_pos hb, fun own => (if_pos hb).symm⟩
  · have hlt := h.resolve_left hb
    refine ⟨some ⟨b.toNat, hlt⟩, ?_, fun own => (if_neg hb).symm⟩
    rw [if_neg (show b ≠ noneByte from hb), identifier_of_lt (i := ⟨b.toNat, hlt⟩) rfl]
    rfl

theorem optionalSlot_bad {b : Byte} (hb : b ≠ 0xFF) (h : 4 ≤ b.toNat) : optionalSlot b = none := by
  unfold optionalSlot
  rw [if_neg (show b ≠ noneByte from hb), identifier_of_ge h]
  rfl

/-! ## GO PRESET and HOLD FADES (R110, R111) -/

section
variable {b slot : Byte} {n : Fin 8} {given : Option (Fin 4)} {s : State}

theorem goPresetBlock_started (hn : identifierFrom1 8 b = some n) (hg : optionalSlot slot = some given)
    (hu : s.lights.presets[n].inUse = true) :
    goPresetBlock b slot s = (s.withLights (s.lights.startPreset s.clock (slotOr given s.lights.presets[n].slot) n),
      done (.presetStarted (n.val + 1) (s.lights.slotDuration (slotOr given s.lights.presets[n].slot)))) := by
  unfold goPresetBlock
  rw [hn, hg]
  dsimp only
  rw [if_pos hu]
  cases given <;> rfl

theorem goPresetBlock_notInUse (hn : identifierFrom1 8 b = some n) (hg : optionalSlot slot = some given)
    (hu : s.lights.presets[n].inUse = false) : goPresetBlock b slot s = (s, refuse .notActive) := by
  unfold goPresetBlock
  rw [hn, hg]
  dsimp only
  rw [if_neg (by rw [hu]; exact Bool.false_ne_true)]

theorem goPresetBlock_bad (h : b = 0 ∨ 8 < b.toNat ∨ (4 ≤ slot.toNat ∧ slot ≠ 0xFF)) :
    goPresetBlock b slot s = (s, refuse .badNumber) := by
  have hnone : identifierFrom1 8 b = none ∨ optionalSlot slot = none := by
    rcases h with rfl | h | ⟨h, hs⟩
    · exact .inl rfl
    · exact .inl (identifierFrom1_out (.inr h))
    · exact .inr (optionalSlot_bad hs h)
  unfold goPresetBlock
  split
  · next hn hg => rcases hnone with h | h <;> simp [h] at hn hg
  · rfl

end

theorem holdFades_circuit (l : Lights) (i : Fin 48) : l.holdFades.circuits[i] = { l.circuits[i] with fade := none } :=
  vmap_get _ l.circuits i

/-- Settles O34: both commands write every circuit at once, and the refusals come before. -/
theorem presetsAndHolds : Obligations.PresetsAndHolds := by
  refine ⟨fun s p b slot n ht hd hb hslot used hused => ?_, fun s p ht hd => ?_, fun s p b slot => ⟨fun hd => ?_, ?_⟩⟩
  · have hn : identifierFrom1 8 b = some n := identifierFrom1_of_lt hb
    obtain ⟨given, hg, hown⟩ := optionalSlot_good hslot
    rw [← hown] at hused
    subst hused
    refine ⟨fun hu => ?_, fun hu => ?_⟩
    · refine ⟨_, takeRequest_holder (i := .goPreset p b slot) ht (.inr (.inl rfl)) rfl hd
        (goPresetBlock_started hn hg hu), rfl, fun i => ?_⟩
      show s.lights.circuits[i].fadeBegan _ _ _ _ (s.lights.startPreset _ _ n).circuits[i]
      rw [Lights.startPreset_circuits]
      exact Circuit.startFade_began _ _ _ _ _
    · exact takeRequest_holder (i := .goPreset p b slot) ht (.inr (.inl rfl)) rfl hd (goPresetBlock_notInUse hn hg hu)
  · exact ⟨_, takeRequest_holder (i := .holdFades p) (block := holdFadesBlock) ht (.inr (.inr rfl)) rfl hd rfl, rfl,
      holdFades_circuit s.lights⟩
  · exact ⟨fun ht => takeRequest_notHolder (i := .goPreset p b slot) ht (.inr (.inl rfl)) rfl hd,
      fun ht => takeRequest_notHolder (i := .holdFades p) ht (.inr (.inr rfl)) rfl hd⟩
  · exact fun hd ht hbad => takeRequest_holder (i := .goPreset p b slot) ht (.inr (.inl rfl)) rfl hd
      (goPresetBlock_bad hbad)

end Sys2Proof.Machine
end

section
/-! LIGHTS: the fades of a list of pairs, circuit by circuit (R104, R108, R109). -/
namespace Sys2Proof.Machine

/-! ## The pairs as read (R108) -/

/-- Pairs in range are read as they stand. -/
theorem lightPairs_good {ps : List (Byte × Byte)} (h : ∀ q ∈ ps, q.1.toNat < 48) :
    ∃ xs, lightPairs ps = some xs ∧
      xs.map (fun x => (x.1.val, x.2)) = ps.map fun q => (q.1.toNat, q.2.toNat) := by
  induction ps with
  | nil => exact ⟨[], rfl, rfl⟩
  | cons q qs ih =>
    obtain ⟨hq, hqs⟩ := List.forall_mem_cons.mp h
    obtain ⟨xs, hx, hm⟩ := ih hqs
    refine ⟨(⟨q.1.toNat, hq⟩, q.2.toNat) :: xs, ?_, congrArg (_ :: ·) hm⟩
    unfold lightPairs
    rw [identifier_of_lt (i := ⟨q.1.toNat, hq⟩) rfl, hx]

theorem lightPairs_bad {ps : List (Byte × Byte)} (h : ∃ q ∈ ps, 48 ≤ q.1.toNat) : lightPairs ps = none := by
  induction ps with
  | nil => obtain ⟨q, hq, -⟩ := h; exact absurd hq List.not_mem_nil
  | cons q qs ih =>
    have hnone : identifier 48 q.1 = none ∨ lightPairs qs = none := by
      obtain ⟨r, hr, hge⟩ := h
      rcases List.mem_cons.mp hr with rfl | hr
      · exact .inl (identifier_of_ge hge)
      · exact .inr (ih ⟨r, hr, hge⟩)
    unfold lightPairs
    split
    · next hi hl => rcases hnone with h | h <;> simp [h] at hi hl
    · rfl

/-- The level that the last pair of a circuit carries, if some pair names the circuit. -/
def lastLevel (i : Fin 48) (xs : List (Fin 48 × Nat)) : Option Nat :=
  (xs.reverse.find? fun x => x.1.val == i.val).map (·.2)

/-- The last level as read is that of the last pair as sent. -/
theorem lastLevel_sent {ps : List (Byte × Byte)} {xs : List (Fin 48 × Nat)}
    (h : xs.map (fun x => (x.1.val, x.2)) = ps.map fun q => (q.1.toNat, q.2.toNat)) (i : Fin 48) :
    lastLevel i xs = (ps.reverse.find? fun q => q.1.toNat == i.val).map fun q => q.2.toNat := by
  have hf := congrArg (fun ys : List (Nat × Nat) => (ys.reverse.find? fun y => y.1 == i.val).map (·.2)) h
  simp only [← List.map_reverse, List.find?_map, Option.map_map] at hf
  exact hf

/-! ## The fades that they start (R104, R109) -/

/-- A fade started over another with the same slot: the second governs, and starts where the first did. -/
theorem Circuit.startFade_again (now slot duration x y : Nat) (c : Circuit) :
    (c.startFade now slot duration x).startFade now slot duration y = c.startFade now slot duration y := by
  unfold Circuit.startFade
  split <;> rfl

theorem Circuit.startFade_slot (now slot duration x : Nat) (c : Circuit) :
    (c.startFade now slot duration x).slot = c.slot := by
  unfold Circuit.startFade
  split <;> rfl

/-- The pairs write the circuits and the steps owed alone. -/
theorem Lights.startPairs_others (now : Nat) (given : Option (Fin 4)) (xs : List (Fin 48 × Nat)) (l : Lights) :
    l.startPairs now given xs = { l with
      circuits := (l.startPairs now given xs).circuits, stepsDue := (l.startPairs now given xs).stepsDue } := by
  unfold Lights.startPairs
  induction xs generalizing l with
  | nil => rfl
  | cons x xs ih => exact ih _

theorem Lights.startPairs_snoc (now : Nat) (given : Option (Fin 4)) (xs : List (Fin 48 × Nat)) (x : Fin 48 × Nat)
    (l : Lights) :
    l.startPairs now given (xs ++ [x]) = (l.startPairs now given xs).startFade now
      (slotOr given (l.startPairs now given xs).circuits[x.1].slot) x.2 x.1 := by
  unfold Lights.startPairs
  rw [List.foldl_append]
  cases given <;> rfl

/-- What the pairs make of a circuit: the last one that names it starts the fade, and with none it stays. -/
theorem Lights.startPairs_circuit (now : Nat) (given : Option (Fin 4)) (xs : List (Fin 48 × Nat)) (l : Lights)
    (i : Fin 48) :
    (l.startPairs now given xs).circuits[i] = (lastLevel i xs).elim l.circuits[i]
      (l.circuits[i].startFade now (slotOr given l.circuits[i].slot)
        (l.slotDuration (slotOr given l.circuits[i].slot))) := by
  induction xs using List.reverseRecOn with
  | nil => rfl
  | append_singleton xs x ih =>
    have hd (n : Nat) : (l.startPairs now given xs).slotDuration n = l.slotDuration n := by
      rw [Lights.startPairs_others]; rfl
    rw [Lights.startPairs_snoc]
    generalize l.startPairs now given xs = m at ih hd ⊢
    unfold Lights.startFade
    rw [vector_set_get]
    split
    · next hi =>
      subst hi
      have hl : lastLevel x.1 (xs ++ [x]) = some x.2 := by simp [lastLevel]
      rw [hl, hd, ih]
      cases lastLevel x.1 xs with
      | none => rfl
      | some y => rw [Option.elim_some, Option.elim_some, Circuit.startFade_slot, Circuit.startFade_again]
    · next hi =>
      have hl : lastLevel i (xs ++ [x]) = lastLevel i xs := by
        have hne : (x.1.val == i.val) = false := beq_eq_false_iff_ne.mpr fun e => hi (Fin.ext e.symm)
        simp [lastLevel, hne]
      rw [hl]
      exact ih

/-! ## LIGHTS -/

theorem lightsBlock_good {slot : Byte} {ps : List (Byte × Byte)} {given : Option (Fin 4)} {xs : List (Fin 48 × Nat)}
    (hg : optionalSlot slot = some given) (hx : lightPairs ps = some xs) (s : State) :
    lightsBlock slot ps s = (s.withLights (s.lights.startPairs s.clock given xs), done (.number xs.length)) := by
  unfold lightsBlock
  rw [hg, hx]

theorem lightsBlock_bad {slot : Byte} {ps : List (Byte × Byte)}
    (h : (slot ≠ 0xFF ∧ 4 ≤ slot.toNat) ∨ ∃ q ∈ ps, 48 ≤ q.1.toNat) (s : State) :
    lightsBlock slot ps s = (s, refuse .badNumber) := by
  have hnone : optionalSlot slot = none ∨ lightPairs ps = none :=
    h.imp (fun h => optionalSlot_bad h.1 h.2) lightPairs_bad
  unfold lightsBlock
  split
  · next hg hx => rcases hnone with h | h <;> simp [h] at hg hx
  · rfl

/-- Where a fade is started with a duration of 0 the level is the target; else the record runs from the base level,
which stays (R104). -/
theorem Circuit.startFade_stands (now slot duration target : Nat) (c : Circuit) :
    (duration = 0 → (c.startFade now slot duration target).base = target ∧
        (c.startFade now slot duration target).fade = none) ∧
      (0 < duration → (c.startFade now slot duration target).fade =
        some ⟨(c.startFade now slot duration target).base, target, duration, 0, now, slot⟩) := by
  obtain ⟨hsnap, hruns⟩ := Circuit.startFade_began now slot duration target c
  exact ⟨fun h => by rw [hsnap h]; exact ⟨rfl, rfl⟩, fun h => by rw [hruns h]⟩

/-- Settles O33: the pairs are read whole or refused whole, and each circuit takes up the last pair that names it. -/
theorem lightsStartsItsFades : Obligations.LightsStartsItsFades := by
  intro s p slot ps ht h1 h48
  have hs : shapeOk (.lights p slot ps) = true := by simp [shapeOk, h1, h48]
  refine ⟨fun hd hslot hps => ?_, fun hd hbad => ?_, fun hd => ?_⟩
  · obtain ⟨given, hg, hown⟩ := optionalSlot_good hslot
    obtain ⟨xs, hx, hm⟩ := lightPairs_good hps
    have hlen : xs.length = ps.length := by simpa using congrArg List.length hm
    have hc (i : Fin 48) := Lights.startPairs_circuit s.clock given xs s.lights i
    have hreply := takeRequest_holder (i := .lights p slot ps) ht (.inl rfl) hs hd (lightsBlock_good hg hx s)
    rw [hlen] at hreply
    refine ⟨_, hreply, ?_, fun i hi => ?_, fun i q hq n hn => ?_⟩
    · show State.withReply _ _ _ (s.withLights (s.lights.startPairs s.clock given xs)) = _
      rw [Lights.startPairs_others]
      rfl
    · have hl : lastLevel i xs = none := by
        rw [lastLevel_sent hm, Option.map_eq_none_iff, List.find?_eq_none]
        exact fun q hq => by simpa using hi q (List.mem_reverse.mp hq)
      show (s.lights.startPairs s.clock given xs).circuits[i] = _
      rw [hc, hl]
      rfl
    · have hl : lastLevel i xs = some q.2.toNat := by rw [lastLevel_sent hm, hq]; rfl
      rw [← hown] at hn
      subst hn
      show (_ → s.lights.circuits[i].fadeBegan _ _ _ _ (s.lights.startPairs s.clock given xs).circuits[i]) ∧
        (_ → (s.lights.startPairs s.clock given xs).circuits[i].base = _ ∧
          (s.lights.startPairs s.clock given xs).circuits[i].fade = none) ∧
        (_ → (s.lights.startPairs s.clock given xs).circuits[i].fade =
          some ⟨(s.lights.startPairs s.clock given xs).circuits[i].base, _, _, _, _, _⟩)
      rw [hc, hl]
      exact ⟨fun _ => Circuit.startFade_began _ _ _ _ _, Circuit.startFade_stands _ _ _ _ _⟩
  · exact takeRequest_holder (i := .lights p slot ps) ht (.inl rfl) hs hd (lightsBlock_bad hbad s)
  · exact takeRequest_notHolder (i := .lights p slot ps) ht (.inl rfl) hs hd

end Sys2Proof.Machine
end

section
/-! The circuit, slot and preset records of the Configuration Store (R102, R103, R107, R181). -/
namespace Sys2Proof.Machine

/-- A record on port H, in a phase that takes configuration, whose write touches the lights alone: they are written and
the reply is all that joins a port (R181). -/
theorem configure_lights {i : Instr} {write : Option (State → State × Answer)} {f : State → State × Answer} {s : State}
    {l : Lights} {a : Answer} (hp : s.house.phase = .unconfigured ∨ s.house.phase = .dark)
    (ht : takeable .house (requestFrame i) s = true) (hk : (requestFrame i).kind = 0x01) (hs : shapeOk i = true)
    (hw : write = some f) (hf : f s = (s.withLights l, a)) :
    takeRequest .house i (configure write) s = .next ((s.withLights l).withReply .house 0x01 a) := by
  rw [takeRequest_silent ht (by rw [hk]; rfl) (by rw [hk]; rfl) hs ((configure_open hp hw).trans hf) rfl, hk]

theorem Lights.withPreset_self (n : Fin 8) (p : Preset) (l : Lights) : (l.withPreset n p).presets[n] = p :=
  (vector_set_get l.presets n n p).trans (if_pos rfl)

theorem configurePreset_taken {s : State} {i : Fin 8} {b n : Byte} {levels : Vector Byte 48} {used : Bool}
    (hp : s.house.phase = .unconfigured ∨ s.house.phase = .dark) (hb : b.toNat = i.val + 1) (hn : n.toNat < 4)
    (ht : takeable .house (requestFrame (.configurePreset .house b levels n (if used then 1 else 0))) s = true) :
    exec (.configurePreset .house b levels n (if used then 1 else 0)) s = .next
      ((s.withLights (s.lights.withPreset i ⟨vmap (·.toNat) levels, n.toNat, used⟩)).withReply .house 0x01
        (done (.config 4 (some (i.val + 1))
          (levels.toList.map (·.toNat) ++ [n.toNat, (if used then (1 : Byte) else 0).toNat])))) := by
  refine configure_lights (f := writePreset i levels ⟨n.toNat, hn⟩ used) hp ht rfl (isFlag_of_bool used) ?_ ?_
  · rw [identifierFrom1_of_lt hb, identifier_of_lt (i := ⟨n.toNat, hn⟩) rfl, flagOf_of_bool]
  · rw [flag_toNat]
    rfl

/-- Settles O49: each record writes its fields of its one entry, and the reply carries the record. -/
theorem lightingRecordsAreWritten : Obligations.LightingRecordsAreWritten := by
  intro s hp
  refine ⟨fun i b n k lit masked hb hn e he m hm ht => ?_, fun i b c hb hc ht => ?_,
    fun i b n levels used hb hn u hu ht => ?_⟩
  · subst he hm
    refine configure_lights (i := .configureCircuit .house b n _ _ k)
      (f := writeCircuit i ⟨n.toNat, hn⟩ lit masked k.toNat) hp ht rfl ?_ ?_ ?_
    · show (isFlag _ && isFlag _) = true
      rw [isFlag_of_bool, isFlag_of_bool]; rfl
    · rw [identifier_of_lt hb, identifier_of_lt (i := ⟨n.toNat, hn⟩) rfl, flagOf_of_bool, flagOf_of_bool]
    · rw [flag_toNat, flag_toNat]; rfl
  · refine configure_lights (i := .configureSlot .house b c) (f := writeSlot i ⟨c.toNat, hc⟩) hp ht rfl rfl ?_ rfl
    rw [identifier_of_lt hb, identifier_of_lt (i := ⟨c.toNat, hc⟩) rfl]
  · subst hu
    refine ⟨_, configurePreset_taken hp hb hn ht, ?_, ?_⟩
    · show _ = State.withReply _ _ _ (s.withLights (s.lights.withPreset i (Lights.withPreset i _ s.lights).presets[i]))
      rw [Lights.withPreset_self]
    · show (Lights.withPreset i _ s.lights).presets[i].slot = _ ∧
        (Lights.withPreset i _ s.lights).presets[i].inUse = _ ∧
        ∀ x : Fin 48, (Lights.withPreset i _ s.lights).presets[i].levels[x] = _
      rw [Lights.withPreset_self]
      exact ⟨rfl, rfl, vmap_get _ levels⟩

end Sys2Proof.Machine
end

section
/-! TAKE LIGHTS, GIVE BACK LIGHTS and RECLAIM LIGHTS (R115, R116, R117, R120). -/
namespace Sys2Proof.Machine

/-! ## A change of the authority by a request -/

theorem changeAuthority_same {e : LightEnv} {a : Authority} {cause : AuthorityCause} {w : Act Lights}
    (h : w.val.authority = a) : changeAuthority e a cause w = w := if_pos h

theorem changeAuthority_new {e : LightEnv} {a : Authority} {cause : AuthorityCause} {w : Act Lights}
    (h : w.val.authority ≠ a) : changeAuthority e a cause w =
      ⟨w.val.setAuthority e.now a cause, w.out ++ [authorityMail e.now a w.val.authority cause false]⟩ := if_neg h

section
variable {p : Port} {i : Instr} {block : State → State × Answer} {s : State} {a : Authority} {cause : AuthorityCause}

/-- A taken request that gives the authority to a desk without it: the authority record is written, and both lighting
desks are told. -/
theorem takeRequest_movesAuthority (ht : takeable p (requestFrame i) s = true)
    (hk : kindKnown (requestFrame i).kind = true) (hp : permitted p (requestFrame i).kind = true)
    (hs : shapeOk i = true) (hb : block s = (s.onLights fun e => changeAuthority e a cause, done .empty))
    (hn : s.lights.authority ≠ a) :
    ∃ t, takeRequest p i block s = .next t ∧ AnsweredWith p (requestFrame i).kind (done .empty) s t ∧
      t = { s with lights := s.lights.setAuthority s.clock a cause, links := t.links } ∧
      ∀ q : Port, q = .house ∨ q = .console →
        Reaches q (.authority ⟨a, s.lights.authority, cause, s.clock, false⟩) s t := by
  have hw := changeAuthority_new (e := s.lightEnv) (cause := cause) (w := ⟨s.lights, []⟩) hn
  obtain ⟨t, hx, ha, hu, hr⟩ := takeRequest_answers ht hk hp hs hb (quietly_onLights _ s).2
  refine ⟨t, hx, ha, ?_, fun q hq => hr q _ ?_⟩
  · rw [State.onLights, hw] at hu
    exact hu
  · exact Reaches.of_post (m := authorityMail s.clock a s.lights.authority cause false) rfl
      (congrArg Act.out hw ▸ List.mem_singleton_self _) (by simpa [authorityMail] using hq)

/-- A taken request that gives the authority to its holder has no effect. -/
theorem takeRequest_keepsAuthority (ht : takeable p (requestFrame i) s = true)
    (hk : kindKnown (requestFrame i).kind = true) (hp : permitted p (requestFrame i).kind = true)
    (hs : shapeOk i = true) (hb : block s = (s.onLights fun e => changeAuthority e a cause, done .empty))
    (hn : s.lights.authority = a) :
    takeRequest p i block s = .next (s.withReply p (requestFrame i).kind (done .empty)) := by
  refine takeRequest_unchanged ht hk hp hs (hb.trans ?_)
  rw [State.onLights, changeAuthority_same hn]
  rfl

end

/-! ## The checks of TAKE LIGHTS (R116) -/

theorem Phase.consolePhase_iff (p : Phase) : p.consolePhase = true ↔ p = .houseOpen ∨ p = .act ∨ p = .interval := by
  cases p <;> simp [Phase.consolePhase]

/-- The conditions that TAKE LIGHTS tests, in the order of their bits. -/
theorem takeInterlock_eq (l : Lights) :
    l.takeInterlock = (if l.consoleSeen = false then [Interlock.linkLost] else []) ++
      (if l.fireSeen = .evacuate then [.evacuationInForce] else []) := by
  simp only [Lights.takeInterlock, failing_cons, show failing [] = [] from rfl, List.append_nil, Bool.not_eq_true',
    beq_iff_eq]

section
variable {s : State}

theorem takeLightsBlock_wrongPhase (h1 : s.lights.phaseSeen ≠ .houseOpen) (h2 : s.lights.phaseSeen ≠ .act)
    (h3 : s.lights.phaseSeen ≠ .interval) : takeLightsBlock s = (s, refuse .wrongPhase) :=
  inPhase_refused (Bool.eq_false_iff.mpr fun h =>
    ((Phase.consolePhase_iff _).mp h).elim h1 fun h => h.elim h2 h3)

theorem takeLightsBlock_held
    (hp : s.lights.phaseSeen = .houseOpen ∨ s.lights.phaseSeen = .act ∨ s.lights.phaseSeen = .interval)
    (hi : s.lights.takeInterlock ≠ []) :
    takeLightsBlock s = (s, ⟨.refused, .interlock s.lights.takeInterlock⟩) :=
  (inPhase_accepted ((Phase.consolePhase_iff _).mpr hp)).trans (interlocked_failing hi)

theorem takeLightsBlock_free
    (hp : s.lights.phaseSeen = .houseOpen ∨ s.lights.phaseSeen = .act ∨ s.lights.phaseSeen = .interval)
    (hc : s.lights.consoleSeen = true) (hf : s.lights.fireSeen ≠ .evacuate) :
    takeLightsBlock s = (s.onLights fun e => changeAuthority e .console .take, done .empty) := by
  have hi : s.lights.takeInterlock = [] := by
    rw [takeInterlock_eq, hc, if_neg hf]
    rfl
  refine (inPhase_accepted ((Phase.consolePhase_iff _).mpr hp)).trans ?_
  rw [hi]
  rfl

end

/-- Settles O36: TAKE LIGHTS check by check; its grant and the two returns are one change of the authority, which does
nothing where the desk that it names is the holder. -/
theorem authorityIsTakenAndReturned : Obligations.AuthorityIsTakenAndReturned := by
  refine ⟨fun s ht => ⟨fun hp hc hf ha => ?_, fun hp hc hf ha => ?_, ?_, fun h1 h2 h3 => ?_⟩,
    fun s p kind i cause hi ht => ?_⟩
  · have moved := takeRequest_movesAuthority (i := .takeLights .console) ht (by decide) (by decide) rfl
      (takeLightsBlock_free hp hc hf) (by rw [ha]; decide)
    rw [ha] at moved
    exact moved
  · exact takeRequest_keepsAuthority (i := .takeLights .console) ht (by decide) (by decide) rfl
      (takeLightsBlock_free hp hc hf) ha
  · rintro hp c rfl hne
    rw [← takeInterlock_eq] at hne ⊢
    exact takeRequest_unchanged (i := .takeLights .console) ht (by decide) (by decide) rfl (takeLightsBlock_held hp hne)
  · exact takeRequest_unchanged (i := .takeLights .console) ht (by decide) (by decide) rfl
      (takeLightsBlock_wrongPhase h1 h2 h3)
  · have returns : exec i s = takeRequest p i (returnLightsBlock cause) s ∧ requestFrame i = ⟨kind, []⟩ ∧
        kindKnown kind = true ∧ permitted p kind = true ∧ shapeOk i = true := by
      rcases hi with ⟨rfl, rfl, rfl, rfl⟩ | ⟨rfl, rfl, rfl, rfl⟩ <;> exact ⟨rfl, rfl, by decide, by decide, rfl⟩
    obtain ⟨hx, hframe, hk, hp, hs⟩ := returns
    obtain rfl : kind = (requestFrame i).kind := by rw [hframe]
    rw [← hframe] at ht
    rw [hx]
    refine ⟨fun ha => ?_, fun ha => takeRequest_keepsAuthority ht hk hp hs rfl ha⟩
    have moved := takeRequest_movesAuthority (block := returnLightsBlock cause) ht hk hp hs rfl (by rw [ha]; decide)
    rw [ha] at moved
    exact moved

end Sys2Proof.Machine
end

section
/-! PANIC LIGHTS ON and OFF, and the frames of the dimmer line (R121, R123, R126, R128). -/
namespace Sys2Proof.Machine

/-! ## The end of panic (R121, R123) -/

/-- In EVACUATE the override stays on without panic. -/
theorem panicOff_evacuate {e : LightEnv} {l : Lights} (h : l.fireSeen = .evacuate) :
    panicOff e l = { l with panic := false } := by
  refine if_pos ?_
  rw [Lights.override_eq]
  exact decide_eq_true (.inr h)

/-- Outside EVACUATE the override ends with panic, and every circuit is restored to where it was heading. -/
theorem panicOff_restores {e : LightEnv} {l : Lights} (h : l.fireSeen ≠ .evacuate) :
    panicOff e l = ({ l with panic := false } : Lights).restoreFades e Circuit.heading := by
  refine if_neg ?_
  rw [Lights.override_eq]
  simpa using h

theorem restoreFades_starts (e : LightEnv) (target : Circuit → Nat) (l : Lights) (i : Fin 48) :
    ({ l.circuits[i] with base := 255, fade := none } : Circuit).fadeBegan e.now e.restoreSlot
      (l.slotDuration e.restoreSlot) (target l.circuits[i]) (l.restoreFades e target).circuits[i] := by
  rw [show (l.restoreFades e target).circuits[i] = _ from vmap_get _ l.circuits i]
  exact Circuit.startFade_began _ _ _ _ _

section
variable {s : State}

/-- Without panic PANIC LIGHTS OFF reports the override and has no effect. -/
theorem panicOffBlock_noPanic (h : s.lights.panic = false) :
    panicOffBlock s = (s, done (.panic false (decide (s.lights.fireSeen = .evacuate)))) := by
  have hl : (if s.lights.panic then panicOff s.lightEnv s.lights else s.lights) = s.lights :=
    if_neg (by rw [h]; exact Bool.false_ne_true)
  have hr : panicReply s.lights = done (.panic false (decide (s.lights.fireSeen = .evacuate))) := by
    simp [panicReply, Lights.override_eq, h]
  calc panicOffBlock s = (s.withLights s.lights, panicReply s.lights) := by unfold panicOffBlock; rw [hl]
    _ = _ := by rw [hr]; rfl

theorem panicOffBlock_evacuate (hp : s.lights.panic = true) (hf : s.lights.fireSeen = .evacuate) :
    panicOffBlock s = (s.withLights { s.lights with panic := false }, done (.panic false true)) := by
  unfold panicOffBlock
  rw [if_pos hp, panicOff_evacuate hf]
  simp [panicReply, Lights.override_eq, hf]

theorem panicOffBlock_restores (hp : s.lights.panic = true) (hf : s.lights.fireSeen ≠ .evacuate) :
    panicOffBlock s =
      (s.withLights (({ s.lights with panic := false } : Lights).restoreFades s.lightEnv Circuit.heading),
        done (.panic false false)) := by
  unfold panicOffBlock
  rw [if_pos hp, panicOff_restores hf]
  simp [panicReply, Lights.override_eq, Lights.restoreFades, hf]

/-! ## A frame of the dimmer line (R128) -/

theorem dimmerFrame_begins (h : s.inert = false) :
    exec .dimmerFrame s = .next (s.withLights { s.lights with dimmer := some s.frameLevels }) :=
  if_neg (by rw [h]; exact Bool.false_ne_true)

theorem frameLevels_first (h : s.lights.dimmer = none) : s.frameLevels = Vector.replicate 48 255 := by
  unfold State.frameLevels
  rw [h]

theorem frameLevels_later (h : s.lights.dimmer ≠ none) : s.frameLevels = s.outputLevels := by
  obtain ⟨levels, hl⟩ := Option.ne_none_iff_exists'.mp h
  unfold State.frameLevels
  rw [hl]

theorem outputLevels_get (s : State) (i : Fin 48) :
    s.outputLevels[i] = composedLevel s.lights s.params.escapeMin s.lights.circuits[i] :=
  (vmap_get _ s.lights.circuits i).trans (Lights.outputOf_eq _ _ _)

end

/-- Settles O37: the two requests write the lights alone, PANIC LIGHTS OFF by whether the override ends with panic; and
a frame takes the levels of power-on or those composed at its moment. -/
theorem panicAndTheDimmerLine : Obligations.PanicAndTheDimmerLine := by
  refine ⟨fun s => ⟨fun ht => ?_, fun ht hp => ?_, fun ht hp hf => ?_, fun ht hp hf => ?_⟩, fun s hi => ?_⟩
  · exact takeRequest_silent (i := .panicLightsOn .house) (block := panicOnBlock) ht (by decide) (by decide) rfl rfl rfl
  · exact takeRequest_unchanged (i := .panicLightsOff .house) ht (by decide) (by decide) rfl (panicOffBlock_noPanic hp)
  · exact takeRequest_silent (i := .panicLightsOff .house) ht (by decide) (by decide) rfl
      (panicOffBlock_evacuate hp hf) rfl
  · refine ⟨_, takeRequest_silent (i := .panicLightsOff .house) ht (by decide) (by decide) rfl
      (panicOffBlock_restores hp hf) rfl, rfl, fun i target htarget => ?_⟩
    rw [show target = s.lights.circuits[i].heading from htarget]
    exact restoreFades_starts s.lightEnv Circuit.heading { s.lights with panic := false } i
  · refine ⟨_, dimmerFrame_begins hi, rfl, _, rfl, fun hd i => ?_, fun hd i => ?_⟩
    · rw [frameLevels_first hd]
      exact Vector.getElem_replicate i.isLt
    · rw [frameLevels_later hd]
      exact outputLevels_get s i

end Sys2Proof.Machine
end


section
/-! SUPPORT. The law of the call collections taken apart (R130 to R132, R159 to R163): while an event is under way one
call may be in hand, out of every collection, and a channel may be out of account; with neither the law is
`Calls.lawful` with `Calls.ordered`. -/
namespace Sys2Proof.Machine

/-! ## The law with a call in hand and a channel out of account -/

/-- The list of a life state (Table 8-2), by descriptors; PLAYING has none. -/
def Calls.line (c : Calls) : Life → List CallId
  | .free => c.pool
  | .waiting => c.waiting
  | .timed => c.timetable
  | .ready => c.ready
  | .playing => []
  | .finished => c.finished.map Finished.descriptor

/-- Each general call that is not in hand stands in the list of its life state and in no other, every list holds a call
once, and the built-in descriptors stand in none (R130, R131). -/
structure Calls.Filed (J : Set CallId) (c : Calls) : Prop where
  line : ∀ (i : CallId) (l : Life), 2 ≤ i.val → (i ∈ c.line l ↔ i ∉ J ∧ l ≠ .playing ∧ c.table[i].life = l)
  nodup : ∀ l, (c.line l).Nodup
  builtIn : ∀ i : CallId, i.val < 2 → (∀ l, l ≠ .finished → i ∉ c.line l) ∧ .general i ∉ c.finished
  ordered : c.ordered

/-- Each channel that is taken into account carries a call exactly in STARTING and PLAYING and agrees with its call; the
built-in calls run as `R` says, and have no deadline (R130, R159 to R163). -/
structure Calls.Wired (R : BuiltIn → Prop) (J : Set CallId) (K : Set Channel) (c : Calls) : Prop where
  carries : ∀ ch ∉ K, (c.chan ch).call.isSome = (c.chan ch).carrying
  general : ∀ ch ∉ K, ∀ i : CallId, (c.chan ch).call = some i → 2 ≤ i.val →
    i ∉ J ∧ c.table[i].life = .playing ∧ c.table[i].channel = some ch
  playing : ∀ i : CallId, 2 ≤ i.val → i ∉ J → c.table[i].life = .playing → ∃ ch ∉ K, (c.chan ch).call = some i
  onChannel : ∀ ch ∉ K, ∀ b, c.run b = .onChannel ch ↔ (c.chan ch).call = some (builtInCall b)
  runs : ∀ b, c.run b ≠ .notRunning ↔ R b
  noDeadline : ∀ i : CallId, i.val < 2 → c.table[i].deadline = none

/-- The law of the collections and of the channels, with the calls of `J` in hand and the channels of `K` out of
account. -/
structure Calls.Sound (R : BuiltIn → Prop) (J : Set CallId) (K : Set Channel) (c : Calls) : Prop where
  filed : c.Filed J
  wired : c.Wired R J K

/-- The fire condition in which a built-in call runs (R160 to R163). -/
def builtInCondition : BuiltIn → Condition
  | .evacuation => .evacuate
  | .staffAlert => .alert

/-- The built-in calls that run in a fire condition. -/
def runsIn (k : Condition) (b : BuiltIn) : Prop := k = builtInCondition b

theorem builtInCall_lt (b : BuiltIn) : (builtInCall b).val < 2 := by cases b <;> decide

theorem ne_builtInCall {i : CallId} (h : 2 ≤ i.val) (b : BuiltIn) : i ≠ builtInCall b := fun e => by
  have := builtInCall_lt b
  rw [← e] at this
  omega

/-- A general call is in the finished list by its own item alone. -/
theorem Calls.mem_line_finished {c : Calls} {i : CallId} (h : 2 ≤ i.val) :
    i ∈ c.line .finished ↔ .general i ∈ c.finished := by
  simp only [Calls.line, List.mem_map]
  constructor
  · rintro ⟨x, hx, e⟩
    cases x with
    | general j => exact (show j = i from e) ▸ hx
    | builtIn b n => exact absurd (show builtInCall b = i from e).symm (ne_builtInCall h b)
  · exact fun hx => ⟨_, hx, rfl⟩

/-- One list of the life states tells whether a call stands in the collections as `Calls.lawful` says. -/
theorem filter_eq_singleton_iff {f : Life → Bool} {l : Life} :
    [Life.free, .waiting, .timed, .ready, .playing, .finished].filter f = [l] ↔ ∀ k, f k = true ↔ l = k := by
  constructor
  · intro h k
    have hm : k ∈ [Life.free, .waiting, .timed, .ready, .playing, .finished] := by cases k <;> decide
    have : k ∈ [Life.free, .waiting, .timed, .ready, .playing, .finished].filter f ↔ f k = true := by
      rw [List.mem_filter]; exact and_iff_right hm
    rw [← this, h, List.mem_singleton, eq_comm]
  · intro h
    have hf : f = fun k => decide (l = k) := funext fun k => by
      rw [Bool.eq_iff_iff, h k, decide_eq_true_iff]
    rw [hf]
    cases l <;> decide

/-- Where a general call stands, as `Calls.lawful` reads it. -/
theorem Calls.standsIn_iff (c : Calls) {i : CallId} (h : 2 ≤ i.val) (l : Life) :
    c.standsIn i l = true ↔ i ∈ c.line l ∨ l = .playing ∧ ∃ ch, c.generalOn ch = some i := by
  cases l with
  | finished => rw [Calls.mem_line_finished h]; simp [Calls.standsIn]
  | playing =>
    simp only [Calls.standsIn, Calls.line, Bool.or_eq_true, beq_iff_eq, List.not_mem_nil, false_or, true_and]
    exact ⟨fun h => h.elim (⟨_, ·⟩) (⟨_, ·⟩), fun ⟨ch, h⟩ => by cases ch <;> [exact .inl h; exact .inr h]⟩
  | free | waiting | timed | ready => simp [Calls.standsIn, Calls.line]

theorem mem_builtInRuns (c : Calls) :
    (∀ b, c.run b ≠ .notRunning ↔ runsIn c.arbiterFire b) ↔
      (c.evacuation ≠ .notRunning ↔ c.arbiterFire = .evacuate) ∧ (c.staffAlert ≠ .notRunning ↔ c.arbiterFire = .alert) :=
  ⟨fun h => ⟨h .evacuation, h .staffAlert⟩, fun h b => by cases b <;> [exact h.1; exact h.2]⟩

/-- What the law of a channel says of the built-in calls, one by one. -/
theorem onChannel_iff (c : Calls) (ch : Channel) :
    (∀ b, c.run b = .onChannel ch ↔ (c.chan ch).call = some (builtInCall b)) ↔
      (c.evacuation = .onChannel ch ↔ (c.chan ch).call = some 0) ∧
        (c.staffAlert = .onChannel ch ↔ (c.chan ch).call = some 1) :=
  ⟨fun h => ⟨h .evacuation, h .staffAlert⟩, fun h b => by cases b <;> [exact h.1; exact h.2]⟩

/-- A lawful state is sound, with no call in hand and every channel taken into account. -/
theorem Calls.lawful.sound {c : Calls} (h : c.lawful) (ho : c.ordered) : c.Sound (runsIn c.arbiterFire) ∅ ∅ := by
  have stands (i : CallId) (hi : 2 ≤ i.val) (l : Life) := (h.standsIn_iff hi l).symm.trans (c.standsIn_iff hi l)
  have hch := h.channel
  obtain ⟨-, hb, n1, n2, n3, n4, n5, -, -, hr⟩ := h
  refine ⟨⟨fun i l hi => ?_, fun l => ?_, fun i hi => ?_, ho⟩, ⟨fun ch _ => (hch ch).1, fun ch _ i hc hi => ?_,
    fun i hi _ hl => ?_, fun ch _ => ?_, (mem_builtInRuns c).mpr hr, fun i hi => ?_⟩⟩
  · rw [stands i hi l]
    cases l with
    | playing => simp [Calls.line]
    | free | waiting | timed | ready | finished => simp
  · cases l with
    | playing => exact List.nodup_nil
    | free => exact n1
    | waiting => exact n2
    | timed => exact n3
    | ready => exact n4
    | finished => exact n5
  · obtain ⟨h1, h2, h3, h4, h5, -⟩ := hb i hi
    refine ⟨fun l hl => ?_, h5⟩
    cases l with
    | playing => exact List.not_mem_nil
    | free => exact h1
    | waiting => exact h2
    | timed => exact h3
    | ready => exact h4
    | finished => exact absurd rfl hl
  · obtain ⟨h1, h2, -⟩ := hch ch
    refine ⟨Set.notMem_empty i, (stands i hi .playing).mpr (.inr ⟨rfl, ch, ?_⟩), h2 i hc hi⟩
    exact Calls.generalOn_eq_some_iff.mpr ⟨by rw [← h1, hc]; rfl, hc, hi⟩
  · rcases (stands i hi .playing).mp hl with hm | ⟨-, ch, hg⟩
    · exact absurd hm List.not_mem_nil
    · exact ⟨ch, Set.notMem_empty ch, (Calls.generalOn_eq_some_iff.mp hg).2.1⟩
  · obtain ⟨-, -, h3⟩ := hch ch
    exact (onChannel_iff c ch).mpr h3
  · obtain ⟨-, -, -, -, -, hd⟩ := hb i hi
    exact hd

/-- A sound state is lawful and in order. -/
theorem Calls.Sound.lawful {c : Calls} (h : c.Sound (runsIn c.arbiterFire) ∅ ∅) : c.lawful ∧ c.ordered := by
  obtain ⟨⟨hl, hn, hb, ho⟩, ⟨hc, hg, hp, hr, hs, hd⟩⟩ := h
  have channel (ch : Channel) : c.channelLawful ch :=
    ⟨hc ch (Set.notMem_empty ch), fun i hi h2 => (hg ch (Set.notMem_empty ch) i hi h2).2.2,
      (onChannel_iff c ch).mp (hr ch (Set.notMem_empty ch))⟩
  refine ⟨⟨fun i hi => filter_eq_singleton_iff.mpr fun l => ?_, fun i hi => ?_, hn .free, hn .waiting, hn .timed,
    hn .ready, hn .finished, channel .a, channel .b, (mem_builtInRuns c).mp hs⟩, ho⟩
  · rw [c.standsIn_iff hi, hl i l hi]
    constructor
    · rintro (⟨-, -, h⟩ | ⟨rfl, ch, h⟩)
      · exact h
      · obtain ⟨-, hcall, -⟩ := Calls.generalOn_eq_some_iff.mp h
        exact (hg ch (Set.notMem_empty ch) i hcall hi).2.1
    · intro h
      by_cases e : l = .playing
      · obtain ⟨ch, hk, hcall⟩ := hp i hi (Set.notMem_empty i) (h.trans e)
        exact .inr ⟨e, ch, Calls.generalOn_eq_some_iff.mpr ⟨by rw [← hc ch hk, hcall]; rfl, hcall, hi⟩⟩
      · exact .inl ⟨Set.notMem_empty i, e, h⟩
  · obtain ⟨h1, h2⟩ := hb i hi
    exact ⟨h1 .free (by decide), h1 .waiting (by decide), h1 .timed (by decide), h1 .ready (by decide), h2, hd i hi⟩

end Sys2Proof.Machine
end

section
/-! SUPPORT. The orders of the collections and the place of each call under the elementary writes (R131, R132): a
descriptor written, a call taken in hand, and a call that joins a list. -/
namespace Sys2Proof.Machine

/-! ## The orders (Table 8-2) -/

/-- A descriptor that is TIMED has its due time, and one that is READY or PLAYING its entry time. -/
def Descriptor.marked (d : Descriptor) : Prop :=
  (d.life = .timed → d.due.isSome = true) ∧ (d.life = .ready ∨ d.life = .playing → d.entry.isSome = true)

/-- Calls in use have creation numbers of their own, below the next (log 16). -/
def Calls.numbered (c : Calls) : Prop :=
  ∀ i : CallId, 2 ≤ i.val → c.table[i].life ≠ .free → c.creation[i] < c.nextCreation ∧
    ∀ j : CallId, 2 ≤ j.val → c.table[j].life ≠ .free → c.creation[i] = c.creation[j] → i = j

theorem Calls.ordered_iff (c : Calls) : c.ordered ↔
    (c.pool.Pairwise (fun i j => i.val < j.val) ∧
      c.waiting.Pairwise (fun i j => c.creation[i] < c.creation[j]) ∧
      c.timetable.Pairwise (fun i j => c.table[i].due.getD 0 ≤ c.table[j].due.getD 0) ∧
      c.ready.Pairwise c.ahead) ∧ (∀ i : CallId, 2 ≤ i.val → c.table[i].marked) ∧ c.numbered := by
  constructor
  · rintro ⟨h1, h2, h3, h4, h5⟩
    exact ⟨⟨h1, h2, h3, h4⟩, fun i hi => ⟨(h5 i hi).1, (h5 i hi).2.1⟩, fun i hi => (h5 i hi).2.2⟩
  · rintro ⟨⟨h1, h2, h3, h4⟩, h5, h6⟩
    exact ⟨h1, h2, h3, h4, fun i hi => ⟨(h5 i hi).1, (h5 i hi).2, h6 i hi⟩⟩

/-- The order of two calls in READY is read from their descriptors. -/
theorem Calls.ahead_congr {c c' : Calls} {i j : CallId} (hi : c'.table[i] = c.table[i]) (hj : c'.table[j] = c.table[j])
    (h : c.ahead i j) : c'.ahead i j := by
  unfold Calls.ahead
  rw [hi, hj]
  exact h

/-- The order of R132 as one of numbers: the class, the entry time and the number of the call. -/
theorem Calls.ahead_iff (c : Calls) (i j : CallId) : c.ahead i j ↔
    c.table[i].classRank < c.table[j].classRank ∨ c.table[i].classRank = c.table[j].classRank ∧
      (c.table[i].entry.getD 0 < c.table[j].entry.getD 0 ∨
        c.table[i].entry.getD 0 = c.table[j].entry.getD 0 ∧ i.val < j.val) := by
  unfold Calls.ahead Descriptor.classRank
  by_cases hi : c.table[i].kind = .immediate <;> by_cases hj : c.table[j].kind = .immediate <;>
    simp [-Fin.getElem_fin, hi, hj]

theorem Calls.ahead_trans {c : Calls} (i j k : CallId) (h : c.ahead i j) (h' : c.ahead j k) : c.ahead i k := by
  rw [Calls.ahead_iff] at *
  omega

theorem Calls.ahead_total {c : Calls} {i j : CallId} (h : i ≠ j) (hn : ¬ c.ahead i j) : c.ahead j i := by
  have hv : i.val ≠ j.val := fun e => h (Fin.ext e)
  rw [Calls.ahead_iff] at *
  omega

/-- `readyBefore` decides the order of R132. -/
theorem Calls.readyBefore_iff (c : Calls) (i j : CallId) : c.readyBefore i j = true ↔ c.ahead i j := by
  rw [Calls.ahead_iff]
  simp [-Fin.getElem_fin, Calls.readyBefore]

/-- A descriptor written while its call stands in no list keeps every order. -/
theorem ordered_setDesc {c : Calls} {i : CallId} {d : Descriptor} (h : c.ordered) (ht : i ∉ c.timetable)
    (hr : i ∉ c.ready) (hm : d.marked) (hf : d.life ≠ .free → c.table[i].life ≠ .free) : (c.setDesc i d).ordered := by
  rw [Calls.ordered_iff] at h ⊢
  obtain ⟨⟨h1, h2, h3, h4⟩, h5, h6⟩ := h
  have other {j : CallId} (hj : j ≠ i) := Calls.setDesc_table_of_ne hj d c
  have used {j : CallId} (hj : (c.setDesc i d).table[j].life ≠ .free) : c.table[j].life ≠ .free := by
    by_cases e : j = i
    · rw [e, Calls.setDesc_table_self] at hj; rw [e]; exact hf hj
    · rwa [other e] at hj
  refine ⟨⟨h1, h2, List.Pairwise.imp_of_mem (fun ha hb hab => ?_) h3, List.Pairwise.imp_of_mem (fun ha hb hab => ?_) h4⟩,
    fun j hj => ?_, fun j hj hn => ?_⟩
  · rw [other (ne_of_mem_of_not_mem ha ht), other (ne_of_mem_of_not_mem hb ht)]; exact hab
  · exact Calls.ahead_congr (other (ne_of_mem_of_not_mem ha hr)) (other (ne_of_mem_of_not_mem hb hr)) hab
  · by_cases e : j = i
    · rw [e, Calls.setDesc_table_self]; exact hm
    · rw [other e]; exact h5 j hj
  · exact ⟨(h6 j hj (used hn)).1, fun k hk hkn => (h6 j hj (used hn)).2 k hk (used hkn)⟩

/-- Lists that lose calls stay in order. -/
theorem ordered_sublists {c : Calls} {p w t r : List CallId} (h : c.ordered) (hp : p.Sublist c.pool)
    (hw : w.Sublist c.waiting) (ht : t.Sublist c.timetable) (hr : r.Sublist c.ready) :
    ({ c with pool := p, waiting := w, timetable := t, ready := r } : Calls).ordered := by
  obtain ⟨h1, h2, h3, h4, h5⟩ := h
  exact ⟨h1.sublist hp, h2.sublist hw, h3.sublist ht, h4.sublist hr, h5⟩

theorem ordered_leave {c : Calls} (i : CallId) (h : c.ordered) : (c.leave i).ordered :=
  ordered_sublists h (.refl _) List.erase_sublist List.erase_sublist List.erase_sublist

theorem ordered_joinPool {c : Calls} {i : CallId} (h : c.ordered) (hi : i ∉ c.pool) : (c.joinPool i).ordered := by
  obtain ⟨h1, h2⟩ := h
  exact ⟨joinPool_ascending hi h1, h2⟩

theorem ordered_joinTimetable {c : Calls} (i : CallId) (h : c.ordered) : (c.joinTimetable i).ordered := by
  obtain ⟨h1, h2, h3, h4⟩ := h
  exact ⟨h1, h2, joinTimetable_ordered h3, h4⟩

theorem ordered_joinReady {c : Calls} {i : CallId} (h : c.ordered) (hi : i ∉ c.ready) : (c.joinReady i).ordered := by
  obtain ⟨h1, h2, h3, h4, h5⟩ := h
  have hr : (c.joinReady i).ready.Pairwise c.ahead :=
    insertBy_pairwise Calls.ahead_trans (fun j _ hb => (c.readyBefore_iff i j).mp hb)
      (fun j hj hb => Calls.ahead_total (ne_of_mem_of_not_mem hj hi).symm
        (by rw [← c.readyBefore_iff, hb]; exact Bool.false_ne_true)) h4
  exact ⟨h1, h2, h3, hr, h5⟩

theorem ordered_joinWaiting {c : Calls} {i : CallId} (h : c.ordered) (hi : i ∉ c.waiting) (h2 : 2 ≤ i.val)
    (hf : c.table[i].life ≠ .free) (hw : ∀ j ∈ c.waiting, 2 ≤ j.val ∧ c.table[j].life ≠ .free) :
    (c.joinWaiting i).ordered := by
  have hn := (c.ordered_iff.mp h).2.2
  obtain ⟨k1, k2, k3⟩ := h
  refine ⟨k1, insertBy_pairwise (fun _ _ _ => Nat.lt_trans) (fun j _ hb => of_decide_eq_true hb) (fun j hj hb => ?_) k2,
    k3⟩
  obtain ⟨hj2, hjf⟩ := hw j hj
  have hne : c.creation[i] ≠ c.creation[j] := fun e => hi ((hn i h2 hf).2 j hj2 hjf e ▸ hj)
  have := of_decide_eq_false hb
  show c.creation[j] < c.creation[i]
  omega

/-! ## The place of each call (R131) -/

section
variable {c c' : Calls} {J : Set CallId} {i : CallId}

/-- A call in hand is in no list. -/
theorem Calls.Filed.inHand (h : c.Filed J) (h2 : 2 ≤ i.val) (hi : i ∈ J) (l : Life) : i ∉ c.line l :=
  fun hm => ((h.line i l h2).mp hm).1 hi

/-- A call stands in no list but that of its life state. -/
theorem Calls.Filed.notElsewhere (h : c.Filed J) (h2 : 2 ≤ i.val) {l : Life} (hl : c.table[i].life ≠ l) :
    i ∉ c.line l := fun hm => hl ((h.line i l h2).mp hm).2.2

/-- The lists of live calls hold general calls. -/
theorem Calls.Filed.general (h : c.Filed J) {l : Life} (hl : l ≠ .finished) (hm : i ∈ c.line l) : 2 ≤ i.val := by
  by_contra hi
  exact (h.builtIn i (by omega)).1 l hl hm

theorem Calls.Filed.marked (h : c.Filed J) (h2 : 2 ≤ i.val) : c.table[i].marked :=
  ((Calls.ordered_iff _).mp h.ordered).2.1 i h2

/-- The descriptor of a call in hand is written. -/
theorem Calls.Filed.setDesc {d : Descriptor} (h : c.Filed J) (h2 : 2 ≤ i.val) (hi : i ∈ J) (hm : d.marked)
    (hf : d.life ≠ .free → c.table[i].life ≠ .free) : (c.setDesc i d).Filed J := by
  refine ⟨fun j l hj => ?_, h.nodup, h.builtIn,
    ordered_setDesc h.ordered (h.inHand h2 hi .timed) (h.inHand h2 hi .ready) hm hf⟩
  by_cases e : j = i
  · subst e
    exact ⟨fun hm => absurd hm (h.inHand h2 hi l), fun hm => absurd hi hm.1⟩
  · rw [Calls.setDesc_table_of_ne e]; exact h.line j l hj

/-- The descriptor of a built-in call is written. -/
theorem Calls.Filed.setBuiltIn {b : BuiltIn} {d : Descriptor} (h : c.Filed J) :
    (c.setDesc (builtInCall b) d).Filed J := by
  have ne (j : CallId) (hj : 2 ≤ j.val) := Calls.setDesc_table_of_ne (ne_builtInCall hj b) d c
  refine ⟨fun j l hj => by rw [ne j hj]; exact h.line j l hj, h.nodup, h.builtIn, ?_⟩
  have ho := (Calls.ordered_iff _).mp h.ordered
  rw [Calls.ordered_iff]
  obtain ⟨⟨h1, h2, h3, h4⟩, h5, h6⟩ := ho
  refine ⟨⟨h1, h2, List.Pairwise.imp_of_mem (fun ha hb hab => ?_) h3, List.Pairwise.imp_of_mem (fun ha hb hab => ?_) h4⟩,
    fun j hj => by rw [ne j hj]; exact h5 j hj, fun j hj hn => ?_⟩
  · rw [ne _ (h.general (l := .timed) (by decide) ha), ne _ (h.general (l := .timed) (by decide) hb)]; exact hab
  · exact Calls.ahead_congr (ne _ (h.general (l := .ready) (by decide) ha)) (ne _ (h.general (l := .ready) (by decide) hb))
      hab
  · rw [ne j hj] at hn
    obtain ⟨k1, k2⟩ := h6 j hj hn
    exact ⟨k1, fun k hk hkn => k2 k hk (by rwa [ne k hk] at hkn)⟩

/-- A call that is neither FREE nor FINISHED is taken in hand. -/
theorem Calls.Filed.leave (h : c.Filed J) (hf : i ∉ c.pool) (hn : .general i ∉ c.finished) :
    (c.leave i).Filed (insert i J) := by
  have gone (l : Life) (h2 : 2 ≤ i.val) : i ∉ (c.leave i).line l := by
    cases l with
    | free => exact hf
    | playing => exact List.not_mem_nil
    | finished => exact mt (Calls.mem_line_finished h2).mp hn
    | waiting => exact (h.nodup .waiting).not_mem_erase
    | timed => exact (h.nodup .timed).not_mem_erase
    | ready => exact (h.nodup .ready).not_mem_erase
  have stays (j : CallId) (l : Life) (e : j ≠ i) : j ∈ (c.leave i).line l ↔ j ∈ c.line l := by
    cases l with
    | free | playing | finished => exact .rfl
    | waiting | timed | ready => exact List.mem_erase_of_ne e
  refine ⟨fun j l hj => ?_, fun l => ?_, fun j hj => ⟨fun l hl hm => ?_, (h.builtIn j hj).2⟩, ordered_leave i h.ordered⟩
  · by_cases e : j = i
    · subst e
      exact ⟨fun hm => absurd hm (gone l hj), fun hm => absurd (Set.mem_insert j J) hm.1⟩
    · rw [stays j l e, h.line j l hj, Set.mem_insert_iff, or_iff_right e]
      exact .rfl
  · cases l with
    | free => exact h.nodup .free
    | playing => exact List.nodup_nil
    | finished => exact h.nodup .finished
    | waiting => exact (h.nodup .waiting).erase i
    | timed => exact (h.nodup .timed).erase i
    | ready => exact (h.nodup .ready).erase i
  · refine (h.builtIn j hj).1 l hl ?_
    cases l with
    | free | playing | finished => exact hm
    | waiting | timed | ready => exact List.mem_of_mem_erase hm

/-- The call in hand joins the list of its life state. -/
theorem Calls.Filed.join {l : Life} (h : c.Filed (insert i J)) (hi : i ∉ J) (h2 : 2 ≤ i.val) (hl : l ≠ .playing)
    (hd : c.table[i].life = l) (ht : c'.table = c.table) (hp : (c'.line l).Perm (i :: c.line l))
    (ho : ∀ k, k ≠ l → c'.line k = c.line k)
    (hg : ∀ j : CallId, .general j ∈ c'.finished → j = i ∨ .general j ∈ c.finished) (hord : c'.ordered) :
    c'.Filed J := by
  have out (k : Life) := h.inHand h2 (Set.mem_insert i J) k
  refine ⟨fun j k hj => ?_, fun k => ?_, fun j hj => ⟨fun k hk hm => ?_, fun hm => ?_⟩, hord⟩
  · rw [ht]
    by_cases e : j = i
    · subst e
      by_cases ek : k = l
      · subst ek
        exact ⟨fun _ => ⟨hi, hl, hd⟩, fun _ => hp.mem_iff.mpr List.mem_cons_self⟩
      · rw [ho k ek]
        exact ⟨fun hm => absurd hm (out k), fun hm => absurd (hm.2.2.symm.trans hd) ek⟩
    · have hjk : j ∈ c'.line k ↔ j ∈ c.line k := by
        by_cases ek : k = l
        · rw [ek, hp.mem_iff, List.mem_cons, or_iff_right e]
        · rw [ho k ek]
      rw [hjk, h.line j k hj, Set.mem_insert_iff, or_iff_right e]
  · by_cases ek : k = l
    · rw [ek, hp.nodup_iff]; exact List.nodup_cons.mpr ⟨out l, h.nodup l⟩
    · rw [ho k ek]; exact h.nodup k
  · by_cases ek : k = l
    · rw [ek] at hm
      rcases List.mem_cons.mp (hp.mem_iff.mp hm) with e | hm
      · rw [e] at hj; omega
      · exact (h.builtIn j hj).1 l (ek ▸ hk) hm
    · rw [ho k ek] at hm; exact (h.builtIn j hj).1 k hk hm
  · rcases hg j hm with e | hm
    · rw [e] at hj; omega
    · exact (h.builtIn j hj).2 hm

theorem Calls.Filed.joinReady (h : c.Filed (insert i J)) (hi : i ∉ J) (h2 : 2 ≤ i.val) (hd : c.table[i].life = .ready) :
    (c.joinReady i).Filed J :=
  h.join hi h2 (by decide) hd rfl (insertBy_perm _ _ _) (fun k hk => by cases k <;> [rfl; rfl; rfl; exact absurd rfl hk; rfl; rfl])
    (fun _ hj => .inr hj) (ordered_joinReady h.ordered (h.inHand h2 (Set.mem_insert i J) .ready))

theorem Calls.Filed.joinTimetable (h : c.Filed (insert i J)) (hi : i ∉ J) (h2 : 2 ≤ i.val)
    (hd : c.table[i].life = .timed) : (c.joinTimetable i).Filed J :=
  h.join hi h2 (by decide) hd rfl (insertBy_perm _ _ _) (fun k hk => by cases k <;> [rfl; rfl; exact absurd rfl hk; rfl; rfl; rfl])
    (fun _ hj => .inr hj) (ordered_joinTimetable i h.ordered)

theorem Calls.Filed.joinWaiting (h : c.Filed (insert i J)) (hi : i ∉ J) (h2 : 2 ≤ i.val)
    (hd : c.table[i].life = .waiting) : (c.joinWaiting i).Filed J :=
  h.join hi h2 (by decide) hd rfl (insertBy_perm _ _ _) (fun k hk => by cases k <;> [rfl; exact absurd rfl hk; rfl; rfl; rfl; rfl])
    (fun _ hj => .inr hj)
    (ordered_joinWaiting h.ordered (h.inHand h2 (Set.mem_insert i J) .waiting) h2 (by rw [hd]; decide) fun j hj => by
      have hj2 := h.general (l := .waiting) (by decide) hj
      exact ⟨hj2, by rw [((h.line j .waiting hj2).mp hj).2.2]; decide⟩)

theorem Calls.Filed.joinPool (h : c.Filed (insert i J)) (hi : i ∉ J) (h2 : 2 ≤ i.val) (hd : c.table[i].life = .free) :
    (c.joinPool i).Filed J :=
  h.join hi h2 (by decide) hd rfl (insertBy_perm _ _ _) (fun k hk => by cases k <;> [exact absurd rfl hk; rfl; rfl; rfl; rfl; rfl])
    (fun _ hj => .inr hj) (ordered_joinPool h.ordered (h.inHand h2 (Set.mem_insert i J) .free))

theorem Calls.Filed.joinFinished (h : c.Filed (insert i J)) (hi : i ∉ J) (h2 : 2 ≤ i.val)
    (hd : c.table[i].life = .finished) : ({ c with finished := c.finished ++ [.general i] } : Calls).Filed J := by
  refine h.join hi h2 (by decide) hd rfl ?_ (fun k hk => by cases k <;> [rfl; rfl; rfl; rfl; rfl; exact absurd rfl hk])
    (fun j hj => ?_) h.ordered
  · simp only [Calls.line, List.map_append]
    exact List.perm_append_singleton _ _
  · rcases List.mem_append.mp hj with hj | hj
    · exact .inr hj
    · exact .inl (Finished.general.inj (List.mem_singleton.mp hj))

end

end Sys2Proof.Machine
end

section
/-! SUPPORT. The channels and the runs of the built-in calls under the elementary writes (R151 to R163): a channel goes
out of account with the call that it carries, is written, and is taken into account again. -/
namespace Sys2Proof.Machine

theorem builtInCall_injective : Function.Injective builtInCall := by
  intro a b h
  cases a <;> cases b <;> simp [builtInCall] at h ⊢

section
variable {c c' : Calls} {R R' : BuiltIn → Prop} {J : Set CallId} {K : Set Channel} {i : CallId} {ch : Channel}

theorem Calls.setRun_run (b b' : BuiltIn) (r : RunPosition) (c : Calls) :
    (c.setRun b r).run b' = if b' = b then r else c.run b' := by
  cases b <;> cases b' <;> rfl

theorem Calls.setRun_table (b : BuiltIn) (r : RunPosition) (c : Calls) : (c.setRun b r).table = c.table := by
  cases b <;> rfl

theorem Calls.setChan_table (k : Channel) (r : ChannelRecord) (c : Calls) : (c.setChan k r).table = c.table := by
  cases k <;> rfl

/-- What the law of the channels reads, as it was. -/
theorem Calls.Wired.congr (h : c.Wired R J K) (ht : ∀ i : CallId, c'.table[i].life = c.table[i].life ∧
      c'.table[i].channel = c.table[i].channel ∧ c'.table[i].deadline = c.table[i].deadline)
    (hc : ∀ k, (c'.chan k).call = (c.chan k).call ∧ (c'.chan k).carrying = (c.chan k).carrying)
    (hr : c'.run = c.run) : c'.Wired R J K := by
  obtain ⟨h1, h2, h3, h4, h5, h6⟩ := h
  refine ⟨fun k hk => ?_, fun k hk i hi h => ?_, fun i hi hj hl => ?_, fun k hk b => ?_, fun b => ?_, fun i hi => ?_⟩
  · rw [(hc k).1, (hc k).2]; exact h1 k hk
  · rw [(ht i).1, (ht i).2.1]; exact h2 k hk i ((hc k).1.symm.trans hi) h
  · rw [(ht i).1] at hl
    obtain ⟨k, hk, e⟩ := h3 i hi hj hl
    exact ⟨k, hk, (hc k).1.trans e⟩
  · rw [hr, (hc k).1]; exact h4 k hk b
  · rw [hr]; exact h5 b
  · rw [(ht i).2.2]; exact h6 i hi

/-- A call that is not PLAYING is taken in hand. -/
theorem Calls.Wired.hold (h : c.Wired R J K) (hl : c.table[i].life ≠ .playing) : c.Wired R (insert i J) K := by
  refine ⟨h.carries, fun k hk j hj h2 => ?_, fun j h2 hj => h.playing j h2 (mt (Set.mem_insert_of_mem i) hj), h.onChannel,
    h.runs, h.noDeadline⟩
  obtain ⟨k1, k2, k3⟩ := h.general k hk j hj h2
  have e : j ≠ i := fun e => hl (e ▸ k2)
  exact ⟨by rw [Set.mem_insert_iff, not_or]; exact ⟨e, k1⟩, k2, k3⟩

/-- The call in hand has been put in its place. -/
theorem Calls.Wired.place (h : c.Wired R (insert i J) K) (hl : c.table[i].life ≠ .playing) : c.Wired R J K := by
  refine ⟨h.carries, fun k hk j hj h2 => ?_, fun j h2 hj hp => h.playing j h2 ?_ hp, h.onChannel, h.runs, h.noDeadline⟩
  · obtain ⟨k1, k2⟩ := h.general k hk j hj h2
    exact ⟨mt (Set.mem_insert_of_mem i) k1, k2⟩
  · rw [Set.mem_insert_iff, not_or]
    exact ⟨fun e => hl (e ▸ hp), hj⟩

/-- The descriptor of a call in hand is written. -/
theorem Calls.Wired.setDesc (h : c.Wired R J K) (h2 : 2 ≤ i.val) (hi : i ∈ J) (d : Descriptor) :
    (c.setDesc i d).Wired R J K := by
  refine ⟨h.carries, fun k hk j hj hj2 => ?_, fun j hj2 hj hl => ?_, h.onChannel, h.runs, fun j hj => ?_⟩
  · have hw := h.general k hk j hj hj2
    rw [Calls.setDesc_table_of_ne (ne_of_mem_of_not_mem hi hw.1).symm]
    exact hw
  · rw [Calls.setDesc_table_of_ne (ne_of_mem_of_not_mem hi hj).symm] at hl
    exact h.playing j hj2 hj hl
  · rw [Calls.setDesc_table_of_ne fun e => by rw [e] at hj; omega]
    exact h.noDeadline j hj

/-- The descriptor of a built-in call is written. -/
theorem Calls.Wired.setBuiltIn {b : BuiltIn} {d : Descriptor} (h : c.Wired R J K) (hd : d.deadline = none) :
    (c.setDesc (builtInCall b) d).Wired R J K := by
  have ne (j : CallId) (hj : 2 ≤ j.val) := Calls.setDesc_table_of_ne (ne_builtInCall hj b) d c
  refine ⟨h.carries, fun k hk j hj hj2 => ?_, fun j hj2 hj hl => ?_, h.onChannel, h.runs, fun j hj => ?_⟩
  · rw [ne j hj2]; exact h.general k hk j hj hj2
  · rw [ne j hj2] at hl; exact h.playing j hj2 hj hl
  · rw [Calls.setDesc_table]
    split
    · exact hd
    · exact h.noDeadline j hj

/-- A channel that carries no general call goes out of account. -/
theorem Calls.Wired.drop (h : c.Wired R J K) (hc : ∀ i : CallId, (c.chan ch).call = some i → i.val < 2) :
    c.Wired R J (insert ch K) := by
  have watched {k : Channel} (hk : k ∉ insert ch K) : k ∉ K := mt (Set.mem_insert_of_mem ch) hk
  refine ⟨fun k hk => h.carries k (watched hk), fun k hk => h.general k (watched hk), fun i hi hj hl => ?_,
    fun k hk => h.onChannel k (watched hk), h.runs, h.noDeadline⟩
  obtain ⟨k, hk, e⟩ := h.playing i hi hj hl
  have hne : k ≠ ch := fun he => by have := hc i (he ▸ e); omega
  exact ⟨k, by rw [Set.mem_insert_iff, not_or]; exact ⟨hne, hk⟩, e⟩

/-- A channel goes out of account and its general call is taken in hand. -/
theorem Calls.Wired.dropCall (h : c.Wired R J K) (hk : ch ∉ K) (hc : (c.chan ch).call = some i) (h2 : 2 ≤ i.val) :
    c.Wired R (insert i J) (insert ch K) := by
  have watched {k : Channel} (hk : k ∉ insert ch K) : k ∉ K := mt (Set.mem_insert_of_mem ch) hk
  refine ⟨fun k hk => h.carries k (watched hk), fun k hk' j hj hj2 => ?_, fun j hj2 hj hl => ?_,
    fun k hk => h.onChannel k (watched hk), h.runs, h.noDeadline⟩
  · obtain ⟨k1, k2, k3⟩ := h.general k (watched hk') j hj hj2
    refine ⟨?_, k2, k3⟩
    rw [Set.mem_insert_iff, not_or]
    refine ⟨fun e => hk' ?_, k1⟩
    have hch := (h.general ch hk i hc h2).2.2
    rw [← e, k3] at hch
    exact Set.mem_insert_iff.mpr (.inl (Option.some.inj hch))
  · obtain ⟨k, hk, e⟩ := h.playing j hj2 (mt (Set.mem_insert_of_mem i) hj) hl
    have hne : k ≠ ch := fun he => by
      rw [he, hc] at e
      exact hj (Set.mem_insert_iff.mpr (.inl (Option.some.inj e).symm))
    exact ⟨k, by rw [Set.mem_insert_iff, not_or]; exact ⟨hne, hk⟩, e⟩

/-- A channel out of account is written. -/
theorem Calls.Wired.setChan (h : c.Wired R J K) (hk : ch ∈ K) (r : ChannelRecord) : (c.setChan ch r).Wired R J K := by
  have hr : (c.setChan ch r).run = c.run := by cases ch <;> rfl
  have ht := Calls.setChan_table ch r c
  have other (k : Channel) (hk' : k ∉ K) : (c.setChan ch r).chan k = c.chan k :=
    Calls.chan_setChan_of_ne c r (ne_of_mem_of_not_mem hk hk').symm
  refine ⟨fun k hk' => ?_, fun k hk' i hi h2 => ?_, fun i h2 hj hl => ?_, fun k hk' b => ?_, hr ▸ h.runs, fun i hi => ?_⟩
  · rw [other k hk']; exact h.carries k hk'
  · rw [other k hk'] at hi; rw [ht]; exact h.general k hk' i hi h2
  · rw [ht] at hl
    obtain ⟨k, hk', e⟩ := h.playing i h2 hj hl
    exact ⟨k, hk', (other k hk').symm ▸ e⟩
  · rw [other k hk', hr]; exact h.onChannel k hk' b
  · rw [ht]; exact h.noDeadline i hi

/-- The run of a built-in call is written while it is on no channel that is taken into account. -/
theorem Calls.Wired.setRun {b : BuiltIn} {r : RunPosition} (h : c.Wired R J K) (hb : ∀ k ∉ K, c.run b ≠ .onChannel k)
    (hr : ∀ k ∉ K, r ≠ .onChannel k) (hb' : r ≠ .notRunning ↔ R' b) (ho : ∀ b', b' ≠ b → (R' b' ↔ R b')) :
    (c.setRun b r).Wired R' J K := by
  have hc (k : Channel) : (c.setRun b r).chan k = c.chan k := setRun_chan b r c k
  have ht := Calls.setRun_table b r c
  refine ⟨fun k hk => ?_, fun k hk i hi h2 => ?_, fun i h2 hj hl => ?_, fun k hk b' => ?_, fun b' => ?_, fun i hi => ?_⟩
  · rw [hc]; exact h.carries k hk
  · rw [hc] at hi; rw [ht]; exact h.general k hk i hi h2
  · rw [ht] at hl
    obtain ⟨k, hk, e⟩ := h.playing i h2 hj hl
    exact ⟨k, hk, by rw [hc]; exact e⟩
  · rw [hc, Calls.setRun_run, ← h.onChannel k hk b']
    split
    · next e => rw [e]; exact ⟨fun hn => absurd hn (hr k hk), fun hn => absurd hn (hb k hk)⟩
    · exact .rfl
  · rw [Calls.setRun_run]
    split
    · next e => rw [e]; exact hb'
    · next e => rw [ho b' e]; exact h.runs b'
  · rw [ht]; exact h.noDeadline i hi

/-- A channel that carries nothing is taken into account. -/
theorem Calls.Wired.watch (h : c.Wired R J (insert ch K)) (hc : (c.chan ch).call = none)
    (hs : (c.chan ch).carrying = false) (hr : ∀ b, c.run b ≠ .onChannel ch) : c.Wired R J K := by
  have other {k : Channel} (hk : k ∉ K) (e : k ≠ ch) : k ∉ insert ch K := by
    rw [Set.mem_insert_iff, not_or]; exact ⟨e, hk⟩
  refine ⟨fun k hk => ?_, fun k hk i hi => ?_, fun i h2 hj hl => ?_, fun k hk b => ?_, h.runs, h.noDeadline⟩
  · by_cases e : k = ch
    · rw [e, hc, hs]; rfl
    · exact h.carries k (other hk e)
  · by_cases e : k = ch
    · rw [e, hc] at hi; cases hi
    · exact h.general k (other hk e) i hi
  · obtain ⟨k, hk, e⟩ := h.playing i h2 hj hl
    exact ⟨k, mt (Set.mem_insert_of_mem ch) hk, e⟩
  · by_cases e : k = ch
    · rw [e, hc]; exact ⟨fun hn => absurd hn (hr b), fun hn => nomatch hn⟩
    · exact h.onChannel k (other hk e) b

/-- A channel that carries the general call in hand is taken into account. -/
theorem Calls.Wired.watchCall (h : c.Wired R (insert i J) (insert ch K)) (hk : ch ∉ K) (hi : i ∉ J) (h2 : 2 ≤ i.val)
    (hc : (c.chan ch).call = some i) (hs : (c.chan ch).carrying = true)
    (hl : c.table[i].life = .playing) (hn : c.table[i].channel = some ch) (hr : ∀ b, c.run b ≠ .onChannel ch) :
    c.Wired R J K := by
  have other {k : Channel} (hk : k ∉ K) (e : k ≠ ch) : k ∉ insert ch K := by
    rw [Set.mem_insert_iff, not_or]; exact ⟨e, hk⟩
  refine ⟨fun k hk => ?_, fun k hk j hj hj2 => ?_, fun j hj2 hj hp => ?_, fun k hk b => ?_, h.runs, h.noDeadline⟩
  · by_cases e : k = ch
    · rw [e, hc, hs]; rfl
    · exact h.carries k (other hk e)
  · by_cases e : k = ch
    · rw [e] at hj ⊢
      obtain rfl : i = j := Option.some.inj (hc.symm.trans hj)
      exact ⟨hi, hl, hn⟩
    · obtain ⟨k1, k2⟩ := h.general k (other hk e) j hj hj2
      exact ⟨mt (Set.mem_insert_of_mem i) k1, k2⟩
  · by_cases e : j = i
    · exact ⟨ch, hk, e ▸ hc⟩
    · obtain ⟨k, hk', hkc⟩ := h.playing j hj2 (by rw [Set.mem_insert_iff, not_or]; exact ⟨e, hj⟩) hp
      exact ⟨k, mt (Set.mem_insert_of_mem ch) hk', hkc⟩
  · by_cases e : k = ch
    · rw [e, hc]
      exact ⟨fun hn => absurd hn (hr b), fun hn => absurd (Option.some.inj hn) (ne_builtInCall h2 b)⟩
    · exact h.onChannel k (other hk e) b

/-- A channel that carries a built-in call whose run is on it is taken into account. -/
theorem Calls.Wired.watchBuiltIn {b : BuiltIn} (h : c.Wired R J (insert ch K)) (hc : (c.chan ch).call = some (builtInCall b))
    (hs : (c.chan ch).carrying = true) (hb : c.run b = .onChannel ch) (hr : ∀ b', b' ≠ b → c.run b' ≠ .onChannel ch) :
    c.Wired R J K := by
  have other {k : Channel} (hk : k ∉ K) (e : k ≠ ch) : k ∉ insert ch K := by
    rw [Set.mem_insert_iff, not_or]; exact ⟨e, hk⟩
  refine ⟨fun k hk => ?_, fun k hk i hi h2 => ?_, fun i h2 hj hl => ?_, fun k hk b' => ?_, h.runs, h.noDeadline⟩
  · by_cases e : k = ch
    · rw [e, hc, hs]; rfl
    · exact h.carries k (other hk e)
  · by_cases e : k = ch
    · rw [e, hc] at hi
      exact absurd (Option.some.inj hi).symm (ne_builtInCall h2 b)
    · exact h.general k (other hk e) i hi h2
  · obtain ⟨k, hk, e⟩ := h.playing i h2 hj hl
    exact ⟨k, mt (Set.mem_insert_of_mem ch) hk, e⟩
  · by_cases e : k = ch
    · rw [e, hc]
      by_cases eb : b' = b
      · rw [eb]; exact ⟨fun _ => rfl, fun _ => hb⟩
      · refine ⟨fun hn => absurd hn (hr b' eb), fun hn => absurd (Option.some.inj hn) fun he => eb ?_⟩
        exact builtInCall_injective he.symm
    · exact h.onChannel k (other hk e) b'

/-- A built-in call is on one channel alone. -/
theorem Calls.Wired.otherChannel {b : BuiltIn} (h : c.Wired R J K) (hk : ch ∉ K) {x : Option CallId}
    (hc : (c.chan ch).call = x) (hx : x ≠ some (builtInCall b)) : c.run b ≠ .onChannel ch := fun hr =>
  hx (hc.symm.trans ((h.onChannel ch hk b).mp hr))

end

end Sys2Proof.Machine
end

section
/-! SUPPORT. The law of the calls under the operations of the Call Scheduler (R131, R135, R139, R143, R164, R165): a call
enters a collection, finishes, and the finished list is drained. -/
namespace Sys2Proof.Machine

section
variable {c c' : Calls} {w : Act Calls} {R R' : BuiltIn → Prop} {J : Set CallId} {K : Set Channel} {i : CallId}

/-! ## A call enters a collection -/

/-- The channels and the runs do not hear of a list. -/
theorem Calls.Wired.lists (h : c.Wired R J K) (ht : c'.table = c.table) (hc : c'.chan = c.chan) (hr : c'.run = c.run) :
    c'.Wired R J K :=
  h.congr (fun i => by rw [ht]; exact ⟨rfl, rfl, rfl⟩) (fun k => by rw [hc]; exact ⟨rfl, rfl⟩) hr

theorem chan_eq (ha : c'.chanA = c.chanA) (hb : c'.chanB = c.chanB) : c'.chan = c.chan :=
  funext fun k => by cases k <;> [exact ha; exact hb]

theorem run_eq (he : c'.evacuation = c.evacuation) (hs : c'.staffAlert = c.staffAlert) : c'.run = c.run :=
  funext fun b => by cases b <;> [exact he; exact hs]

/-- A live call, not on a channel, is taken in hand. -/
theorem Calls.Sound.leave (h : c.Sound R J K) (h2 : 2 ≤ i.val)
    (hl : c.table[i].life = .waiting ∨ c.table[i].life = .timed ∨ c.table[i].life = .ready) :
    (c.leave i).Sound R (insert i J) K := by
  obtain ⟨hf, hn, hp⟩ : c.table[i].life ≠ .free ∧ c.table[i].life ≠ .finished ∧ c.table[i].life ≠ .playing := by
    rcases hl with e | e | e <;> rw [e] <;> decide
  exact ⟨h.filed.leave (h.filed.notElsewhere h2 hf) (mt (Calls.mem_line_finished h2).mpr (h.filed.notElsewhere h2 hn)),
    (h.wired.hold hp).lists rfl (chan_eq rfl rfl) (run_eq rfl rfl)⟩

/-- The descriptor of the call in hand is written. -/
theorem Calls.Sound.setDesc {d : Descriptor} (h : c.Sound R J K) (hi : i ∈ J) (h2 : 2 ≤ i.val) (hm : d.marked)
    (hf : d.life ≠ .free → c.table[i].life ≠ .free) : (c.setDesc i d).Sound R J K :=
  ⟨h.filed.setDesc h2 hi hm hf, h.wired.setDesc h2 hi d⟩

theorem Calls.Sound.enterReady (h : c.Sound R (insert i J) K) (hi : i ∉ J) (h2 : 2 ≤ i.val)
    (hf : c.table[i].life ≠ .free) (now : Nat) : (enterReady now i c).Sound R J K := by
  have hd := h.setDesc (d := c.table[i].readyAt now) (Set.mem_insert i J) h2 ⟨(nomatch ·), fun _ => rfl⟩
    fun _ => hf
  have hl := Calls.setDesc_table_self i (c.table[i].readyAt now) c
  exact ⟨hd.filed.joinReady hi h2 (by rw [hl]; rfl),
    (hd.wired.place (by rw [hl]; exact fun e => nomatch e)).lists rfl (chan_eq rfl rfl) (run_eq rfl rfl)⟩

theorem Calls.Sound.enterTimed (h : c.Sound R (insert i J) K) (hi : i ∉ J) (h2 : 2 ≤ i.val)
    (hf : c.table[i].life ≠ .free) (due : Nat) (basis : DueBasis) : (enterTimed due basis i c).Sound R J K := by
  have hd := h.setDesc (d := c.table[i].timedAt due basis) (Set.mem_insert i J) h2
    ⟨fun _ => rfl, fun e => e.elim (nomatch ·) (nomatch ·)⟩ fun _ => hf
  have hl := Calls.setDesc_table_self i (c.table[i].timedAt due basis) c
  exact ⟨hd.filed.joinTimetable hi h2 (by rw [hl]; rfl),
    (hd.wired.place (by rw [hl]; exact fun e => nomatch e)).lists rfl (chan_eq rfl rfl) (run_eq rfl rfl)⟩

theorem Calls.Sound.enterWaiting (h : c.Sound R (insert i J) K) (hi : i ∉ J) (h2 : 2 ≤ i.val)
    (hf : c.table[i].life ≠ .free) : (enterWaiting i c).Sound R J K := by
  have hd := h.setDesc (d := c.table[i].awaiting) (Set.mem_insert i J) h2
    ⟨(nomatch ·), fun e => e.elim (nomatch ·) (nomatch ·)⟩ fun _ => hf
  have hl := Calls.setDesc_table_self i c.table[i].awaiting c
  exact ⟨hd.filed.joinWaiting hi h2 (by rw [hl]; rfl),
    (hd.wired.place (by rw [hl]; exact fun e => nomatch e)).lists rfl (chan_eq rfl rfl) (run_eq rfl rfl)⟩

/-- A call in hand returns to the free pool. -/
theorem Calls.Sound.freeCall (h : c.Sound R (insert i J) K) (hi : i ∉ J) (h2 : 2 ≤ i.val) :
    (freeCall i c).Sound R J K := by
  have hd := h.setDesc (d := Descriptor.free) (Set.mem_insert i J) h2
    ⟨(nomatch ·), fun e => e.elim (nomatch ·) (nomatch ·)⟩ fun e => absurd rfl e
  have hl := Calls.setDesc_table_self i Descriptor.free c
  exact ⟨hd.filed.joinPool hi h2 (by rw [hl]; rfl),
    (hd.wired.place (by rw [hl]; exact fun e => nomatch e)).lists rfl (chan_eq rfl rfl) (run_eq rfl rfl)⟩

/-! ## The drain (R165) -/

/-- What leaves the finished list and what stays are all of it. -/
theorem takeOwned_perm (owned : Finished → Bool) (room : Nat) (xs : List Finished) :
    ((takeOwned owned room xs).1 ++ (takeOwned owned room xs).2).Perm xs := by
  induction xs generalizing room with
  | nil => exact .refl _
  | cons x xs ih =>
    unfold takeOwned
    split
    · exact .refl _
    · split
      · exact (ih _).cons x
      · exact (List.perm_middle).trans ((ih _).cons x)

/-- The queues are no part of the law. -/
theorem Calls.Sound.setQueue (h : c.Sound R J K) (k : Desk) (q : List Completion) : (c.setQueue k q).Sound R J K := by
  obtain ⟨⟨h1, h2, h3, h4⟩, ⟨k1, k2, k3, k4, k5, k6⟩⟩ := h
  cases k <;> exact ⟨⟨h1, h2, h3, h4⟩, ⟨k1, k2, k3, k4, k5, k6⟩⟩

/-- The calls among some items. -/
def callsOf (ys : List Finished) : Set CallId := {i | .general i ∈ ys}

/-- Items that leave the finished list are in hand. -/
theorem Calls.Sound.takeFinished (h : c.Sound R J K) {out stay : List Finished} (hp : (out ++ stay).Perm c.finished) :
    ({ c with finished := stay } : Calls).Sound R (J ∪ callsOf out) K := by
  have line (l : Life) : (({ c with finished := stay } : Calls).line l).Sublist (c.line l) ∨ l = .finished := by
    cases l <;> simp [Calls.line]
  have hn : (out.map Finished.descriptor ++ stay.map Finished.descriptor).Nodup := by
    rw [← List.map_append]
    exact (hp.map _).nodup_iff.mpr (h.filed.nodup .finished)
  have mem (i : CallId) (h2 : 2 ≤ i.val) : .general i ∈ out ∨ .general i ∈ stay ↔ i ∉ J ∧ c.table[i].life = .finished := by
    rw [← List.mem_append, hp.mem_iff, ← Calls.mem_line_finished h2, h.filed.line i _ h2]
    exact and_congr_right fun _ => and_iff_right (by decide)
  have apart (i : CallId) (ho : .general i ∈ out) : .general i ∉ stay := fun hs =>
    (List.nodup_append.mp hn).2.2 i (List.mem_map_of_mem ho) i (List.mem_map_of_mem hs) rfl
  refine ⟨⟨fun i l h2 => ?_, fun l => ?_, fun i hi => ?_, h.filed.ordered⟩, ?_⟩
  · rw [Set.mem_union, not_or]
    by_cases e : l = .finished
    · rw [e, Calls.mem_line_finished (c := { c with finished := stay }) h2]
      constructor
      · intro hs
        obtain ⟨m1, m2⟩ := (mem i h2).mp (.inr hs)
        exact ⟨⟨m1, fun ho => apart i ho hs⟩, by decide, m2⟩
      · rintro ⟨⟨m1, m2⟩, -, m3⟩
        exact ((mem i h2).mpr ⟨m1, m3⟩).resolve_left m2
    · have hl : ({ c with finished := stay } : Calls).line l = c.line l := by
        cases l <;> [rfl; rfl; rfl; rfl; rfl; exact absurd rfl e]
      rw [hl, h.filed.line i l h2]
      refine ⟨fun ⟨m1, m2, m3⟩ => ⟨⟨m1, fun ho => e ?_⟩, m2, m3⟩, fun ⟨⟨m1, _⟩, m2, m3⟩ => ⟨m1, m2, m3⟩⟩
      exact m3.symm.trans ((mem i h2).mp (.inl ho)).2
  · cases l with
    | finished => exact (List.nodup_append.mp hn).2.1
    | free => exact h.filed.nodup .free
    | waiting => exact h.filed.nodup .waiting
    | timed => exact h.filed.nodup .timed
    | ready => exact h.filed.nodup .ready
    | playing => exact List.nodup_nil
  · obtain ⟨b1, b2⟩ := h.filed.builtIn i hi
    refine ⟨fun l hl => ?_, fun hs => b2 (hp.mem_iff.mp (List.mem_append_right _ hs))⟩
    cases l <;> [exact b1 .free hl; exact b1 .waiting hl; exact b1 .timed hl; exact b1 .ready hl;
      exact List.not_mem_nil; exact absurd rfl hl]
  · obtain ⟨k1, k2, k3, k4, k5, k6⟩ := h.wired
    refine ⟨k1, fun k hk j hj h2 => ?_, fun j h2 hj => k3 j h2 fun hJ => hj (.inl hJ), k4, k5, k6⟩
    obtain ⟨m1, m2, m3⟩ := k2 k hk j hj h2
    refine ⟨fun hu => hu.elim m1 fun ho => ?_, m2, m3⟩
    have hf := ((mem j h2).mp (.inl ho)).2
    have : Life.playing = .finished := m2.symm.trans hf
    cases this

theorem Calls.Sound.drainItems {k : Desk} {ys : List Finished} (h : c.Sound R (J ∪ callsOf ys) K)
    (hn : (ys.map Finished.descriptor).Nodup) (hj : ∀ i : CallId, .general i ∈ ys → 2 ≤ i.val ∧ i ∉ J) :
    (ys.foldl (drainItem k) c).Sound R J K := by
  induction ys generalizing c with
  | nil =>
    have e : J ∪ callsOf [] = J := Set.union_eq_self_of_subset_right fun i hi => absurd hi List.not_mem_nil
    rwa [e] at h
  | cons y ys ih =>
    rw [List.map_cons, List.nodup_cons] at hn
    refine ih ?_ hn.2 fun i hi => hj i (.tail _ hi)
    cases y with
    | builtIn b n =>
      have e : callsOf (.builtIn b n :: ys) = callsOf ys := Set.ext fun i => by simp [callsOf]
      rw [e] at h
      exact h.setQueue k _
    | general i =>
      obtain ⟨h2, hi⟩ := hj i List.mem_cons_self
      have e : J ∪ callsOf (.general i :: ys) = insert i (J ∪ callsOf ys) := Set.ext fun j => by
        simp [callsOf, or_left_comm]
      rw [e] at h
      have hni : i ∉ J ∪ callsOf ys := fun hu => hu.elim hi fun hm => hn.1 (List.mem_map_of_mem (f := Finished.descriptor) hm)
      exact (h.setQueue k _).freeCall hni h2

/-- The drain keeps the law (R165). -/
theorem Calls.Sound.drain (h : w.val.Sound R J K) (quiet : Bool) (k : Desk) : (drain quiet k w).val.Sound R J K := by
  have hp := takeOwned_perm (fun x => w.val.ownerOf x = k) (completionRoom - (w.val.queue k).length) w.val.finished
  unfold Machine.drain
  dsimp only
  generalize takeOwned (fun x => w.val.ownerOf x = k) (completionRoom - (w.val.queue k).length) w.val.finished = r at hp
  refine (h.takeFinished hp).drainItems ?_ fun i hi => ?_
  · have hn : (r.1.map Finished.descriptor ++ r.2.map Finished.descriptor).Nodup := by
      rw [← List.map_append]
      exact (hp.map _).nodup_iff.mpr (h.filed.nodup .finished)
    exact (List.nodup_append.mp hn).1
  · have hm : .general i ∈ w.val.finished := hp.mem_iff.mp (List.mem_append_left _ hi)
    have h2 : 2 ≤ i.val := by
      by_contra hlt
      exact (h.filed.builtIn i (by omega)).2 hm
    exact ⟨h2, ((h.filed.line i .finished h2).mp ((Calls.mem_line_finished h2).mpr hm)).1⟩

/-! ## A call finishes (R143, R164) -/

/-- The call in hand finishes. -/
theorem Calls.Sound.finishCall (h : w.val.Sound R (insert i J) K) (hi : i ∉ J) (h2 : 2 ≤ i.val)
    (hf : w.val.table[i].life ≠ .free) (now : Nat) (o : CallOutcome) : (finishCall now i o w).val.Sound R J K := by
  have hout (l : Life) := h.filed.inHand h2 (Set.mem_insert i J) l
  have hl : (w.val.leave i).Sound R (insert i J) K := by
    have := h.filed.leave (hout .free) (mt (Calls.mem_line_finished h2).mpr (hout .finished))
    rw [Set.insert_eq_of_mem (Set.mem_insert i J)] at this
    exact ⟨this, h.wired.lists rfl (chan_eq rfl rfl) (run_eq rfl rfl)⟩
  generalize hd : ({ w.val.table[i] with
    life := .finished, due := none, basis := none, entry := none, deadline := none, channel := none
    outcome := some o, finishTime := some now } : Descriptor) = d
  have hdl : d.life = .finished := by rw [← hd]
  have hw := hl.setDesc (d := d) (Set.mem_insert i J) h2
    ⟨by rw [hdl]; exact (nomatch ·), by rw [hdl]; exact fun e => e.elim (nomatch ·) (nomatch ·)⟩ fun _ => hf
  have ht := Calls.setDesc_table_self i d (w.val.leave i)
  have hj : (w.val.withFinished now i o).Sound R J K := by
    unfold Calls.withFinished
    rw [hd]
    exact ⟨hw.filed.joinFinished hi h2 (by rw [ht, hdl]),
      (hw.wired.place (by rw [ht, hdl]; exact fun e => nomatch e)).lists rfl (chan_eq rfl rfl) (run_eq rfl rfl)⟩
  exact hj.drain (w := ⟨_, _⟩) false _

theorem Calls.leave_leave (h : c.Filed J) (i : CallId) : (c.leave i).leave i = c.leave i := by
  have once {l : List CallId} (hl : l.Nodup) : (l.erase i).erase i = l.erase i :=
    List.erase_of_not_mem hl.not_mem_erase
  unfold Calls.leave
  dsimp only
  rw [once (l := c.waiting) (h.nodup .waiting), once (l := c.timetable) (h.nodup .timed),
    once (l := c.ready) (h.nodup .ready)]

theorem finishCall_leave (h : (w.val.leave i).leave i = w.val.leave i) (now : Nat) (o : CallOutcome) :
    finishCall now i o w = finishCall now i o (w.map (Calls.leave i)) := by
  unfold finishCall
  simp only [Act.map_val, h]
  rfl

/-- A call that stands in a list of live calls finishes. -/
theorem Calls.Sound.finishListed (h : w.val.Sound R J K) (hi : i ∉ J) (h2 : 2 ≤ i.val)
    (hl : w.val.table[i].life = .waiting ∨ w.val.table[i].life = .timed ∨ w.val.table[i].life = .ready) (now : Nat)
    (o : CallOutcome) : (Machine.finishCall now i o w).val.Sound R J K := by
  have hs := h.leave h2 hl
  have hf : w.val.table[i].life ≠ .free := by rcases hl with e | e | e <;> rw [e] <;> decide
  rw [finishCall_leave (Calls.leave_leave h.filed i)]
  exact hs.finishCall (w := w.map (Calls.leave i)) hi h2 hf now o

/-! ## Arming (R135) -/

/-- Arming puts the call in hand in its place. -/
theorem Calls.Sound.armCall (h : w.val.Sound R (insert i J) K) (hi : i ∉ J) (h2 : 2 ≤ i.val)
    (hf : w.val.table[i].life ≠ .free) (now due : Nat) (basis : DueBasis) :
    (armCall now due basis i w).val.Sound R J K := by
  unfold Machine.armCall
  split
  · exact h.enterTimed hi h2 hf due basis
  · exact h.finishCall hi h2 hf now .expired
  · exact h.enterReady hi h2 hf now

theorem Calls.Sound.armFromAnchor (h : w.val.Sound R (insert i J) K) (hi : i ∉ J) (h2 : 2 ≤ i.val)
    (hf : w.val.table[i].life ≠ .free) (e : CallEnv) : (armFromAnchor e i w).val.Sound R J K := by
  unfold Machine.armFromAnchor
  split
  · exact h.armCall hi h2 hf _ _ _
  · exact h.enterWaiting hi h2 hf

/-! ## Calls taken one after another -/

/-- An act at a list of calls, one after another, each still in its life state `l` when its turn comes. -/
theorem sound_foldl {α : Type} {π : α → Calls} {f : α → CallId → α} {l : Life} (hlf : l ≠ .finished)
    {is : List CallId}
    (hf : ∀ a i, (π a).Sound R J K → i ∈ is → (π a).table[i].life = l →
      (π (f a i)).Sound R J K ∧ (π a).Spares (· = i) (π (f a i)))
    {a : α} (h : (π a).Sound R J K) (hn : is.Nodup) (hi : ∀ i ∈ is, 2 ≤ i.val ∧ (π a).table[i].life = l) :
    (π (is.foldl f a)).Sound R J K := by
  induction is generalizing a with
  | nil => exact h
  | cons i is ih =>
    obtain ⟨hni, hn⟩ := List.nodup_cons.mp hn
    obtain ⟨k1, k2⟩ := hf a i h List.mem_cons_self (hi i List.mem_cons_self).2
    refine ih (fun a j ha hj => hf a j ha (.tail _ hj)) k1 hn fun j hj => ?_
    obtain ⟨h2, hjl⟩ := hi j (.tail _ hj)
    have hnf : .general j ∉ (π a).finished :=
      mt (Calls.mem_line_finished h2).mpr (h.filed.notElsewhere h2 (by rw [hjl]; exact hlf))
    rw [k2.table_eq (ne_of_mem_of_not_mem hj hni) hnf]
    exact ⟨h2, hjl⟩

end

end Sys2Proof.Machine
end

section
/-! SUPPORT. The law of the calls under the starts and stops of the channels and the walk of the ready queue (R151,
R154, R155, R157 to R160). -/
namespace Sys2Proof.Machine

section
variable {c c' : Calls} {w : Act Calls} {R R' : BuiltIn → Prop} {J : Set CallId} {K : Set Channel} {i : CallId}
  {ch : Channel}

/-! ## A channel written (R151, R154, R155) -/

/-- The collections do not hear of anything else. -/
theorem Calls.Filed.congr (h : c.Filed J) (ht : c'.table = c.table) (hc : c'.creation = c.creation)
    (hn : c'.nextCreation = c.nextCreation) (hp : c'.pool = c.pool) (hw : c'.waiting = c.waiting)
    (hm : c'.timetable = c.timetable) (hr : c'.ready = c.ready) (hf : c'.finished = c.finished) : c'.Filed J := by
  obtain ⟨h1, h2, h3, h4⟩ := h
  have line (l : Life) : c'.line l = c.line l := by
    cases l <;> [exact hp; exact hw; exact hm; exact hr; rfl; exact congrArg _ hf]
  refine ⟨fun i l hi => ?_, fun l => ?_, fun i hi => ?_, ?_⟩
  · rw [line, ht]; exact h1 i l hi
  · rw [line]; exact h2 l
  · rw [hf]; exact ⟨fun l hl => by rw [line]; exact (h3 i hi).1 l hl, (h3 i hi).2⟩
  · unfold Calls.ordered Calls.ahead at h4 ⊢
    rw [ht, hc, hn, hp, hw, hm, hr]; exact h4

theorem Calls.Filed.setChan (h : c.Filed J) (ch : Channel) (r : ChannelRecord) : (c.setChan ch r).Filed J := by
  cases ch <;> exact h.congr rfl rfl rfl rfl rfl rfl rfl rfl

theorem Calls.Filed.setRun (h : c.Filed J) (b : BuiltIn) (r : RunPosition) : (c.setRun b r).Filed J := by
  cases b <;> exact h.congr rfl rfl rfl rfl rfl rfl rfl rfl

/-- Paging zone records are no part of the law. -/
theorem Calls.Sound.setPaging (h : c.Sound R J K) (p : Vector PagingZone 12) :
    ({ c with paging := p } : Calls).Sound R J K :=
  ⟨h.filed.congr rfl rfl rfl rfl rfl rfl rfl rfl, h.wired.lists rfl (chan_eq rfl rfl) (run_eq rfl rfl)⟩

/-- A channel out of account is emptied and taken into account. -/
theorem Calls.Sound.emptyChan (h : c.Sound R J (insert ch K)) (hr : ∀ b, c.run b ≠ .onChannel ch) {r : ChannelRecord}
    (hc : r.call = none) (hs : r.carrying = false) : (c.setChan ch r).Sound R J K := by
  refine ⟨h.filed.setChan ch r, (h.wired.setChan (Set.mem_insert ch K) r).watch ?_ ?_ fun b => ?_⟩
  · rw [Calls.chan_setChan_self]; exact hc
  · rw [Calls.chan_setChan_self]; exact hs
  · rw [setChan_runs]; exact hr b

/-- A channel out of account is written, and stays out of account. -/
theorem Calls.Sound.setChan (h : c.Sound R J K) (hk : ch ∈ K) (r : ChannelRecord) : (c.setChan ch r).Sound R J K :=
  ⟨h.filed.setChan ch r, h.wired.setChan hk r⟩

/-- A channel is written with the call that it carries. -/
theorem Calls.Sound.rewriteChan (h : c.Sound R J K) {r : ChannelRecord} (hc : r.call = (c.chan ch).call)
    (hs : r.carrying = (c.chan ch).carrying) : (c.setChan ch r).Sound R J K := by
  refine ⟨h.filed.setChan ch r, h.wired.congr (fun i => by rw [Calls.setChan_table]; exact ⟨rfl, rfl, rfl⟩) (fun k => ?_)
    (setChan_runs ch r c)⟩
  by_cases hk : k = ch
  · subst hk
    rw [Calls.chan_setChan_self]
    exact ⟨hc, hs⟩
  · rw [Calls.chan_setChan_of_ne c r hk]
    exact ⟨rfl, rfl⟩

/-- A channel in account carries nothing where it is neither STARTING nor PLAYING. -/
theorem Calls.Sound.call_none (h : c.Sound R J K) (hk : ch ∉ K) (hs : (c.chan ch).carrying = false) :
    (c.chan ch).call = none := by
  have := h.wired.carries ch hk
  rw [hs] at this
  exact Option.isNone_iff_eq_none.mp (by rw [← Option.not_isSome, this]; rfl)

theorem Calls.Sound.run_ne (h : c.Sound R J K) (hk : ch ∉ K) (hc : (c.chan ch).call = none) (b : BuiltIn) :
    c.run b ≠ .onChannel ch := h.wired.otherChannel hk hc fun e => nomatch e

/-- A channel that carries a general call runs no built-in call. -/
theorem Calls.Sound.run_ne_of_general (h : c.Sound R J K) (hk : ch ∉ K) (hc : (c.chan ch).call = some i) (h2 : 2 ≤ i.val)
    (b : BuiltIn) : c.run b ≠ .onChannel ch :=
  h.wired.otherChannel hk hc fun e => ne_builtInCall h2 b (Option.some.inj e)

/-- A channel that carries a built-in call runs no other. -/
theorem Calls.Sound.run_ne_of_builtIn {b : BuiltIn} (h : c.Sound R J K) (hk : ch ∉ K)
    (hc : (c.chan ch).call = some (builtInCall b)) {b' : BuiltIn} (hb : b' ≠ b) : c.run b' ≠ .onChannel ch :=
  h.wired.otherChannel hk hc fun e => hb (builtInCall_injective (Option.some.inj e)).symm

/-- A channel that carries no general call goes out of account. -/
theorem Calls.Sound.drop (h : c.Sound R J K) (hc : ∀ i : CallId, (c.chan ch).call = some i → i.val < 2) :
    c.Sound R J (insert ch K) := ⟨h.filed, h.wired.drop hc⟩

/-- A PLAYING call is taken in hand. -/
theorem Calls.Filed.hold (h : c.Filed J) (hl : c.table[i].life = .playing) : c.Filed (insert i J) := by
  refine ⟨fun j l h2 => ?_, h.nodup, h.builtIn, h.ordered⟩
  rw [h.line j l h2, Set.mem_insert_iff, not_or]
  refine ⟨fun ⟨m1, m2, m3⟩ => ⟨⟨fun e => m2 ?_, m1⟩, m2, m3⟩, fun ⟨⟨_, m1⟩, m2⟩ => ⟨m1, m2⟩⟩
  rw [← m3, e, hl]

/-- The call in hand plays. -/
theorem Calls.Filed.play (h : c.Filed (insert i J)) (hl : c.table[i].life = .playing) : c.Filed J := by
  refine ⟨fun j l h2 => ?_, h.nodup, h.builtIn, h.ordered⟩
  rw [h.line j l h2, Set.mem_insert_iff, not_or]
  refine ⟨fun ⟨⟨_, m1⟩, m2⟩ => ⟨m1, m2⟩, fun ⟨m1, m2, m3⟩ => ⟨⟨fun e => m2 ?_, m1⟩, m2, m3⟩⟩
  rw [← m3, e, hl]

/-- A channel goes out of account and its general call is taken in hand. -/
theorem Calls.Sound.dropCall (h : c.Sound R J K) (hk : ch ∉ K) (hc : (c.chan ch).call = some i) (h2 : 2 ≤ i.val) :
    c.Sound R (insert i J) (insert ch K) :=
  ⟨h.filed.hold (h.wired.general ch hk i hc h2).2.1, h.wired.dropCall hk hc h2⟩

/-! ## A channel stops, faults and is pre-empted (R154, R155, R159) -/

theorem Calls.Sound.release (h : c.Sound R J K) (ch : Channel) : (c.release ch).Sound R J K := h.setPaging _

theorem release_run (c : Calls) (ch : Channel) : (c.release ch).run = c.run := run_eq rfl rfl

theorem release_chan (c : Calls) (ch : Channel) : (c.release ch).chan = c.chan := chan_eq rfl rfl

theorem Calls.Sound.stopChannel (h : c.Sound R J (insert ch K)) (hr : ∀ b, c.run b ≠ .onChannel ch) (e : CallEnv) :
    (stopChannel e ch c).Sound R J K :=
  (h.release ch).emptyChan (by rw [release_run]; exact hr) (by split <;> rfl) (by split <;> rfl)

theorem Calls.Sound.faultChannel (h : w.val.Sound R J (insert ch K)) (hr : ∀ b, w.val.run b ≠ .onChannel ch)
    (reason : ChannelFault) (call : Option (CallId × Nat)) (strobe : Bool) :
    (faultChannel ch reason call strobe w).val.Sound R J K :=
  (h.release ch).emptyChan (by rw [release_run]; exact hr) rfl rfl

theorem finishCall_run (now : Nat) (i : CallId) (o : CallOutcome) (w : Act Calls) :
    (finishCall now i o w).val.run = w.val.run := by
  rw [finishCall_others]
  exact run_eq rfl rfl

theorem Calls.Sound.preEmpt {w : Act Calls} (h : w.val.Sound R J K) (hk : ch ∉ K) (e : CallEnv) :
    (preEmpt e ch w).val.Sound R J K := by
  rcases preEmpt_cases e ch w with he | ⟨i, hi, he⟩ <;> rw [he]
  · exact h
  · obtain ⟨-, hc, h2⟩ := Calls.generalOn_eq_some_iff.mp hi
    obtain ⟨hj, hl, -⟩ := h.wired.general ch hk i hc h2
    exact ((h.dropCall hk hc h2).finishCall hj h2 (by rw [hl]; decide) e.now .preEmpted).stopChannel
      (by rw [finishCall_run]; exact h.run_ne_of_general hk hc h2) e

theorem Cleared.sound {e : CallEnv} {w v : Act Calls} (hc : Cleared e w v) (h : w.val.Sound R J ∅) :
    v.val.Sound R J ∅ :=
  hc.keeps (P := fun c => c.Sound R J ∅) (fun _ _ hw => hw.preEmpt (Set.notMem_empty _) e) h

theorem stopChannel_run (e : CallEnv) (ch : Channel) (c : Calls) : (stopChannel e ch c).run = c.run :=
  (setChan_runs ch _ _).trans (release_run c ch)

theorem preEmpt_run (e : CallEnv) (ch : Channel) (w : Act Calls) : (preEmpt e ch w).val.run = w.val.run := by
  rcases preEmpt_cases e ch w with h | ⟨i, -, h⟩ <;> rw [h]
  exact (stopChannel_run e ch _).trans (finishCall_run _ _ _ w)

/-! ## A general call starts (R151, R157) -/

theorem Calls.Sound.connect (h : c.Sound R J K) (ch : Channel) (z : ZoneSet) : (c.connect ch z).Sound R J K :=
  h.setPaging _

theorem connect_run (c : Calls) (ch : Channel) (z : ZoneSet) : (c.connect ch z).run = c.run := run_eq rfl rfl

/-- A READY call starts on a channel that carries nothing. -/
theorem Calls.Sound.startPlay (h : c.Sound R J K) (hi : i ∉ J) (h2 : 2 ≤ i.val) (hl : c.table[i].life = .ready)
    (hk : ch ∉ K) (hc : (c.chan ch).call = none) (live : ZoneSet) : (startPlay ch i live c).Sound R J K := by
  have hfree (j : CallId) (hj : ((c.leave i).chan ch).call = some j) : j.val < 2 := by
    rw [show (c.leave i).chan = c.chan from chan_eq rfl rfl, hc] at hj
    cases hj
  have hs := (h.leave h2 (.inr (.inr hl))).drop hfree
  have hleave : c.leave i = { c with ready := c.ready.erase i } := by
    have hw : c.waiting.erase i = c.waiting := List.erase_of_not_mem (h.filed.notElsewhere h2 (l := .waiting) (by rw [hl]; decide))
    have ht : c.timetable.erase i = c.timetable := List.erase_of_not_mem (h.filed.notElsewhere h2 (l := .timed) (by rw [hl]; decide))
    unfold Calls.leave
    rw [hw, ht]
  generalize hd : ({ c.table[i] with
    life := .playing, deadline := none, channel := some ch,
    missed := if isGeneral i then c.table[i].missed ||| (c.table[i].zones &&& ~~~live) else c.table[i].missed } :
      Descriptor) = d
  have hdl : d.life = .playing := by rw [← hd]
  have hdc : d.channel = some ch := by rw [← hd]
  have hm : d.marked := by
    refine ⟨by rw [hdl]; exact (nomatch ·), fun _ => ?_⟩
    rw [← hd]
    exact (h.filed.marked h2).2 (.inl hl)
  have hf : (c.leave i).table[i].life ≠ .free := by rw [show (c.leave i).table = c.table from rfl, hl]; decide
  have hp := (hs.setDesc (Set.mem_insert i J) h2 hm fun _ => hf).connect ch live
  have he : Machine.startPlay ch i live c = (((c.leave i).setDesc i d).connect ch live).setChan ch
      ((c.chan ch).starting i c.table[i].message live c.table[i].missed) := by
    rw [hleave]
    subst hd
    cases ch <;> rfl
  have ht (r : ChannelRecord) : ((((c.leave i).setDesc i d).connect ch live).setChan ch r).table[i] = d := by
    rw [Calls.setChan_table]
    exact Calls.setDesc_table_self i d _
  rw [he]
  refine ⟨(hp.filed.setChan ch _).play (by rw [ht, hdl]),
    (hp.wired.setChan (Set.mem_insert ch K) _).watchCall hk hi h2 ?_ ?_ (by rw [ht, hdl]) (by rw [ht, hdc]) fun b => ?_⟩
  · exact congrArg ChannelRecord.call (Calls.chan_setChan_self _ ch _)
  · exact congrArg ChannelRecord.carrying (Calls.chan_setChan_self _ ch _)
  · rw [setChan_runs, connect_run]
    exact h.run_ne hk hc b

/-! ## The walk of the ready queue (R157, R158) -/

theorem Calls.Sound.silence (h : w.val.Sound R J K) (hi : i ∉ J) (h2 : 2 ≤ i.val) (hl : w.val.table[i].life = .ready)
    (now : Nat) : (silence now i w).val.Sound R J K := by
  generalize hd : ({ w.val.table[i] with missed := w.val.table[i].missed ||| w.val.table[i].zones } : Descriptor) = d
  have hdl : d.life = .ready := by rw [← hd]; exact hl
  have hm : d.marked := ⟨by rw [hdl]; exact (nomatch ·), fun _ => by
    rw [← hd]; exact (h.filed.marked h2).2 (.inl hl)⟩
  have hs := (h.leave h2 (.inr (.inr hl))).setDesc (d := d) (Set.mem_insert i J) h2 hm fun _ => by
    rw [show (w.val.leave i).table = w.val.table from rfl, hl]; decide
  unfold Machine.silence
  dsimp only
  rw [hd, finishCall_leave (show ((w.val.setDesc i d).leave i).leave i = (w.val.setDesc i d).leave i from
    congrArg (Calls.setDesc i d) (Calls.leave_leave h.filed i))]
  refine Calls.Sound.finishCall (w := (w.map (Calls.setDesc i d)).map (Calls.leave i)) hs hi h2 ?_ now _
  exact fun e => by
    rw [show ((w.map (Calls.setDesc i d)).map (Calls.leave i)).val.table[i] = d from Calls.setDesc_table_self i d _,
      hdl] at e
    cases e

theorem Calls.Sound.walkOne {a : Act Calls × ZoneSet} (h : a.1.val.Sound R ∅ ∅) (h2 : 2 ≤ i.val)
    (hl : a.1.val.table[i].life = .ready) (now : Nat) : (walkOne now a i).1.val.Sound R ∅ ∅ := by
  unfold Machine.walkOne
  dsimp only
  split
  · exact h.silence (Set.notMem_empty i) h2 hl now
  · split
    · next ch hch =>
      split
      · exact h.startPlay (Set.notMem_empty i) h2 hl (Set.notMem_empty ch)
          (h.call_none (Set.notMem_empty ch) (carrying_of_state (.inl (usableChannel_idle hch)))) _
      · exact h
    · exact h

theorem Calls.Sound.walk (h : w.val.Sound R ∅ ∅) (now : Nat) : (walk now w).val.Sound R ∅ ∅ := by
  unfold Machine.walk
  split
  · exact h
  · refine sound_foldl (π := fun a : Act Calls × ZoneSet => a.1.val) (l := .ready) (by decide)
      (fun a i ha hi hl => ⟨ha.walkOne (h.filed.general (l := .ready) (by decide) hi) hl now, spares_walkOne now a i⟩) h
      (h.filed.nodup .ready) fun i hi => ?_
    have h2 := h.filed.general (l := .ready) (by decide) hi
    exact ⟨h2, ((h.filed.line i .ready h2).mp hi).2.2⟩

theorem Calls.Sound.walkOnChange (h : w.val.Sound R ∅ ∅) (now : Nat) (before : Calls) :
    (walkOnChange now before w).val.Sound R ∅ ∅ := by
  unfold Machine.walkOnChange
  split
  · exact h
  · exact h.walk now

/-! ## The built-in calls (R159 to R163) -/

/-- A built-in call that waits starts on a channel that carries nothing. -/
theorem Calls.Sound.builtInStarted {b : BuiltIn} (h : c.Sound R J K) (hk : ch ∉ K) (hc : (c.chan ch).call = none)
    (hb : c.run b = .waiting) (zones : ZoneSet) : (c.builtInStarted b ch zones).Sound R J K := by
  have hn : builtInCall b ∉ c.ready := (h.filed.builtIn _ (builtInCall_lt b)).1 .ready (by decide)
  have hR : R b := (h.wired.runs b).mp (by rw [hb]; exact fun e => nomatch e)
  generalize hz : ({ c.table[builtInCall b] with zones := zones } : Descriptor) = z
  generalize hd : ({ z with
    life := .playing, deadline := none, channel := some ch,
    missed := if isGeneral (builtInCall b) then z.missed ||| (z.zones &&& ~~~zones) else z.missed } : Descriptor) = d
  have hdd : d.deadline = none := by rw [← hd]
  have hzd : z.deadline = none := by rw [← hz]; exact h.wired.noDeadline _ (builtInCall_lt b)
  have hs : (((c.setDesc (builtInCall b) z).setDesc (builtInCall b) d).connect ch zones).Sound R J (insert ch K) :=
    Calls.Sound.drop (Calls.Sound.setPaging ⟨h.filed.setBuiltIn.setBuiltIn, (h.wired.setBuiltIn hzd).setBuiltIn hdd⟩ _)
      fun i hi => by
        rw [show (((c.setDesc (builtInCall b) z).setDesc (builtInCall b) d).connect ch zones).chan = c.chan from
          chan_eq rfl rfl, hc] at hi
        cases hi
  have he : c.builtInStarted b ch zones = ((((c.setDesc (builtInCall b) z).setDesc (builtInCall b) d).connect ch
      zones).setChan ch ((c.chan ch).starting (builtInCall b) z.message zones z.missed)).setRun b (.onChannel ch) := by
    have hself := Calls.setDesc_table_self (builtInCall b) z c
    unfold Calls.builtInStarted Machine.startPlay
    dsimp only
    rw [hz, hself, hd, show ({ c.setDesc (builtInCall b) z with
      ready := (c.setDesc (builtInCall b) z).ready.erase (builtInCall b) } : Calls) = c.setDesc (builtInCall b) z from by
        show ({ c.setDesc (builtInCall b) z with ready := c.ready.erase (builtInCall b) } : Calls) = _
        rw [List.erase_of_not_mem hn]
        rfl]
    cases ch <;> rfl
  have hrun : (((c.setDesc (builtInCall b) z).setDesc (builtInCall b) d).connect ch zones).run = c.run := run_eq rfl rfl
  rw [he]
  have hw := (hs.wired.setChan (Set.mem_insert ch K)
    ((c.chan ch).starting (builtInCall b) z.message zones z.missed)).setRun (R' := R) (b := b) (r := .onChannel ch)
    (fun k _ e => by rw [setChan_runs, hrun, hb] at e; cases e)
    (fun k hk' e => hk' (by cases e; exact Set.mem_insert ch K)) ⟨fun _ => hR, fun _ e => nomatch e⟩ fun _ _ => .rfl
  refine ⟨(hs.filed.setChan ch _).setRun b _, hw.watchBuiltIn (b := b) ?_ ?_ ?_ fun b' hb' => ?_⟩
  · rw [setRun_chan]; exact congrArg ChannelRecord.call (Calls.chan_setChan_self _ ch _)
  · rw [setRun_chan]; exact congrArg ChannelRecord.carrying (Calls.chan_setChan_self _ ch _)
  · rw [Calls.setRun_run, if_pos rfl]
  · rw [Calls.setRun_run, if_neg hb', setChan_runs, hrun]
    exact h.run_ne hk hc b'

/-- The start of a waiting built-in call on an IDLE channel, with the pre-emption ahead of it. -/
theorem Calls.Sound.startBuiltIn {b : BuiltIn} (h : w.val.Sound R J ∅) (hs : (w.val.chan ch).state = .idle)
    (hb : w.val.run b = .waiting) (e : CallEnv) : (startBuiltIn e b ch w).val.Sound R J ∅ := by
  obtain ⟨v, hv, he⟩ := startBuiltIn_cleared e b ch w
  have hcar := carrying_of_state (.inl hs)
  have hchan : v.val.chan ch = w.val.chan ch :=
    hv.keeps (P := fun c => c.chan ch = w.val.chan ch)
      (fun k u hu => (preEmpt_chan_of_free e k (by rw [hu]; exact hcar)).trans hu) rfl
  have hrun : v.val.run b = .waiting :=
    hv.keeps (P := fun c => c.run b = .waiting) (fun k u hu => by rw [preEmpt_run]; exact hu) hb
  rw [he]
  exact (hv.sound h).builtInStarted (Set.notMem_empty ch)
    (by rw [hchan]; exact h.call_none (Set.notMem_empty ch) hcar) hrun _

theorem Calls.evacChannel_idle {c : Calls} {ch : Channel} (h : c.evacChannel = some ch) : (c.chan ch).state = .idle := by
  unfold Calls.evacChannel at h
  split_ifs at h with h1 h2 <;> cases h
  · exact h1
  · exact h2.2

theorem Calls.Sound.seekEvacuation (h : w.val.Sound R J ∅) (e : CallEnv) (announce : Bool) :
    (seekEvacuation e announce w).val.Sound R J ∅ := by
  unfold Machine.seekEvacuation
  split
  · next hw =>
    split
    · exact h
    · split
      · next ch hch => exact h.startBuiltIn (b := .evacuation) (Calls.evacChannel_idle hch) hw e
      · split <;> exact h
  · exact h

theorem Calls.Sound.seekStaffAlert (h : w.val.Sound R J ∅) (e : CallEnv) : (seekStaffAlert e w).val.Sound R J ∅ := by
  unfold Machine.seekStaffAlert
  split
  · next hw =>
    split
    · next ha => exact h.startBuiltIn (b := .staffAlert) (ch := .a) ha hw.1 e
    · split
      · next hb => exact h.startBuiltIn (b := .staffAlert) (ch := .b) hb hw.1 e
      · exact h
  · exact h

theorem Calls.Sound.seekBuiltIns (h : w.val.Sound R J ∅) (e : CallEnv) (announce : Bool) :
    (seekBuiltIns e announce w).val.Sound R J ∅ := (h.seekEvacuation e announce).seekStaffAlert e

theorem Calls.Sound.afterIdle (h : w.val.Sound R ∅ ∅) (e : CallEnv) : (afterIdle e w).val.Sound R ∅ ∅ :=
  (h.seekBuiltIns e true).walk e.now

end

end Sys2Proof.Machine
end

section
/-! SUPPORT. The law of the calls under the events at the calls (R134 to R145): placing, anchor events, falling due,
deadlines and cancellation. -/
namespace Sys2Proof.Machine

section
variable {c c' : Calls} {w : Act Calls} {R R' : BuiltIn → Prop} {J : Set CallId} {K : Set Channel} {i : CallId}
  {ch : Channel}

/-! ## The calls of a list, one after another -/

theorem spares_armFromAnchor (e : CallEnv) (i : CallId) (w : Act Calls) :
    w.val.Spares (· = i) (armFromAnchor e i w).val := by
  unfold armFromAnchor
  split
  · exact (spares_armCall _ _ _ i w).1
  · exact spares_enterWaiting i w.val

/-- A call that leaves its list to be armed again. -/
theorem Calls.Sound.rearm (h : w.val.Sound R ∅ K) (h2 : 2 ≤ i.val)
    (hl : w.val.table[i].life = .waiting ∨ w.val.table[i].life = .timed) (e : CallEnv) :
    (Machine.armFromAnchor e i (w.map (Calls.leave i))).val.Sound R ∅ K ∧
      w.val.Spares (· = i) (Machine.armFromAnchor e i (w.map (Calls.leave i))).val := by
  have hs := h.leave h2 (hl.imp_right .inl)
  have hf : w.val.table[i].life ≠ .free := by rcases hl with e | e <;> rw [e] <;> decide
  exact ⟨hs.armFromAnchor (w := w.map (Calls.leave i)) (Set.notMem_empty i) h2 hf e,
    (spares_leave i w.val).trans (spares_armFromAnchor e i (w.map (Calls.leave i)))⟩

/-- Each call of the timetable is a general one that is TIMED. -/
theorem Calls.Filed.timed (h : c.Filed J) (hi : i ∈ c.timetable) : 2 ≤ i.val ∧ c.table[i].life = .timed := by
  have h2 := h.general (l := .timed) (by decide) hi
  exact ⟨h2, ((h.line i .timed h2).mp hi).2.2⟩

/-- An act at some calls of the timetable, one after another, that keeps the law at each. -/
theorem Calls.Sound.foldTimetable {f : Act Calls → CallId → Act Calls} {is : List CallId} (h : w.val.Sound R ∅ K)
    (hi : is.Sublist w.val.timetable)
    (hf : ∀ (v : Act Calls) (i : CallId), v.val.Sound R ∅ K → 2 ≤ i.val → v.val.table[i].life = .timed →
      (f v i).val.Sound R ∅ K ∧ v.val.Spares (· = i) (f v i).val) : (is.foldl f w).val.Sound R ∅ K :=
  sound_foldl (π := Act.val) (l := .timed) (by decide)
    (fun v i hv hm hl => hf v i hv (h.filed.timed (hi.subset hm)).1 hl) h ((h.filed.nodup .timed).sublist hi)
    fun _ hm => h.filed.timed (hi.subset hm)

/-! ## Anchor events (R136 to R138) -/

theorem Calls.Sound.onAnchorSet (h : w.val.Sound R ∅ K) (e : CallEnv) (a : Anchor) :
    (onAnchorSet e a w).val.Sound R ∅ K := by
  have hi (i : CallId) (hm : i ∈ w.val.waiting.filter fun i => w.val.table[i].anchor = some a) :
      2 ≤ i.val ∧ w.val.table[i].life = .waiting := by
    have hw := (List.mem_filter.mp hm).1
    have h2 := h.filed.general (l := .waiting) (by decide) hw
    exact ⟨h2, ((h.filed.line i .waiting h2).mp hw).2.2⟩
  exact sound_foldl (π := Act.val) (l := .waiting) (by decide)
    (fun v i hv hm hl => hv.rearm (hi i hm).1 (.inl hl) e) h ((h.filed.nodup .waiting).sublist List.filter_sublist) hi

theorem Calls.Sound.onAnchorMoved (h : w.val.Sound R ∅ K) (e : CallEnv) (a : Anchor) :
    (onAnchorMoved e a w).val.Sound R ∅ K :=
  h.foldTimetable List.filter_sublist fun _ _ hv h2 hl => hv.rearm h2 (.inr hl) e

theorem Calls.Sound.onAnchorCleared (h : w.val.Sound R ∅ K) (a : Anchor) : (onAnchorCleared a w).val.Sound R ∅ K := by
  refine h.foldTimetable List.filter_sublist fun v i hv h2 hl => ⟨?_, ?_⟩
  · exact (hv.leave h2 (.inr (.inl hl))).enterWaiting (Set.notMem_empty i) h2
      (by rw [show (v.val.leave i).table = v.val.table from rfl, hl]; decide)
  · exact (spares_leave i v.val).trans (spares_enterWaiting i (v.val.leave i))

theorem Calls.Sound.anchorEventAct (h : w.val.Sound R ∅ ∅) (a : Anchor) (ev : AnchorEvent) (e : CallEnv) :
    (anchorEventAct a ev e w).val.Sound R ∅ ∅ := by
  refine Calls.Sound.walkOnChange ?_ e.now w.val
  cases ev with
  | set => exact h.onAnchorSet e a
  | moved => exact h.onAnchorMoved e a
  | cleared => exact h.onAnchorCleared a

/-! ## Falling due (R139, R140) -/

theorem Calls.Sound.takeDue (h : w.val.Sound R ∅ K) (now : Nat) : (takeDue now w).val.Sound R ∅ K := by
  refine h.foldTimetable (List.takeWhile_sublist _) fun v i hv h2 hl => ⟨?_, ?_⟩
  · exact (hv.leave h2 (.inr (.inl hl))).enterReady (Set.notMem_empty i) h2
      (by rw [show (v.val.leave i).table = v.val.table from rfl, hl]; decide) now
  · exact (spares_leave i v.val).trans (spares_enterReady now i (v.val.leave i))

theorem Calls.Sound.catchUp (h : w.val.Sound R ∅ K) (now : Nat) : (catchUp now w).val.Sound R ∅ K := by
  refine h.foldTimetable (List.takeWhile_sublist _) fun v i hv h2 hl => ⟨?_, ?_⟩
  · exact (hv.leave h2 (.inr (.inl hl))).armCall (w := v.map (Calls.leave i)) (Set.notMem_empty i) h2
      (by rw [show (v.map (Calls.leave i)).val.table = v.val.table from rfl, hl]; decide) now _ _
  · exact (spares_leave i v.val).trans (spares_armCall _ _ _ i (v.map (Calls.leave i))).1

theorem Calls.Sound.dueTimerAct (h : w.val.Sound R ∅ ∅) (e : CallEnv) : (dueTimerAct e w).val.Sound R ∅ ∅ := by
  unfold Machine.dueTimerAct
  split
  · exact h
  · exact (h.takeDue e.now).walkOnChange e.now w.val

theorem Calls.Sound.schedulerFireHandoff (h : w.val.Sound R ∅ ∅) (new : Condition) (e : CallEnv) :
    (schedulerFireHandoff new e w).val.Sound R ∅ ∅ := by
  have hs : ({ w.val with fireSeen := new } : Calls).Sound R ∅ ∅ :=
    ⟨h.filed.congr rfl rfl rfl rfl rfl rfl rfl rfl, h.wired.lists rfl (chan_eq rfl rfl) (run_eq rfl rfl)⟩
  unfold Machine.schedulerFireHandoff
  dsimp only
  split
  · exact Calls.Sound.catchUp (w := w.map fun c => { c with fireSeen := new }) hs e.now
  · exact hs

/-! ## Deadlines (R141) -/

/-- A READY call with a deadline is a general one. -/
theorem Calls.Wired.general_of_deadline (h : c.Wired R J K) {now : Nat}
    (hd : timeReached now c.table[i].deadline = true) : 2 ≤ i.val := by
  by_contra hi
  rw [h.noDeadline i (by omega)] at hd
  cases hd

theorem Calls.Sound.deadlineAct (h : w.val.Sound R ∅ ∅) (i : CallId) (e : CallEnv) :
    (deadlineAct i e w).val.Sound R ∅ ∅ := by
  unfold Machine.deadlineAct
  dsimp only
  split
  · next hd =>
    exact (h.finishListed (Set.notMem_empty i) (h.wired.general_of_deadline hd.2) (.inr (.inr hd.1)) e.now _).walkOnChange
      e.now w.val
  · exact h

/-! ## Cancellation (R144, R145) -/

theorem Calls.Sound.cancelCall (h : w.val.Sound R ∅ ∅) (h2 : 2 ≤ i.val) (hl : w.val.table[i].life.live = true)
    (e : CallEnv) : (cancelCall e i w).val.Sound R ∅ ∅ := by
  have playing (hp : w.val.table[i].life = .playing) : ∃ ch, (w.val.chan ch).call = some i ∧
      w.val.table[i].channel = some ch := by
    obtain ⟨ch, hk, hc⟩ := h.wired.playing i h2 (Set.notMem_empty i) hp
    exact ⟨ch, hc, (h.wired.general ch hk i hc h2).2.2⟩
  rcases cancelCall_cases e i w with ⟨ch, hp, hch, he⟩ | ⟨hn, he⟩ <;> rw [he]
  · obtain ⟨k, hc, hk⟩ := playing hp
    obtain rfl : k = ch := Option.some.inj (hk.symm.trans hch)
    have hf : w.val.table[i].life ≠ .free := by rw [hp]; decide
    exact ((h.dropCall (Set.notMem_empty k) hc h2).finishCall (Set.notMem_empty i) h2 hf e.now .cancelled).stopChannel
      (by rw [finishCall_run]; exact h.run_ne_of_general (Set.notMem_empty k) hc h2) e
  · refine h.finishListed (Set.notMem_empty i) h2 ?_ e.now .cancelled
    cases hli : w.val.table[i].life with
    | waiting => exact .inl rfl
    | timed => exact .inr (.inl rfl)
    | ready => exact .inr (.inr rfl)
    | playing =>
      obtain ⟨ch, -, hch⟩ := playing hli
      exact absurd hch (hn ch hli)
    | free | finished => rw [hli] at hl; cases hl

theorem Calls.Sound.cancelAct (h : w.val.Sound R ∅ ∅) (h2 : 2 ≤ i.val) (hl : w.val.table[i].life.live = true)
    (e : CallEnv) : (cancelAct i e w).val.Sound R ∅ ∅ := by
  have hc := h.cancelCall h2 hl e
  unfold Machine.cancelAct
  dsimp only
  split
  · exact hc.afterIdle e
  · exact hc.walkOnChange e.now w.val

theorem Calls.Sound.darkCancelAct (h : w.val.Sound R ∅ ∅) (e : CallEnv) : (darkCancelAct e w).val.Sound R ∅ ∅ := by
  have each {is : List CallId} (hi : ∀ i ∈ is, 2 ≤ i.val) {v : Act Calls} (hv : v.val.Sound R ∅ ∅) :
      (is.foldl (cancelLive e) v).val.Sound R ∅ ∅ := by
    induction is generalizing v with
    | nil => exact hv
    | cons i is ih =>
      refine ih (fun j hj => hi j (.tail _ hj)) ?_
      unfold cancelLive
      split
      · next hl => exact hv.cancelCall (hi i List.mem_cons_self) hl e
      · exact hv
  have hc := each (is := generalCalls) (by decide) h
  have hd : (fun (w : Act Calls) i => if w.val.table[i].life.live then Machine.cancelCall e i w else w) = cancelLive e :=
    rfl
  unfold Machine.darkCancelAct
  rw [hd]
  dsimp only
  split
  · exact hc.walkOnChange e.now w.val
  · exact hc.afterIdle e

/-! ## Placing (R134) -/

/-- The head of the free pool is allocated, and is in hand. -/
theorem Calls.Sound.allocate (h : c.Sound R ∅ K) (hi : i ∈ c.pool) {d : Descriptor} (hd : d.life = .waiting) :
    (allocate i d c).Sound R {i} K := by
  have h2 := h.filed.general (l := .free) (by decide) hi
  have hfree := ((h.filed.line i .free h2).mp hi).2.2
  have elsewhere (l : Life) (hl : l ≠ .free) : i ∉ c.line l := h.filed.notElsewhere h2 (by rw [hfree]; exact hl.symm)
  have lists (l : Life) (hl : l ≠ .free) : (Machine.allocate i d c).line l = c.line l := by cases l <;> [exact absurd rfl hl; rfl; rfl; rfl; rfl; rfl]
  have gone (l : Life) : i ∉ (Machine.allocate i d c).line l := by
    by_cases hl : l = .free
    · rw [hl]; exact (h.filed.nodup .free).not_mem_erase
    · rw [lists l hl]; exact elsewhere l hl
  have stays {j : CallId} (hj : j ≠ i) (l : Life) : j ∈ (Machine.allocate i d c).line l ↔ j ∈ c.line l := by
    by_cases hl : l = .free
    · rw [hl]; exact List.mem_erase_of_ne hj
    · rw [lists l hl]
  have table {j : CallId} (hj : j ≠ i) : (Machine.allocate i d c).table[j] = c.table[j] := Calls.setDesc_table_of_ne hj d c
  have self : (Machine.allocate i d c).table[i] = d := Calls.setDesc_table_self i d c
  have created {j : CallId} (hj : j ≠ i) : (Machine.allocate i d c).creation[j] = c.creation[j] := by
    simp only [Machine.allocate, Fin.getElem_fin, Vector.getElem_set]
    rw [if_neg fun e => hj (Fin.ext e.symm)]
  have createdSelf : (Machine.allocate i d c).creation[i] = c.nextCreation := by
    simp [Machine.allocate]
  obtain ⟨⟨o1, o2, o3, o4⟩, o5, o6⟩ := c.ordered_iff.mp h.filed.ordered
  refine ⟨⟨fun j l hj2 => ?_, fun l => ?_, fun j hj2 => ⟨fun l hl hm => ?_, (h.filed.builtIn j hj2).2⟩,
    (Calls.ordered_iff _).mpr ⟨⟨o1.sublist List.erase_sublist, ?_, ?_, ?_⟩, fun j hj2 => ?_, fun j hj2 hf => ?_⟩⟩, ?_⟩
  · by_cases e : j = i
    · subst e
      exact ⟨fun hm => absurd hm (gone l), fun hm => absurd rfl hm.1⟩
    · rw [stays e l, table e, h.filed.line j l hj2]
      exact and_congr_left fun _ => ⟨fun _ => e, fun _ => Set.notMem_empty j⟩
  · by_cases hl : l = .free
    · rw [hl]; exact (h.filed.nodup .free).erase i
    · rw [lists l hl]; exact h.filed.nodup l
  · have e : j ≠ i := fun e => by rw [e] at hj2; omega
    exact (h.filed.builtIn j hj2).1 l hl ((stays e l).mp hm)
  · refine List.Pairwise.imp_of_mem (fun ha hb hab => ?_) o2
    have hn := elsewhere .waiting (by decide)
    rw [created (ne_of_mem_of_not_mem ha hn), created (ne_of_mem_of_not_mem hb hn)]
    exact hab
  · refine List.Pairwise.imp_of_mem (fun ha hb hab => ?_) o3
    have hn := elsewhere .timed (by decide)
    rw [table (ne_of_mem_of_not_mem ha hn), table (ne_of_mem_of_not_mem hb hn)]
    exact hab
  · refine List.Pairwise.imp_of_mem (fun ha hb hab => ?_) o4
    have hn := elsewhere .ready (by decide)
    exact Calls.ahead_congr (table (ne_of_mem_of_not_mem ha hn)) (table (ne_of_mem_of_not_mem hb hn)) hab
  · by_cases e : j = i
    · rw [e, self]
      exact ⟨by rw [hd]; exact (nomatch ·), by rw [hd]; exact fun e => e.elim (nomatch ·) (nomatch ·)⟩
    · rw [table e]; exact o5 j hj2
  · show (Machine.allocate i d c).creation[j] < c.nextCreation + 1 ∧ _
    have below {k : CallId} (hk2 : 2 ≤ k.val) (e : k ≠ i) (hk : (Machine.allocate i d c).table[k].life ≠ .free) :
        (Machine.allocate i d c).creation[k] < c.nextCreation := by
      rw [table e] at hk
      rw [created e]
      exact (o6 k hk2 hk).1
    by_cases e : j = i
    · subst e
      rw [createdSelf]
      refine ⟨Nat.lt_succ_self _, fun k hk2 hk hc => ?_⟩
      by_contra hne
      have := below hk2 (Ne.symm hne) hk
      omega
    · have hlt := below hj2 e hf
      refine ⟨Nat.lt_succ_of_lt hlt, fun k hk2 hk hc => ?_⟩
      by_cases ek : k = i
      · subst ek
        rw [createdSelf] at hc
        omega
      · rw [created e, created ek] at hc
        rw [table e] at hf
        rw [table ek] at hk
        exact (o6 j hj2 hf).2 k hk2 hk hc
  · have hp : c.table[i].life ≠ .playing := by rw [hfree]; decide
    have hw := (h.wired.hold hp).setDesc h2 (Set.mem_insert i ∅) d
    rw [← insert_empty_eq]
    exact hw.lists rfl (chan_eq rfl rfl) (run_eq rfl rfl)

theorem Calls.Sound.placeCall (h : w.val.Sound R ∅ ∅) (hi : i ∈ w.val.pool) {d : Descriptor} (hd : d.life = .waiting)
    (e : CallEnv) : (placeCall i d e w).val.Sound R ∅ ∅ := by
  have h2 := h.filed.general (l := .free) (by decide) hi
  have ha : (w.map (Machine.allocate i d)).val.Sound R (insert i ∅) ∅ := by
    rw [insert_empty_eq]; exact h.allocate hi hd
  have hf : (w.map (Machine.allocate i d)).val.table[i].life ≠ .free := by
    rw [show (w.map (Machine.allocate i d)).val.table[i] = d from Calls.setDesc_table_self i d w.val, hd]; decide
  refine Calls.Sound.walkOnChange ?_ e.now w.val
  split
  · exact ha.enterReady (Set.notMem_empty i) h2 hf e.now
  · exact ha.armFromAnchor (Set.notMem_empty i) h2 hf e

/-! ## Completions and gates (R149, R166) -/

theorem Calls.Sound.collectAct (h : w.val.Sound R ∅ ∅) (k : Desk) (e : CallEnv) :
    (collectAct k e w).val.Sound R ∅ ∅ :=
  Calls.Sound.drain (w := w.map fun c => c.setQueue k ((c.queue k).drop collectRoom)) (h.setQueue k _) true k

theorem Calls.Sound.gateAct (h : w.val.Sound R ∅ ∅) (z : Fin 12) (muted held : Bool) (e : CallEnv) :
    (gateAct z muted held e w).val.Sound R ∅ ∅ := by
  unfold Machine.gateAct
  dsimp only
  split
  · exact h
  · exact Calls.Sound.walk (w := w.map _) (h.setPaging _) e.now

theorem Calls.Sound.afterPagingWrite (h : w.val.Sound R ∅ ∅) (e : CallEnv) :
    (afterPagingWrite e w).val.Sound R ∅ ∅ := by
  have hs := h.seekBuiltIns e false
  unfold Machine.afterPagingWrite
  dsimp only
  split
  · exact hs
  · exact hs.walk e.now

end

end Sys2Proof.Machine
end

section
/-! SUPPORT. The law of the calls under the events at the channels, the runs of the built-in calls, and the hand-off of
the fire condition (R150 to R163). -/
namespace Sys2Proof.Machine

section
variable {c c' : Calls} {w : Act Calls} {R R' : BuiltIn → Prop} {J : Set CallId} {K : Set Channel} {i : CallId}
  {ch : Channel} {b : BuiltIn}

/-! ## The runs of the built-in calls (R159) -/

/-- The run of a built-in call is written while it is on no channel in account. -/
theorem Calls.Sound.setRun {r : RunPosition} (h : c.Sound R J K) (hb : ∀ k ∉ K, c.run b ≠ .onChannel k)
    (hr : ∀ k ∉ K, r ≠ .onChannel k) (hb' : r ≠ .notRunning ↔ R' b) (ho : ∀ b', b' ≠ b → (R' b' ↔ R b')) :
    (c.setRun b r).Sound R' J K := ⟨h.filed.setRun b r, h.wired.setRun hb hr hb' ho⟩

/-- The descriptor of a built-in call is written. -/
theorem Calls.Sound.setBuiltIn {d : Descriptor} (h : c.Sound R J K) (hd : d.deadline = none) :
    (c.setDesc (builtInCall b) d).Sound R J K := ⟨h.filed.setBuiltIn, h.wired.setBuiltIn hd⟩

theorem Calls.Sound.builtIn_deadline (h : c.Sound R J K) (b : BuiltIn) : c.table[builtInCall b].deadline = none :=
  h.wired.noDeadline _ (builtInCall_lt b)

/-- The condition in which each built-in call runs, read another way. -/
theorem Calls.Sound.runsCongr (h : c.Sound R J K) (hr : ∀ b, R b ↔ R' b) : c.Sound R' J K :=
  (funext fun b => propext (hr b) : R = R') ▸ h

/-- A built-in call is in its run where its run is not over. -/
theorem Calls.Sound.running (h : c.Sound R J K) {r : RunPosition} (hr : c.run b = r) (hn : r ≠ .notRunning) : R b :=
  (h.wired.runs b).mp (hr ▸ hn)

theorem Calls.Sound.beginRun (h : c.Sound R J K) (hb : ∀ k ∉ K, c.run b ≠ .onChannel k) (hb' : R' b)
    (ho : ∀ b', b' ≠ b → (R' b' ↔ R b')) (e : CallEnv) : (beginRun e b c).Sound R' J K :=
  Calls.Sound.setRun (h.setBuiltIn rfl) hb (fun _ _ => (nomatch ·)) (iff_of_true (nomatch ·) hb') ho

theorem Calls.Sound.waitAgain (h : c.Sound R J K) (hb : ∀ k ∉ K, c.run b ≠ .onChannel k) (hR : R b) :
    (waitAgain b c).Sound R J K :=
  Calls.Sound.setRun (h.setBuiltIn (h.builtIn_deadline b)) hb (fun _ _ => (nomatch ·)) (iff_of_true (nomatch ·) hR)
    fun _ _ => .rfl

/-! ## The end of a run (R161, R164) -/

/-- An item of a built-in call joins or takes the place of the one that waits. -/
theorem mem_joinBuiltIn_descriptor {e : Completion} {xs : List Finished} {i : CallId}
    (h : i ∈ (joinBuiltIn b e xs).map Finished.descriptor) : i = builtInCall b ∨ i ∈ xs.map Finished.descriptor := by
  induction xs with
  | nil => exact .inl (List.mem_singleton.mp h)
  | cons x xs ih =>
    cases x with
    | general j =>
      rcases List.mem_cons.mp h with h | h
      · exact .inr (List.mem_cons.mpr (.inl h))
      · exact (ih h).imp_right (.tail _)
    | builtIn b' old =>
      unfold joinBuiltIn at h
      dsimp only at h
      split at h
      · next hb => exact .inr (hb ▸ h)
      · rcases List.mem_cons.mp h with h | h
        · exact .inr (List.mem_cons.mpr (.inl h))
        · exact (ih h).imp_right (.tail _)

theorem nodup_joinBuiltIn {e : Completion} {xs : List Finished} (hn : (xs.map Finished.descriptor).Nodup)
    (hg : .general (builtInCall b) ∉ xs) : ((joinBuiltIn b e xs).map Finished.descriptor).Nodup := by
  induction xs with
  | nil => exact List.nodup_singleton _
  | cons x xs ih =>
    obtain ⟨hx, hxs⟩ := List.nodup_cons.mp hn
    have ih := ih hxs (mt (.tail _) hg)
    have out (hne : x.descriptor ≠ builtInCall b) : x.descriptor ∉ (joinBuiltIn b e xs).map Finished.descriptor :=
      fun hm => (mem_joinBuiltIn_descriptor hm).elim hne hx
    cases x with
    | general j => exact List.nodup_cons.mpr ⟨out fun e => hg (by rw [show j = builtInCall b from e]; exact .head _), ih⟩
    | builtIn b' old =>
      unfold joinBuiltIn
      dsimp only
      split
      · next hb => exact List.nodup_cons.mpr ⟨hb ▸ hx, hxs⟩
      · next hne => exact List.nodup_cons.mpr ⟨out fun e => hne (builtInCall_injective e), ih⟩

/-- Items of the finished list that belong to no general call join it or change there. -/
theorem Calls.Sound.setFinished {xs : List Finished} (h : c.Sound R J K)
    (hm : ∀ i, .general i ∈ xs ↔ .general i ∈ c.finished) (hn : (xs.map Finished.descriptor).Nodup) :
    ({ c with finished := xs } : Calls).Sound R J K := by
  obtain ⟨⟨h1, h2, h3, h4⟩, hw⟩ := h
  have line {l : Life} (hl : l ≠ .finished) : ({ c with finished := xs } : Calls).line l = c.line l := by
    cases l <;> [rfl; rfl; rfl; rfl; rfl; exact absurd rfl hl]
  refine ⟨⟨fun i l hi => ?_, fun l => ?_, fun i hi => ⟨fun l hl => ?_, mt (hm i).mp (h3 i hi).2⟩, h4⟩,
    hw.lists rfl (chan_eq rfl rfl) (run_eq rfl rfl)⟩
  · by_cases hl : l = .finished
    · rw [hl, Calls.mem_line_finished (c := { c with finished := xs }) hi, hm, ← Calls.mem_line_finished hi]
      exact h1 i .finished hi
    · rw [line hl]; exact h1 i l hi
  · by_cases hl : l = .finished
    · rw [hl]; exact hn
    · rw [line hl]; exact h2 l
  · rw [line hl]; exact (h3 i hi).1 l hl

theorem Calls.Sound.joinBuiltIn (h : c.Sound R J K) (b : BuiltIn) (e : Completion) :
    ({ c with finished := joinBuiltIn b e c.finished } : Calls).Sound R J K :=
  h.setFinished (fun i => mem_joinBuiltIn_general b e i c.finished)
    (nodup_joinBuiltIn (h.filed.nodup .finished) (h.filed.builtIn _ (builtInCall_lt b)).2)

theorem Calls.Sound.finishBuiltIn (h : w.val.Sound R J K) (hb : ∀ k ∉ K, w.val.run b ≠ .onChannel k) (now : Nat)
    (o : CallOutcome) : (finishBuiltIn now b o w).val.Sound (fun b' => b' ≠ b ∧ R b') J K := by
  unfold Machine.finishBuiltIn
  dsimp only
  exact Calls.Sound.drain (w := w.map _) (Calls.Sound.joinBuiltIn (Calls.Sound.setRun (r := .notRunning)
    (h.setBuiltIn rfl) hb (fun _ _ => (nomatch ·)) ⟨fun h => absurd rfl h, fun h => absurd rfl h.1⟩
    fun b' hb' => and_iff_right hb') b _) false .house

theorem finishBuiltIn_run (now : Nat) (b b' : BuiltIn) (o : CallOutcome) (w : Act Calls) :
    (finishBuiltIn now b o w).val.run b' = if b' = b then .notRunning else w.val.run b' := by
  rw [finishBuiltIn_others]
  exact Calls.setRun_run b b' .notRunning w.val

theorem Calls.Sound.endBuiltIn (h : w.val.Sound R J ∅) (e : CallEnv) (b : BuiltIn) (o : CallOutcome) :
    (endBuiltIn e b o w).val.Sound (fun b' => b' ≠ b ∧ R b') J ∅ := by
  have out {r : RunPosition} (hr : w.val.run b = r) (hn : ∀ k, r ≠ .onChannel k) (k : Channel) (_ : k ∉ (∅ : Set Channel)) :
      w.val.run b ≠ .onChannel k := hr ▸ hn k
  unfold Machine.endBuiltIn
  split
  · next hr =>
    exact h.runsCongr fun b' => ⟨fun hR => ⟨fun e => (h.wired.runs b').mpr hR (e ▸ hr), hR⟩, And.right⟩
  · next hr => exact h.finishBuiltIn (out hr fun _ => (nomatch ·)) e.now o
  · next ch hr =>
    have hc : (w.val.chan ch).call = some (builtInCall b) := (h.wired.onChannel ch (Set.notMem_empty ch) b).mp hr
    have hd := h.drop (ch := ch) fun i hi => by
      rw [hc] at hi; cases hi; exact builtInCall_lt b
    have hf := hd.finishBuiltIn (b := b) (fun k hk e => hk (by rw [hr] at e; cases e; exact Set.mem_insert _ _)) e.now o
    refine Calls.Sound.stopChannel hf (fun b' => ?_) e
    rw [finishBuiltIn_run]
    split
    · exact (nomatch ·)
    · next hb => exact h.run_ne_of_builtIn (Set.notMem_empty ch) hc hb
  · next ch n hr => exact (h.finishBuiltIn (out hr fun _ => (nomatch ·)) e.now o).rewriteChan rfl rfl

/-! ## The hand-off of the fire condition (R156, R160 to R163) -/

theorem Calls.Sound.beginStaffAlert (h : w.val.Sound (runsIn .quiet) ∅ ∅) (e : CallEnv) :
    (beginStaffAlert e w).val.Sound (runsIn .alert) ∅ ∅ := by
  have hn : w.val.run .staffAlert = .notRunning := by
    by_contra hr
    cases h.running rfl hr
  have hb : (w.map (Machine.beginRun e .staffAlert)).val.Sound (runsIn .alert) ∅ ∅ :=
    h.beginRun (R' := runsIn .alert) (b := .staffAlert) (fun k _ => by rw [hn]; exact (nomatch ·)) rfl
      (fun b hb => by cases b <;> [exact ⟨(nomatch ·), (nomatch ·)⟩; exact absurd rfl hb]) e
  have hc := (cutMet_cleared e w.val.staffZones .a _).sound hb
  exact ((makeRoom_cleared e _).sound ((cutMet_cleared e w.val.staffZones .b _).sound hc)).seekStaffAlert e

/-- The general call on a channel finishes, and the channel is out of account until it stops. -/
theorem Calls.Sound.finishOnChannel (h : w.val.Sound R J K) (hk : ch ∉ K) (e : CallEnv) :
    (finishOnChannel e ch w).val.Sound R J (insert ch K) := by
  unfold Machine.finishOnChannel
  split
  · next i hi =>
    obtain ⟨-, hc, h2⟩ := Calls.generalOn_eq_some_iff.mp hi
    obtain ⟨hj, hl, -⟩ := h.wired.general ch hk i hc h2
    exact (h.dropCall hk hc h2).finishCall hj h2 (by rw [hl]; decide) e.now .preEmpted
  · next hn =>
    refine h.drop fun i hi => ?_
    by_contra hlt
    have : w.val.generalOn ch = some i := Calls.generalOn_eq_some_iff.mpr
      ⟨by rw [← h.wired.carries ch hk, hi]; rfl, hi, by omega⟩
    rw [hn] at this
    cases this

theorem finishOnChannel_chan (e : CallEnv) (ch k : Channel) (w : Act Calls) :
    (finishOnChannel e ch w).val.chan k = w.val.chan k := by
  unfold finishOnChannel
  split
  · exact finishCall_chan _ _ _ w k
  · rfl

theorem Calls.Sound.stopForEvacuation (h : c.Sound R J K) (hk : ch ∈ K) (e : CallEnv) :
    (stopForEvacuation e ch c).Sound R J K := by
  unfold Machine.stopForEvacuation
  split
  · exact (h.release ch).setChan hk _
  · exact h.setChan hk _

/-- A channel stopped for an evacuation carries nothing. -/
theorem stopForEvacuation_call {e : CallEnv} (h : (c.chan ch).carrying = false → (c.chan ch).call = none) :
    ((stopForEvacuation e ch c).chan ch).call = none := by
  by_cases hc : (c.chan ch).carrying = true
  · unfold stopForEvacuation
    rw [if_pos hc]
    exact stopChannel_call e ch c
  · have hc : (c.chan ch).carrying = false := Bool.not_eq_true _ ▸ hc
    rw [stopForEvacuation_free hc]
    exact h hc

theorem Calls.Sound.beginEvacuation (h : w.val.Sound R ∅ ∅) (hs : ¬ R .staffAlert) (e : CallEnv) :
    (beginEvacuation e w).val.Sound (runsIn .evacuate) ∅ ∅ := by
  unfold Machine.beginEvacuation
  dsimp only
  generalize hw : w.map (fun c => (c.release .a).release .b) = w1
  have hw1 : w1.val.Sound R ∅ ∅ := by rw [← hw]; exact (h.release .a).release .b
  have none1 (k : Channel) := hw1.call_none (Set.notMem_empty k)
  have hf := (hw1.finishOnChannel (ch := .a) (Set.notMem_empty _) e).finishOnChannel (ch := .b) (by simp) e
  generalize hv : Machine.finishOnChannel e .b (Machine.finishOnChannel e .a w1) = v at hf ⊢
  have chan (k : Channel) : v.val.chan k = w1.val.chan k := by
    rw [← hv, finishOnChannel_chan, finishOnChannel_chan]
  refine Calls.Sound.seekEvacuation (w := v.map _) ?_ e true
  have ht := (hf.stopForEvacuation (ch := .a) (by simp) e).stopForEvacuation (ch := .b) (by simp) e
  have hr := ht.beginRun (b := .evacuation) (R' := runsIn .evacuate) (fun k hk => absurd (by cases k <;> simp) hk) rfl
    (fun b hb => by cases b <;> [exact absurd rfl hb; exact ⟨(nomatch ·), fun hR => absurd hR hs⟩]) e
  have still (b : BuiltIn) (k : Channel) : (Machine.beginRun e .evacuation (Machine.stopForEvacuation e .b
      (Machine.stopForEvacuation e .a v.val))).run b ≠ .onChannel k := by
    cases b with
    | evacuation => exact (nomatch ·)
    | staffAlert =>
      intro hn
      cases hr.running hn (nomatch ·)
  have carried (k : Channel) : ((Machine.stopForEvacuation e .b (Machine.stopForEvacuation e .a v.val)).chan k).call = none ∧
      ((Machine.stopForEvacuation e .b (Machine.stopForEvacuation e .a v.val)).chan k).carrying = false := by
    cases k with
    | a =>
      rw [stopForEvacuation_chan_of_ne e _ (by decide)]
      exact ⟨stopForEvacuation_call (by rw [chan]; exact none1 .a), stopForEvacuation_carrying e .a _⟩
    | b =>
      refine ⟨stopForEvacuation_call ?_, stopForEvacuation_carrying e .b _⟩
      rw [stopForEvacuation_chan_of_ne e _ (by decide), chan]
      exact none1 .b
  exact ⟨hr.filed, (hr.wired.watch (carried .b).1 (carried .b).2 fun b => still b .b).watch (carried .a).1 (carried .a).2
    fun b => still b .a⟩

/-- The hand-off of the fire condition: each built-in call runs as the new condition says. -/
theorem Calls.Sound.arbiterFireHandoff {old new : Condition} (h : w.val.Sound (runsIn old) ∅ ∅)
    (hq : new = .alert → old = .quiet) (e : CallEnv) : (arbiterFireHandoff new e w).val.Sound (runsIn new) ∅ ∅ := by
  have hs : (w.map fun c => { c with arbiterFire := new }).val.Sound (runsIn old) ∅ ∅ :=
    ⟨h.filed.congr rfl rfl rfl rfl rfl rfl rfl rfl, h.wired.lists rfl (chan_eq rfl rfl) (run_eq rfl rfl)⟩
  unfold Machine.arbiterFireHandoff
  dsimp only
  generalize w.map (fun c => { c with arbiterFire := new }) = v at hs
  cases new with
  | alert =>
    rw [hq rfl] at hs
    exact (hs.beginStaffAlert e).walk e.now
  | evacuate => exact (hs.endBuiltIn e .staffAlert .preEmpted).beginEvacuation (fun h => h.1 rfl) e
  | quiet =>
    refine Calls.Sound.walk (((hs.endBuiltIn e .staffAlert .cancelled).endBuiltIn e .evacuation .cancelled).runsCongr
      fun b => ?_) e.now
    cases b <;> simp [runsIn, builtInCondition]

/-! ## Events at the channels (R150 to R155, R159) -/

theorem builtInOf_eq_none {i : CallId} (h : builtInOf i = none) : 2 ≤ i.val := by
  unfold builtInOf at h
  split_ifs at h
  omega

theorem builtInOf_eq_some {i : CallId} (h : builtInOf i = some b) : i = builtInCall b := by
  unfold builtInOf at h
  split_ifs at h with h0 h1 <;> cases h
  · exact Fin.ext h0
  · exact Fin.ext h1

theorem carrying_eq_true {r : ChannelRecord} (h : r.state = .starting ∨ r.state = .playing) : r.carrying = true := by
  unfold ChannelRecord.carrying
  rcases h with h | h <;> rw [h] <;> rfl

theorem carrying_eq_false {r : ChannelRecord} (h : r.state ≠ .starting) (h' : r.state ≠ .playing) :
    r.carrying = false := by
  unfold ChannelRecord.carrying
  cases hs : r.state <;> simp_all

theorem drop_none (hc : (c.chan ch).call = none) (i : CallId) (hi : (c.chan ch).call = some i) : i.val < 2 := by
  rw [hc] at hi; cases hi

/-- A channel that carries nothing becomes FAULTED. -/
theorem Calls.Sound.faultFree (h : w.val.Sound R J ∅) (hs : (w.val.chan ch).carrying = false) (reason : ChannelFault)
    (strobe : Bool) : (Machine.faultChannel ch reason none strobe w).val.Sound R J ∅ := by
  have hc := h.call_none (Set.notMem_empty ch) hs
  exact Calls.Sound.faultChannel (h.drop (drop_none hc)) (h.run_ne (Set.notMem_empty ch) hc) reason none strobe

/-- A channel that carries nothing is emptied. -/
theorem Calls.Sound.emptyFree (h : c.Sound R J ∅) (hs : (c.chan ch).carrying = false) {r : ChannelRecord}
    (hc : r.call = none) (hr : r.carrying = false) : (c.setChan ch r).Sound R J ∅ := by
  have hn := h.call_none (Set.notMem_empty ch) hs
  exact (h.drop (drop_none hn)).emptyChan (h.run_ne (Set.notMem_empty ch) hn) hc hr

theorem Calls.Sound.playingRisesAct (h : w.val.Sound R ∅ ∅) (ch : Channel) (e : CallEnv) :
    (playingRisesAct ch e w).val.Sound R ∅ ∅ := by
  unfold Machine.playingRisesAct
  dsimp only
  split
  · next hs => exact h.rewriteChan rfl (carrying_eq_true (.inl hs)).symm
  · next hs => exact (h.faultFree (carrying_of_state (.inl hs)) .unsolicited false).seekEvacuation e true
  · exact h
  · exact h
  · exact h

/-- The end of a play of a general call: it is in hand, on no channel. -/
theorem Calls.Sound.endPlay (h : c.Sound R J ∅) (hc : (c.chan ch).call = some i) (h2 : 2 ≤ i.val) :
    (endPlay ch i c).Sound R (insert i J) ∅ := by
  obtain ⟨-, hl, -⟩ := h.wired.general ch (Set.notMem_empty ch) i hc h2
  have hm := h.filed.marked h2
  have hd := (h.dropCall (Set.notMem_empty ch) hc h2).setDesc
    (d := { c.table[i] with plays := min 255 (c.table[i].plays + 1), channel := none }) (Set.mem_insert i J) h2 hm id
  exact (hd.release ch).emptyChan (fun b => h.run_ne_of_general (Set.notMem_empty ch) hc h2 b) rfl rfl

theorem endPlay_table (ch : Channel) (i : CallId) (c : Calls) : (endPlay ch i c).table[i] =
    { c.table[i] with plays := min 255 (c.table[i].plays + 1), channel := none } := by
  unfold endPlay
  dsimp only
  rw [Calls.setChan_table]
  exact Calls.setDesc_table_self i _ c

/-- The end of a play of a built-in call: it stands in its gap with its channel. -/
theorem Calls.Sound.enterGap (h : c.Sound R J ∅) (hc : (c.chan ch).call = some (builtInCall b)) :
    (enterGap b ch (Machine.endPlay ch (builtInCall b) c)).Sound R J ∅ := by
  have hrun : c.run b = .onChannel ch := (h.wired.onChannel ch (Set.notMem_empty ch) b).mpr hc
  have hR : R b := h.running hrun (nomatch ·)
  have hd : c.Sound R J (insert ch ∅) := h.drop fun i hi => by
    rw [hc] at hi; cases hi; exact builtInCall_lt b
  have he : (Machine.endPlay ch (builtInCall b) c).Sound R J (insert ch ∅) :=
    ((hd.setBuiltIn (d := { c.table[builtInCall b] with
      plays := min 255 (c.table[builtInCall b].plays + 1), channel := none }) (h.builtIn_deadline b)).release ch).setChan
      (Set.mem_insert ch ∅) _
  have erun : (Machine.endPlay ch (builtInCall b) c).run = c.run := setChan_runs ch _ _
  have hg := (he.setBuiltIn (b := b) (d := { (Machine.endPlay ch (builtInCall b) c).table[builtInCall b] with life := .ready })
    (he.builtIn_deadline b)).setChan (Set.mem_insert ch ∅)
    { ((Machine.endPlay ch (builtInCall b) c).setDesc (builtInCall b)
      { (Machine.endPlay ch (builtInCall b) c).table[builtInCall b] with life := .ready }).chan ch with reserved := some b }
  have chan : (Machine.endPlay ch (builtInCall b) c).chan ch = (c.chan ch).emptied .idle := Calls.chan_setChan_self _ ch _
  unfold Machine.enterGap
  dsimp only
  have hw := hg.setRun (b := b) (R' := R) (r := .inGap ch (Machine.endPlay ch (builtInCall b) c).table[builtInCall b].gap)
    (fun k hk e => hk (by
      rw [setChan_runs, show ((Machine.endPlay ch (builtInCall b) c).setDesc (builtInCall b) _).run = _ from erun, hrun] at e
      cases e
      exact Set.mem_insert _ _)) (fun _ _ => (nomatch ·)) (iff_of_true (nomatch ·) hR) fun _ _ => .rfl
  refine ⟨hw.filed, hw.wired.watch ?_ ?_ fun b' => ?_⟩
  · rw [setRun_chan, Calls.chan_setChan_self]
    exact congrArg ChannelRecord.call chan
  · rw [setRun_chan, Calls.chan_setChan_self]
    exact congrArg ChannelRecord.carrying chan
  · rw [Calls.setRun_run]
    split
    · exact (nomatch ·)
    · next hb =>
      rw [setChan_runs, show ((Machine.endPlay ch (builtInCall b) c).setDesc (builtInCall b) _).run = _ from erun]
      exact h.run_ne_of_builtIn (Set.notMem_empty ch) hc hb

theorem enterGap_run (b : BuiltIn) (ch : Channel) (c : Calls) :
    (enterGap b ch c).run b = .inGap ch c.table[builtInCall b].gap := by
  unfold enterGap
  rw [Calls.setRun_run, if_pos rfl]

/-- The gap of a built-in call runs out. -/
theorem Calls.Sound.leaveGap {n : Nat} {k : Channel} (h : w.val.Sound R ∅ ∅) (hr : w.val.run b = .inGap k n)
    (ch : Channel) (e : CallEnv) : (leaveGap e b ch w).val.Sound R ∅ ∅ := by
  have hchan : (Machine.waitAgain b w.val).chan ch = w.val.chan ch := setRun_chan b .waiting _ ch
  have hw := (h.waitAgain (b := b) (fun k _ => by rw [hr]; exact (nomatch ·)) (h.running hr (nomatch ·))).rewriteChan
    (ch := ch) (r := { w.val.chan ch with reserved := none }) (by rw [hchan])
    (by rw [hchan]; rfl)
  have hrun : ((Machine.waitAgain b w.val).setChan ch { w.val.chan ch with reserved := none }).run b = .waiting := by
    rw [setChan_runs]
    unfold Machine.waitAgain
    rw [Calls.setRun_run, if_pos rfl]
  unfold Machine.leaveGap
  dsimp only
  split
  · next hs => exact Calls.Sound.startBuiltIn (w := w.map _) hw hs.1 hrun e
  · exact Calls.Sound.seekBuiltIns (w := w.map _) hw e true

theorem Calls.Sound.gapExpiryAct (h : w.val.Sound R ∅ ∅) (b : BuiltIn) (e : CallEnv) :
    (gapExpiryAct b e w).val.Sound R ∅ ∅ := by
  unfold Machine.gapExpiryAct
  split
  · next ch n hr =>
    split
    · exact (h.leaveGap hr ch e).walk e.now
    · exact h
  · exact h
  · exact h
  · exact h

/-- The repeat or the finish of the call in hand. -/
theorem Calls.Sound.afterPlay (h : w.val.Sound R (insert i J) K) (hi : i ∉ J) (h2 : 2 ≤ i.val)
    (hf : w.val.table[i].life ≠ .free) (now : Nat) : (afterPlay now i w).val.Sound R J K := by
  unfold Machine.afterPlay
  dsimp only
  split
  · exact h.armCall hi h2 hf now _ _
  · exact h.finishCall hi h2 hf now _

theorem Calls.Sound.playingFallsAct (h : w.val.Sound R ∅ ∅) (ch : Channel) (e : CallEnv) :
    (playingFallsAct ch e w).val.Sound R ∅ ∅ := by
  unfold Machine.playingFallsAct
  dsimp only
  split
  · next hs =>
    split
    · next i hc =>
      split
      · next hb =>
        have h2 := builtInOf_eq_none hb
        have hl := (h.wired.general ch (Set.notMem_empty ch) i hc h2).2.1
        have hf : (w.map (Machine.endPlay ch i)).val.table[i].life ≠ .free := by
          rw [show (w.map (Machine.endPlay ch i)).val.table[i] = _ from endPlay_table ch i w.val]
          dsimp only
          rw [hl]
          decide
        exact (Calls.Sound.afterPlay (w := w.map (Machine.endPlay ch i)) (h.endPlay hc h2) (Set.notMem_empty i) h2 hf
          e.now).afterIdle e
      · next b hb =>
        obtain rfl := builtInOf_eq_some hb
        have hg := h.enterGap hc
        refine Calls.Sound.walk ?_ e.now
        split
        · exact Calls.Sound.leaveGap (w := (w.map (Machine.endPlay ch _)).map (Machine.enterGap b ch)) hg
            (enterGap_run b ch _) ch e
        · exact hg
    · next hc =>
      have hd := (h.drop (drop_none hc)).release ch
      exact Calls.Sound.afterIdle (w := w.map _) (hd.emptyChan (h.run_ne (Set.notMem_empty ch) hc) rfl rfl) e
  · next hs =>
    have hcar : (w.val.chan ch).carrying = false := carrying_eq_false (by rw [hs]; decide) (by rw [hs]; decide)
    exact Calls.Sound.afterIdle (w := w.map _) (h.emptyFree hcar rfl rfl) e
  · exact h
  · exact h
  · exact h

theorem faultChannel_chan (ch : Channel) (reason : ChannelFault) (call : Option (CallId × Nat)) (strobe : Bool)
    (w : Act Calls) : ((faultChannel ch reason call strobe w).val.chan ch).call = none ∧
      ((faultChannel ch reason call strobe w).val.chan ch).carrying = false := by
  unfold faultChannel
  dsimp only
  rw [Calls.chan_setChan_self]
  exact ⟨rfl, rfl⟩

theorem faultChannel_run (ch : Channel) (reason : ChannelFault) (call : Option (CallId × Nat)) (strobe : Bool)
    (w : Act Calls) : (faultChannel ch reason call strobe w).val.run = w.val.run := setChan_runs ch _ _

theorem faultChannel_table (ch : Channel) (reason : ChannelFault) (call : Option (CallId × Nat)) (strobe : Bool)
    (w : Act Calls) : (faultChannel ch reason call strobe w).val.table = w.val.table := Calls.setChan_table ch _ _

/-- A channel that carried a built-in call has become FAULTED, and the call waits again. -/
theorem Calls.Sound.faultBuiltIn (h : w.val.Sound R ∅ ∅) (hc : (w.val.chan ch).call = some (builtInCall b))
    (reason : ChannelFault) (call : Option (CallId × Nat)) (strobe : Bool) :
    (Machine.waitAgain b (Machine.faultChannel ch reason call strobe w).val).Sound R ∅ ∅ := by
  have hrun : w.val.run b = .onChannel ch := (h.wired.onChannel ch (Set.notMem_empty ch) b).mpr hc
  have hd : w.val.Sound R ∅ (insert ch ∅) := h.drop fun i hi => by
    rw [hc] at hi; cases hi; exact builtInCall_lt b
  have hf : (Machine.faultChannel ch reason call strobe w).val.Sound R ∅ (insert ch ∅) :=
    (hd.release ch).setChan (Set.mem_insert ch ∅) _
  have hw := hf.waitAgain (b := b) (fun k hk e => hk (by
    rw [faultChannel_run, hrun] at e; cases e; exact Set.mem_insert _ _)) (h.running hrun (nomatch ·))
  obtain ⟨f1, f2⟩ := faultChannel_chan ch reason call strobe w
  have hchan : (Machine.waitAgain b (Machine.faultChannel ch reason call strobe w).val).chan ch =
      (Machine.faultChannel ch reason call strobe w).val.chan ch := setRun_chan b .waiting _ ch
  refine ⟨hw.filed, hw.wired.watch (by rw [hchan]; exact f1) (by rw [hchan]; exact f2) fun b' => ?_⟩
  unfold Machine.waitAgain
  rw [Calls.setRun_run]
  split
  · exact (nomatch ·)
  · next hb =>
    show (Machine.faultChannel ch reason call strobe w).val.run b' ≠ _
    rw [faultChannel_run]
    exact h.run_ne_of_builtIn (Set.notMem_empty ch) hc hb

/-- A channel that carried a general call has become FAULTED, and the call is in hand. -/
theorem Calls.Sound.faultGeneral (h : w.val.Sound R ∅ ∅) (hc : (w.val.chan ch).call = some i) (h2 : 2 ≤ i.val)
    (reason : ChannelFault) (call : Option (CallId × Nat)) (strobe : Bool) :
    (Machine.faultChannel ch reason call strobe w).val.Sound R (insert i ∅) ∅ :=
  Calls.Sound.faultChannel (h.dropCall (Set.notMem_empty ch) hc h2) (h.run_ne_of_general (Set.notMem_empty ch) hc h2)
    reason call strobe

/-- The call in hand, PLAYING before, returns to READY, or finishes late. -/
theorem Calls.Sound.returnToReady (h : w.val.Sound R (insert i ∅) ∅) (h2 : 2 ≤ i.val)
    (hl : w.val.table[i].life = .playing) (now : Nat) (missed : ZoneSet) :
    (returnToReady now i missed w).val.Sound R ∅ ∅ := by
  unfold Machine.returnToReady
  dsimp only
  generalize hd : ({ w.val.table[i] with
    life := .ready, channel := none, missed := missed,
    deadline := deadlineOf (w.val.table[i].entry.getD now) w.val.table[i].lifetime } : Descriptor) = d
  have hdl : d.life = .ready := by rw [← hd]
  have hs := h.setDesc (d := d) (Set.mem_insert i ∅) h2 ⟨by rw [hdl]; exact (nomatch ·), fun _ => by
    rw [← hd]; exact (h.filed.marked h2).2 (.inr hl)⟩ fun _ => by rw [hl]; decide
  have ht := Calls.setDesc_table_self i d w.val
  have hj : (Calls.joinReady i (w.val.setDesc i d)).Sound R ∅ ∅ :=
    ⟨hs.filed.joinReady (Set.notMem_empty i) h2 (by rw [ht, hdl]),
      (hs.wired.place (by rw [ht, hdl]; decide)).lists rfl (chan_eq rfl rfl) (run_eq rfl rfl)⟩
  split
  · refine Calls.Sound.finishListed (w := w.map _) hj (Set.notMem_empty i) h2 (.inr (.inr ?_)) now _
    exact (congrArg Descriptor.life ht).trans hdl
  · exact hj

theorem Calls.Sound.startTimerExpiryAct (h : w.val.Sound R ∅ ∅) (ch : Channel) (e : CallEnv) :
    (startTimerExpiryAct ch e w).val.Sound R ∅ ∅ := by
  unfold Machine.startTimerExpiryAct
  dsimp only
  split
  · split
    · next i hc =>
      refine (Calls.Sound.seekBuiltIns ?_ e true).walk e.now
      split
      · next hb =>
        have h2 := builtInOf_eq_none hb
        have hl := (h.wired.general ch (Set.notMem_empty ch) i hc h2).2.1
        exact (h.faultGeneral hc h2 _ _ _).returnToReady h2 (by rw [faultChannel_table]; exact hl) e.now _
      · next b hb =>
        obtain rfl := builtInOf_eq_some hb
        exact h.faultBuiltIn hc _ _ _
    · exact h
  · exact h

theorem Calls.Sound.guardTimerExpiryAct (h : w.val.Sound R ∅ ∅) (ch : Channel) (e : CallEnv) :
    (guardTimerExpiryAct ch e w).val.Sound R ∅ ∅ := by
  unfold Machine.guardTimerExpiryAct
  dsimp only
  split
  · split
    · next i hc =>
      refine (Calls.Sound.seekBuiltIns ?_ e true).walk e.now
      split
      · next hb =>
        have h2 := builtInOf_eq_none hb
        have hl := (h.wired.general ch (Set.notMem_empty ch) i hc h2).2.1
        exact (h.faultGeneral hc h2 _ _ _).finishCall (Set.notMem_empty i) h2
          (by rw [faultChannel_table, hl]; decide) e.now _
      · next b hb =>
        obtain rfl := builtInOf_eq_some hb
        exact h.faultBuiltIn hc _ _ _
    · exact h
  · exact h

theorem Calls.Sound.stopTimerExpiryAct (h : w.val.Sound R ∅ ∅) (ch : Channel) (e : CallEnv) :
    (stopTimerExpiryAct ch e w).val.Sound R ∅ ∅ := by
  unfold Machine.stopTimerExpiryAct
  dsimp only
  split
  · next hs =>
    have hcar : (w.val.chan ch).carrying = false := carrying_eq_false (by rw [hs.1]; decide) (by rw [hs.1]; decide)
    exact (h.faultFree hcar .noStop false).seekEvacuation e true
  · exact h

theorem Calls.Sound.resetChannelAct (h : w.val.Sound R ∅ ∅) (hs : (w.val.chan ch).state = .faulted) (e : CallEnv) :
    (resetChannelAct ch e w).val.Sound R ∅ ∅ :=
  Calls.Sound.afterIdle (w := w.map _) (h.emptyFree (carrying_of_state (.inr hs)) rfl rfl) e

/-! ## One decisecond -/

theorem Calls.Sound.tick (h : c.Sound R J K) : c.tick.Sound R J K := by
  have chan (k : Channel) : c.tick.chan k = (c.chan k).tick := by cases k <;> rfl
  have run (b : BuiltIn) : c.tick.run b = (c.run b).tick := by cases b <;> rfl
  have onChannel (r : RunPosition) (k : Channel) : r.tick = .onChannel k ↔ r = .onChannel k := by
    cases r <;> simp [RunPosition.tick]
  have notRunning (r : RunPosition) : r.tick = .notRunning ↔ r = .notRunning := by
    cases r <;> simp [RunPosition.tick]
  obtain ⟨hf, ⟨h1, h2, h3, h4, h5, h6⟩⟩ := h
  refine ⟨hf.congr rfl rfl rfl rfl rfl rfl rfl rfl, ⟨fun k hk => ?_, fun k hk i hi => ?_, fun i hi hj hl => ?_,
    fun k hk b => ?_, fun b => ?_, h6⟩⟩
  · rw [chan]; exact h1 k hk
  · rw [chan] at hi; exact h2 k hk i hi
  · obtain ⟨k, hk, hc⟩ := h3 i hi hj hl
    exact ⟨k, hk, by rw [chan]; exact hc⟩
  · rw [run, onChannel, chan]; exact h4 k hk b
  · rw [run, ne_eq, notRunning]; exact h5 b

end

end Sys2Proof.Machine
end

section
/-! SUPPORT. The bound of the completion queues (R165): the drain alone fills them, up to 16 entries. -/
namespace Sys2Proof.Machine

/-- The entries of each completion queue beyond its bound. -/
def Calls.excess (c : Calls) (k : Desk) : Nat := (c.queue k).length - completionRoom

theorem Calls.queuesBounded_iff (c : Calls) : c.queuesBounded ↔ ∀ k, c.excess k = 0 := by
  constructor
  · rintro ⟨hp, hh⟩ k
    cases k <;> [exact Nat.sub_eq_zero_of_le hp; exact Nat.sub_eq_zero_of_le hh]
  · exact fun h => ⟨Nat.le_of_sub_eq_zero (h .prompt), Nat.le_of_sub_eq_zero (h .house)⟩

theorem Calls.queuesBounded.congr {c c' : Calls} (h : c.queuesBounded) (he : c'.excess = c.excess) :
    c'.queuesBounded := by
  rw [Calls.queuesBounded_iff] at h ⊢
  rwa [he]

/-! ## The operations on the record -/

@[simp] theorem excess_setDesc (i : CallId) (d : Descriptor) (c : Calls) : (c.setDesc i d).excess = c.excess := rfl

@[simp] theorem excess_leave (i : CallId) (c : Calls) : (c.leave i).excess = c.excess := rfl

@[simp] theorem excess_enterReady (now : Nat) (i : CallId) (c : Calls) : (enterReady now i c).excess = c.excess := rfl

@[simp] theorem excess_enterTimed (due : Nat) (basis : DueBasis) (i : CallId) (c : Calls) :
    (enterTimed due basis i c).excess = c.excess := rfl

@[simp] theorem excess_enterWaiting (i : CallId) (c : Calls) : (enterWaiting i c).excess = c.excess := rfl

@[simp] theorem excess_setChan (ch : Channel) (r : ChannelRecord) (c : Calls) : (c.setChan ch r).excess = c.excess := by
  cases ch <;> rfl

@[simp] theorem excess_setRun (b : BuiltIn) (r : RunPosition) (c : Calls) : (c.setRun b r).excess = c.excess := by
  cases b <;> rfl

@[simp] theorem excess_release (ch : Channel) (c : Calls) : (c.release ch).excess = c.excess := rfl

@[simp] theorem excess_startPlay (ch : Channel) (i : CallId) (live : ZoneSet) (c : Calls) :
    (startPlay ch i live c).excess = c.excess := excess_setChan ch _ _

@[simp] theorem excess_stopChannel (e : CallEnv) (ch : Channel) (c : Calls) : (stopChannel e ch c).excess = c.excess :=
  excess_setChan ch _ _

@[simp] theorem excess_beginRun (e : CallEnv) (b : BuiltIn) (c : Calls) : (beginRun e b c).excess = c.excess :=
  excess_setRun b _ _

@[simp] theorem excess_waitAgain (b : BuiltIn) (c : Calls) : (waitAgain b c).excess = c.excess := excess_setRun b _ _

@[simp] theorem excess_enterGap (b : BuiltIn) (ch : Channel) (c : Calls) : (enterGap b ch c).excess = c.excess :=
  (excess_setRun b _ _).trans (excess_setChan ch _ _)

@[simp] theorem excess_endPlay (ch : Channel) (i : CallId) (c : Calls) : (endPlay ch i c).excess = c.excess :=
  excess_setChan ch _ _

theorem excess_foldl {α : Type} {f : Act Calls → α → Act Calls} (hf : ∀ w x, (f w x).val.excess = w.val.excess)
    (xs : List α) (w : Act Calls) : (xs.foldl f w).val.excess = w.val.excess := by
  induction xs generalizing w with
  | nil => rfl
  | cons x xs ih => exact (ih _).trans (hf w x)

/-! ## Finishing and arming -/

theorem takeOwned_length (owned : Finished → Bool) (room : Nat) (xs : List Finished) :
    (takeOwned owned room xs).1.length ≤ room := by
  induction xs generalizing room with
  | nil => exact Nat.zero_le _
  | cons x xs ih =>
    unfold takeOwned
    split
    · exact Nat.zero_le _
    · split
      · have := ih (room - 1)
        simp only [List.length_cons]
        omega
      · exact ih room

theorem foldl_drainItem_length (k k' : Desk) (ys : List Finished) (c : Calls) :
    ((ys.foldl (drainItem k) c).queue k').length = (c.queue k').length + if k' = k then ys.length else 0 := by
  induction ys generalizing c with
  | nil => simp
  | cons y ys ih =>
    rw [List.foldl_cons, ih, drainItem_queue]
    split
    · next e => subst e; simp only [List.length_append, List.length_cons, List.length_nil]; omega
    · rfl

/-- A drain fills a queue up to its bound and no further (R165). -/
@[simp] theorem excess_drain (quiet : Bool) (k : Desk) (w : Act Calls) :
    (drain quiet k w).val.excess = w.val.excess := by
  funext k'
  unfold drain Calls.excess
  dsimp only
  have hl := takeOwned_length (fun x => w.val.ownerOf x = k) (completionRoom - (w.val.queue k).length) w.val.finished
  rw [foldl_drainItem_length]
  show (w.val.queue k').length + _ - _ = _
  split
  · next e => subst e; omega
  · rfl

@[simp] theorem excess_finishCall (now : Nat) (i : CallId) (o : CallOutcome) (w : Act Calls) :
    (finishCall now i o w).val.excess = w.val.excess := excess_drain false _ _

@[simp] theorem excess_finishBuiltIn (now : Nat) (b : BuiltIn) (o : CallOutcome) (w : Act Calls) :
    (finishBuiltIn now b o w).val.excess = w.val.excess := (excess_drain false _ _).trans (excess_setRun b _ _)

@[simp] theorem excess_armCall (now due : Nat) (basis : DueBasis) (i : CallId) (w : Act Calls) :
    (armCall now due basis i w).val.excess = w.val.excess := by
  unfold armCall; split <;> simp

@[simp] theorem excess_armFromAnchor (e : CallEnv) (i : CallId) (w : Act Calls) :
    (armFromAnchor e i w).val.excess = w.val.excess := by
  unfold armFromAnchor; split <;> simp

@[simp] theorem excess_onAnchorEvent (e : CallEnv) (a : Anchor) (ev : AnchorEvent) (w : Act Calls) :
    (onAnchorEvent e a ev w).val.excess = w.val.excess := by
  cases ev
  · exact excess_foldl (fun w i => by simp) _ w
  · exact excess_foldl (fun w i => by simp) _ w
  · exact excess_foldl (fun w i => by simp) _ w

@[simp] theorem excess_takeDue (now : Nat) (w : Act Calls) : (takeDue now w).val.excess = w.val.excess :=
  excess_foldl (fun w i => by simp) _ w

@[simp] theorem excess_catchUp (now : Nat) (w : Act Calls) : (catchUp now w).val.excess = w.val.excess :=
  excess_foldl (fun w i => by simp) _ w

@[simp] theorem excess_afterPlay (now : Nat) (i : CallId) (w : Act Calls) :
    (afterPlay now i w).val.excess = w.val.excess := by
  unfold afterPlay; dsimp only; split <;> simp

/-! ## The arbiter -/

@[simp] theorem excess_preEmpt (e : CallEnv) (ch : Channel) (w : Act Calls) : (preEmpt e ch w).val.excess = w.val.excess := by
  unfold preEmpt; split <;> simp

@[simp] theorem excess_faultChannel (ch : Channel) (f : ChannelFault) (call : Option (CallId × Nat)) (strobe : Bool)
    (w : Act Calls) : (faultChannel ch f call strobe w).val.excess = w.val.excess := excess_setChan ch _ _

theorem excess_walkOne (now : Nat) (a : Act Calls × ZoneSet) (i : CallId) :
    (walkOne now a i).1.val.excess = a.1.val.excess := by
  unfold walkOne
  dsimp only
  split
  · simp [silence]
  · split
    · split <;> simp
    · rfl

@[simp] theorem excess_walk (now : Nat) (w : Act Calls) : (walk now w).val.excess = w.val.excess := by
  have folded (is : List CallId) (a : Act Calls × ZoneSet) : (is.foldl (walkOne now) a).1.val.excess = a.1.val.excess := by
    induction is generalizing a with
    | nil => rfl
    | cons i is ih => exact (ih _).trans (excess_walkOne now a i)
  unfold walk
  split
  · rfl
  · exact folded _ _

@[simp] theorem excess_walkOnChange (now : Nat) (before : Calls) (w : Act Calls) :
    (walkOnChange now before w).val.excess = w.val.excess := by
  unfold walkOnChange; split <;> simp

@[simp] theorem excess_startBuiltIn (e : CallEnv) (b : BuiltIn) (ch : Channel) (w : Act Calls) :
    (startBuiltIn e b ch w).val.excess = w.val.excess := by
  unfold startBuiltIn; dsimp only; split <;> simp

@[simp] theorem excess_seekEvacuation (e : CallEnv) (announce : Bool) (w : Act Calls) :
    (seekEvacuation e announce w).val.excess = w.val.excess := by
  unfold seekEvacuation
  split
  · split
    · rfl
    · split
      · simp
      · split <;> simp
  · rfl

@[simp] theorem excess_seekStaffAlert (e : CallEnv) (w : Act Calls) :
    (seekStaffAlert e w).val.excess = w.val.excess := by
  unfold seekStaffAlert; split_ifs <;> simp

@[simp] theorem excess_seekBuiltIns (e : CallEnv) (announce : Bool) (w : Act Calls) :
    (seekBuiltIns e announce w).val.excess = w.val.excess :=
  (excess_seekStaffAlert e _).trans (excess_seekEvacuation e announce w)

@[simp] theorem excess_afterIdle (e : CallEnv) (w : Act Calls) : (afterIdle e w).val.excess = w.val.excess :=
  (excess_walk _ _).trans (excess_seekBuiltIns e true w)

@[simp] theorem excess_beginStaffAlert (e : CallEnv) (w : Act Calls) :
    (beginStaffAlert e w).val.excess = w.val.excess := by
  unfold beginStaffAlert; dsimp only; split_ifs <;> simp

@[simp] theorem excess_endBuiltIn (e : CallEnv) (b : BuiltIn) (o : CallOutcome) (w : Act Calls) :
    (endBuiltIn e b o w).val.excess = w.val.excess := by
  unfold endBuiltIn; split <;> simp

@[simp] theorem excess_stopForEvacuation (e : CallEnv) (ch : Channel) (c : Calls) :
    (stopForEvacuation e ch c).excess = c.excess := by
  unfold stopForEvacuation; split <;> simp

@[simp] theorem excess_finishOnChannel (e : CallEnv) (ch : Channel) (w : Act Calls) :
    (finishOnChannel e ch w).val.excess = w.val.excess := by
  unfold finishOnChannel; split <;> simp

@[simp] theorem excess_beginEvacuation (e : CallEnv) (w : Act Calls) : (beginEvacuation e w).val.excess = w.val.excess := by
  simp [beginEvacuation]

/-! ## The hand-offs of the fire condition -/

@[simp] theorem excess_schedulerFireHandoff (new : Condition) (e : CallEnv) (w : Act Calls) :
    (schedulerFireHandoff new e w).val.excess = w.val.excess := by
  unfold schedulerFireHandoff
  dsimp only
  split
  · rw [excess_catchUp]; rfl
  · rfl

@[simp] theorem excess_arbiterFireHandoff (new : Condition) (e : CallEnv) (w : Act Calls) :
    (arbiterFireHandoff new e w).val.excess = w.val.excess := by
  unfold arbiterFireHandoff
  cases new <;> simp <;> rfl

/-! ## Events at the channels and at the calls -/

@[simp] theorem excess_playingRisesAct (ch : Channel) (e : CallEnv) (w : Act Calls) :
    (playingRisesAct ch e w).val.excess = w.val.excess := by
  unfold playingRisesAct; dsimp only; split <;> simp

@[simp] theorem excess_leaveGap (e : CallEnv) (b : BuiltIn) (ch : Channel) (w : Act Calls) :
    (leaveGap e b ch w).val.excess = w.val.excess := by
  unfold leaveGap; dsimp only; split <;> simp

@[simp] theorem excess_playingFallsAct (ch : Channel) (e : CallEnv) (w : Act Calls) :
    (playingFallsAct ch e w).val.excess = w.val.excess := by
  unfold playingFallsAct
  dsimp only
  split
  · split
    · split
      · simp
      · rw [excess_walk]; split <;> simp
    · simp
  · simp
  all_goals rfl

@[simp] theorem excess_returnToReady (now : Nat) (i : CallId) (missed : ZoneSet) (w : Act Calls) :
    (returnToReady now i missed w).val.excess = w.val.excess := by
  unfold returnToReady; dsimp only; split
  · simp only [excess_finishCall]; rfl
  · rfl

@[simp] theorem excess_startTimerExpiryAct (ch : Channel) (e : CallEnv) (w : Act Calls) :
    (startTimerExpiryAct ch e w).val.excess = w.val.excess := by
  unfold startTimerExpiryAct
  dsimp only
  split
  · split
    · rw [excess_walk, excess_seekBuiltIns]; split <;> simp
    · rfl
  · rfl

@[simp] theorem excess_guardTimerExpiryAct (ch : Channel) (e : CallEnv) (w : Act Calls) :
    (guardTimerExpiryAct ch e w).val.excess = w.val.excess := by
  unfold guardTimerExpiryAct
  dsimp only
  split
  · split
    · rw [excess_walk, excess_seekBuiltIns]; split <;> simp
    · rfl
  · rfl

@[simp] theorem excess_stopTimerExpiryAct (ch : Channel) (e : CallEnv) (w : Act Calls) :
    (stopTimerExpiryAct ch e w).val.excess = w.val.excess := by
  unfold stopTimerExpiryAct; dsimp only; split <;> simp

@[simp] theorem excess_gapExpiryAct (b : BuiltIn) (e : CallEnv) (w : Act Calls) :
    (gapExpiryAct b e w).val.excess = w.val.excess := by
  unfold gapExpiryAct
  split
  · split <;> simp
  all_goals rfl

@[simp] theorem excess_resetChannelAct (ch : Channel) (e : CallEnv) (w : Act Calls) :
    (resetChannelAct ch e w).val.excess = w.val.excess := by
  simp [resetChannelAct]

@[simp] theorem excess_dueTimerAct (e : CallEnv) (w : Act Calls) : (dueTimerAct e w).val.excess = w.val.excess := by
  unfold dueTimerAct; split <;> simp

@[simp] theorem excess_deadlineAct (i : CallId) (e : CallEnv) (w : Act Calls) :
    (deadlineAct i e w).val.excess = w.val.excess := by
  unfold deadlineAct; dsimp only; split <;> simp

@[simp] theorem excess_anchorEventAct (a : Anchor) (ev : AnchorEvent) (e : CallEnv) (w : Act Calls) :
    (anchorEventAct a ev e w).val.excess = w.val.excess := by
  simp [anchorEventAct]

@[simp] theorem excess_cancelCall (e : CallEnv) (i : CallId) (w : Act Calls) :
    (cancelCall e i w).val.excess = w.val.excess := by
  unfold cancelCall; dsimp only; split <;> simp

@[simp] theorem excess_cancelAct (i : CallId) (e : CallEnv) (w : Act Calls) :
    (cancelAct i e w).val.excess = w.val.excess := by
  unfold cancelAct; dsimp only; split <;> simp

@[simp] theorem excess_darkCancelAct (e : CallEnv) (w : Act Calls) : (darkCancelAct e w).val.excess = w.val.excess := by
  have cancelled (is : List CallId) (w : Act Calls) :
      (is.foldl (fun w i => if w.val.table[i].life.live then cancelCall e i w else w) w).val.excess = w.val.excess :=
    excess_foldl (fun w i => by split <;> simp) is w
  unfold darkCancelAct
  dsimp only
  split <;> simp only [excess_walkOnChange, excess_afterIdle, cancelled]

@[simp] theorem excess_afterPagingWrite (e : CallEnv) (w : Act Calls) :
    (afterPagingWrite e w).val.excess = w.val.excess := by
  unfold afterPagingWrite; dsimp only; split <;> simp

@[simp] theorem excess_placeCall (i : CallId) (d : Descriptor) (e : CallEnv) (w : Act Calls) :
    (placeCall i d e w).val.excess = w.val.excess := by
  unfold placeCall
  dsimp only
  rw [excess_walkOnChange]
  split
  · rfl
  · rw [excess_armFromAnchor]; rfl

/-- A collection empties its queue before the drain fills it again (R166). -/
theorem excess_collectAct (k : Desk) (e : CallEnv) (w : Act Calls) (k' : Desk) :
    (collectAct k e w).val.excess k' ≤ w.val.excess k' := by
  rw [collectAct, excess_drain, Act.map_val]
  unfold Calls.excess
  rw [Calls.setQueue_queue]
  split
  · next h =>
    subst h
    rw [List.length_drop]
    omega
  · exact Nat.le_refl _

@[simp] theorem excess_gateAct (z : Fin 12) (muted held : Bool) (e : CallEnv) (w : Act Calls) :
    (gateAct z muted held e w).val.excess = w.val.excess := by
  unfold gateAct
  dsimp only
  split
  · rfl
  · rw [excess_walk]; rfl

end Sys2Proof.Machine
end

section
/-! SUPPORT. What notices leave of the ports (R176), and what every action of a block leaves of the ports, the completion
queues and the call collections (R131, R165, R170, R172, R176). -/
namespace Sys2Proof.Machine

/-! ## Notices at a port (R176) -/

/-- What notices can do to a port: they stay within their bound, and none joins a LOST port. -/
structure PortRecord.Noticed (r r' : PortRecord) : Prop where
  only : r.onlyNotices r'
  room : r.notices ≤ noticeRoom → r'.notices ≤ noticeRoom
  lost : r.present = false → r' = r

theorem PortRecord.Noticed.refl (r : PortRecord) : r.Noticed r := ⟨r.onlyNotices_refl, id, fun _ => rfl⟩

theorem PortRecord.Noticed.trans {a b c : PortRecord} (h : a.Noticed b) (k : b.Noticed c) : a.Noticed c :=
  ⟨PortRecord.onlyNotices_trans h.only k.only, k.room ∘ h.room,
    fun hl => (k.lost (h.only.1.trans hl)).trans (h.lost hl)⟩

theorem PortRecord.notices_append (r : PortRecord) (n : Notice) :
    ({ r with tx := r.tx ++ [.notice n] } : PortRecord).notices = r.notices + 1 := by
  unfold PortRecord.notices
  rw [List.filter_append, List.length_append]
  rfl

theorem PortRecord.queueNotice_noticed (now : Nat) (n : Notice) (r : PortRecord) : r.Noticed (r.queueNotice now n) := by
  refine ⟨r.queueNotice_onlyNotices now n, fun hr => ?_, PortRecord.queueNotice_lost⟩
  rcases r.queueNotice_cases now n with ⟨-, h⟩ | ⟨-, hlt, h⟩ | ⟨-, -, h⟩ <;> rw [h]
  · exact hr
  · rw [PortRecord.notices_append]; exact hlt
  · exact hr

theorem Links.raise_noticed (now : Nat) (m : Mail) (l : Links) (p : Port) :
    (l.get p).Noticed ((l.raise now m).get p) := by
  unfold Links.raise
  generalize m.ports = ps
  induction ps generalizing l with
  | nil => exact .refl _
  | cons q ps ih =>
    refine PortRecord.Noticed.trans ?_ (ih _)
    rw [Links.get_set]
    split
    · next h => subst h; exact PortRecord.queueNotice_noticed ..
    · exact .refl _

theorem Links.post_noticed (now : Nat) (ms : List Mail) (l : Links) (p : Port) :
    (l.get p).Noticed ((l.post now ms).get p) := by
  unfold Links.post
  induction ms generalizing l with
  | nil => exact .refl _
  | cons m _ ih => exact (l.raise_noticed now m p).trans (ih _)

/-- The replies of a port stay where notices join. -/
theorem PortRecord.onlyNotices.replies {r r' : PortRecord} (h : r.onlyNotices r') : r'.replies = r.replies := by
  obtain ⟨-, -, -, -, -, -, ⟨ns, h7, h8⟩, -⟩ := (PortRecord.onlyNotices_iff _ _).mp h
  have hn : ns.filter (fun f => !f.isNotice) = [] :=
    List.filter_eq_nil_iff.mpr fun f hf => by rw [List.all_eq_true.mp h8 f hf]; decide
  unfold PortRecord.replies
  rw [h7, List.filter_append, hn, List.append_nil]

/-- A lawful port stays lawful where notices join. -/
theorem PortRecord.Noticed.lawful {r r' : PortRecord} (h : r.Noticed r') (hr : r.lawful) : r'.lawful := by
  obtain ⟨h1, h2, h3, h4, h5⟩ := hr
  obtain ⟨hp, ht, hx, -⟩ := h.only
  refine ⟨hx ▸ h1, h.only.replies ▸ h2, h.room h3, fun hl => ?_, fun hl => ?_⟩
  · rw [hp] at hl; rw [h.lost hl]; exact h4 hl
  · rw [hp] at hl; rw [ht]; exact h5 hl

/-! ## What an action of a block leaves -/

/-- The law of the calls, with the condition that the arbiter has seen. -/
theorem State.callsLawful_iff (s : State) : s.callsLawful ↔
    s.calls.Sound (runsIn s.fire.condition) ∅ ∅ ∧ s.calls.arbiterFire = s.fire.condition := by
  unfold State.callsLawful
  constructor
  · rintro ⟨h1, h2, h3⟩
    exact ⟨h3 ▸ h1.sound h2, h3⟩
  · rintro ⟨h1, h2⟩
    rw [← h2] at h1
    obtain ⟨k1, k2⟩ := h1.lawful
    exact ⟨k1, k2, h2⟩

/-- What an action leaves of the queues: notices alone join the ports, and no completion queue is filled beyond its
bound. -/
structure State.KeepsQueues (s t : State) : Prop where
  links : ∀ p : Port, (s.links.get p).Noticed (t.links.get p)
  excess : ∀ k, t.calls.excess k ≤ s.calls.excess k

/-- What an action leaves of the queues and of the law of the calls. -/
structure State.Passes (s t : State) : Prop extends s.KeepsQueues t where
  law : s.callsLawful → t.callsLawful

section
variable {s t u : State}

theorem State.KeepsQueues.refl (s : State) : s.KeepsQueues s := ⟨fun _ => .refl _, fun _ => Nat.le_refl _⟩

theorem State.KeepsQueues.trans (h : s.KeepsQueues t) (k : t.KeepsQueues u) : s.KeepsQueues u :=
  ⟨fun p => (h.links p).trans (k.links p), fun d => (k.excess d).trans (h.excess d)⟩

theorem State.Passes.refl (s : State) : s.Passes s := ⟨.refl s, id⟩

theorem State.Passes.trans (h : s.Passes t) (k : t.Passes u) : s.Passes u :=
  ⟨h.toKeepsQueues.trans k.toKeepsQueues, k.law ∘ h.law⟩

/-- The queues as they were after notices. -/
theorem State.KeepsQueues.of_post (now : Nat) (ms : List Mail) (hl : t.links = s.links.post now ms)
    (hc : t.calls.excess = s.calls.excess) : s.KeepsQueues t :=
  ⟨fun p => hl ▸ s.links.post_noticed now ms p, fun k => (congrFun hc k).le⟩

/-- An action that writes neither the calls nor the fire condition, and raises notices. -/
theorem State.Passes.of_post (now : Nat) (ms : List Mail) (hl : t.links = s.links.post now ms)
    (hc : t.calls = s.calls) (hf : t.fire.condition = s.fire.condition) : s.Passes t :=
  ⟨.of_post now ms hl (by rw [hc]), fun h => by unfold State.callsLawful; rw [hc, hf]; exact h⟩

/-- An action that writes neither the ports nor the calls nor the fire condition. -/
theorem State.Passes.of_same (hl : t.links = s.links) (hc : t.calls = s.calls)
    (hf : t.fire.condition = s.fire.condition) : s.Passes t := .of_post 0 [] hl hc hf

theorem passes_house (h : House) (s : State) : s.Passes { s with house := h } := .of_same rfl rfl rfl

theorem passes_fire {f : Fire} {s : State} (hf : f.condition = s.fire.condition) : s.Passes { s with fire := f } :=
  .of_same rfl rfl hf

theorem passes_post (ms : List Mail) (s : State) : s.Passes (s.post ms) := .of_post s.clock ms rfl rfl rfl

theorem passes_onCurtain (f : CurtainEnv → Act Curtain → Act Curtain) (s : State) : s.Passes (s.onCurtain f) :=
  .of_post s.clock _ rfl rfl rfl

theorem passes_onLights (f : LightEnv → Act Lights → Act Lights) (s : State) : s.Passes (s.onLights f) :=
  .of_post s.clock _ rfl rfl rfl

theorem passes_onZones {g : ZoneEvent} {s : State} (hg : s.fire.Stands (g s.fireEnv ⟨s.fire, []⟩)) :
    s.Passes (s.onZones g).1 := .of_post s.clock _ rfl rfl hg.1

/-- An act of the calls that keeps their law and the condition they have seen. -/
theorem passes_onCalls {f : CallEnv → Act Calls → Act Calls} {s : State}
    (hx : ∀ k, (f s.callEnv ⟨s.calls, []⟩).val.excess k ≤ s.calls.excess k)
    (hs : ∀ R, s.calls.Sound R ∅ ∅ → (f s.callEnv ⟨s.calls, []⟩).val.Sound R ∅ ∅)
    (ha : (f s.callEnv ⟨s.calls, []⟩).val.seen = s.calls.seen) : s.Passes (s.onCalls f) := by
  refine ⟨⟨s.links.post_noticed s.clock _, hx⟩, ?_⟩
  simp only [State.callsLawful_iff, State.onCalls_calls, State.onCalls_fire]
  exact fun h => ⟨hs _ h.1, (congrArg (·.2.2) ha).trans h.2⟩

/-- An act of the calls that fills no completion queue but by the drain. -/
theorem passes_call {f : CallEnv → Act Calls → Act Calls} {s : State}
    (hx : ∀ e w, (f e w).val.excess = w.val.excess)
    (hs : ∀ R, s.calls.Sound R ∅ ∅ → (f s.callEnv ⟨s.calls, []⟩).val.Sound R ∅ ∅)
    (ha : ∀ e w, (f e w).val.seen = w.val.seen) : s.Passes (s.onCalls f) :=
  passes_onCalls (fun k => (congrFun (hx s.callEnv ⟨s.calls, []⟩) k).le) hs (ha s.callEnv ⟨s.calls, []⟩)

end

/-! ## A change of the house condition record handed on (R3, R4, R5, R22) -/

theorem passes_handAnchors (events : List (Anchor × AnchorEvent)) (s : State) : s.Passes (handAnchors events s) := by
  unfold handAnchors
  induction events generalizing s with
  | nil => exact .refl s
  | cons x _ ih =>
    exact (passes_call (excess_anchorEventAct _ _) (fun _ h => h.anchorEventAct _ _ _) (seen_anchorEventAct _ _)).trans
      (ih _)

theorem passes_recordPhase (s : State) : s.Passes (recordPhase s) := by
  refine ⟨.of_post 0 [] rfl rfl, ?_⟩
  simp only [State.callsLawful_iff]
  exact fun h => ⟨⟨h.1.filed.congr rfl rfl rfl rfl rfl rfl rfl rfl, h.1.wired.lists rfl (chan_eq rfl rfl) (run_eq rfl rfl)⟩,
    h.2⟩

theorem passes_handPhase (old : House) (s : State) : s.Passes (handPhase old s) := by
  unfold handPhase
  split
  · exact .refl s
  · exact ((passes_onLights _ s).trans (passes_recordPhase _)).trans (passes_post _ _)

theorem passes_noteClearance (old : House) (cause : ClearanceCause) (s : State) :
    s.Passes (noteClearance old cause s) := by
  unfold noteClearance
  split
  · exact .refl s
  · exact passes_post _ s

theorem passes_completeChange {handOff : State → State} (h : ∀ t : State, t.Passes (handOff t)) (old : House)
    (cause : ClearanceCause) (s : State) : s.Passes (completeChange old cause handOff s) := by
  have hr : s.Passes (handRecord old cause s) :=
    ((passes_handAnchors _ s).trans (passes_noteClearance _ _ _)).trans (passes_handPhase _ _)
  rw [completeChange_eq]
  refine hr.trans ?_
  unfold handShowMode
  split
  · exact .refl _
  · dsimp only
    split
    · exact passes_post _ _
    · exact (passes_post _ _).trans (h _)

/-! ## The fire condition (R47, R56, R57) -/

theorem passes_stopShow (s : State) : s.Passes (stopShow s) :=
  (passes_house _ s).trans
    (passes_completeChange (fun t => .refl t) s.house .cleared { s with house := s.house.evacuated })

/-- A condition recorded, the calls not yet told. -/
theorem keepsQueues_conditionRecorded (new : Condition) (cause : FireCause) (s : State) :
    s.KeepsQueues (conditionRecorded new cause s) := by
  unfold conditionRecorded promoteOnEvacuate
  split
  · exact .of_post s.clock _ rfl rfl
  · exact .of_post 0 [] rfl rfl

theorem keepsQueues_onCalls {f : CallEnv → Act Calls → Act Calls} (hf : ∀ e w, (f e w).val.excess = w.val.excess)
    (s : State) : s.KeepsQueues (s.onCalls f) :=
  ⟨s.links.post_noticed s.clock _, fun k => (congrFun (hf s.callEnv ⟨s.calls, []⟩) k).le⟩

theorem keepsQueues_handCondition (new : Condition) (d : Bool) (s : State) :
    s.KeepsQueues (handCondition new d s) :=
  ((passes_onCurtain _ s).toKeepsQueues.trans (passes_onLights _ _).toKeepsQueues).trans
    ((keepsQueues_onCalls (excess_schedulerFireHandoff new) _).trans
      (keepsQueues_onCalls (excess_arbiterFireHandoff new) _))

/-- The calls take up a condition recorded already: each built-in call runs as it says. -/
theorem handCondition_lawful {new old : Condition} {d : Bool} {t : State} (hn : t.fire.condition = new)
    (hq : new = .alert → old = .quiet) (h : t.calls.Sound (runsIn old) ∅ ∅) : (handCondition new d t).callsLawful := by
  rw [State.callsLawful_iff, handCondition_fire, hn]
  refine ⟨?_, congrArg (·.2.2) (handCondition_seen new d t).1⟩
  unfold handCondition
  generalize hv : ((t.onCurtain fun e => curtainFireHandoff e d (some new)).onLights (lightsFireHandoff new)) = v
  have hc : v.calls = t.calls := by rw [← hv]; rfl
  simp only [State.onCalls_calls, hc]
  exact Calls.Sound.arbiterFireHandoff (w := ⟨_, []⟩) (h.schedulerFireHandoff (w := ⟨t.calls, []⟩) new _) hq _

theorem passes_changeCondition {new : Condition} {cause : FireCause} {s : State}
    (hq : new = .alert → s.fire.condition = .quiet) : s.Passes (changeCondition new cause s) := by
  have hh : s.Passes (handCondition new (s.fire.demandFor new) ((conditionRecorded new cause s).post
      [fireMail (conditionRecorded new cause s).fire s.fire.condition cause])) := by
    refine ⟨((keepsQueues_conditionRecorded new cause s).trans (passes_post _ _).toKeepsQueues).trans
      (keepsQueues_handCondition _ _ _), fun h => ?_⟩
    refine handCondition_lawful (conditionRecorded_condition new cause s) hq ?_
    rw [State.post_calls, conditionRecorded_others]
    exact (s.callsLawful_iff.mp h).1
  rw [changeCondition_eq]
  dsimp only
  split
  · exact hh.trans (passes_stopShow _)
  · exact hh

/-- A change to QUIET or to EVACUATE. -/
theorem passes_changeCondition_of_ne {new : Condition} {cause : FireCause} {s : State} (h : new ≠ .alert) :
    s.Passes (changeCondition new cause s) := passes_changeCondition fun hn => absurd hn h

theorem passes_evaluateDemand (s : State) : s.Passes (evaluateDemand s) := by
  unfold evaluateDemand
  dsimp only
  split
  · exact .refl s
  · exact (passes_fire (f := { s.fire with demand := s.fire.demandFor s.fire.condition }) rfl).trans (passes_onCurtain _ _)

/-- The ladder leads to ALERT from QUIET alone (R47). -/
theorem Fire.climb_alert {f : Fire} {entering : List ZoneId} {cause : FireCause}
    (h : f.climb entering = some (.alert, cause)) : f.condition = .quiet := by
  unfold Fire.climb at h
  split_ifs at h with h1 h2 h3 h4 <;> cases h
  cases hc : f.condition
  · rfl
  · exact absurd hc h4
  · exact absurd hc h1

theorem passes_climbLadder (entering : List ZoneId) (s : State) : s.Passes (climbLadder entering s) := by
  unfold climbLadder
  split
  · next hc => exact passes_changeCondition fun hn => Fire.climb_alert (hn ▸ hc)
  · exact passes_evaluateDemand s

theorem passes_zoneEvent {g : ZoneEvent} {s : State} (hg : s.fire.Stands (g s.fireEnv ⟨s.fire, []⟩)) :
    s.Passes (zoneEvent g s) := by
  rcases zoneEvent_cases g s with ⟨-, k⟩ | ⟨-, k⟩ <;> rw [k]
  · exact passes_onZones hg
  · exact (passes_onZones hg).trans (passes_climbLadder _ _)

theorem passes_changeHouse (cause : ClearanceCause) (new : House) (s : State) : s.Passes (changeHouse cause new s) :=
  (passes_house new s).trans
    (passes_completeChange (fun _ => passes_zoneEvent (stands_promoteAll _ _)) s.house cause { s with house := new })

end Sys2Proof.Machine
end

section
/-! O56: the queues of the ports, the completion queues and the call collections over every command (R130 to R132, R159
to R165, R170 to R177). -/
namespace Sys2Proof.Machine

/-! ## The ports (R170, R172, R176, R177) -/

/-- What a command keeps: the bounds of the queues, and the law of the calls. -/
structure State.Keeps (s t : State) : Prop where
  queues : s.linksLawful ∧ s.calls.queuesBounded → t.linksLawful ∧ t.calls.queuesBounded
  law : s.callsLawful → t.callsLawful

section
variable {s t u : State} {p : Port}

theorem State.Keeps.refl (s : State) : s.Keeps s := ⟨id, id⟩

theorem State.Keeps.trans (h : s.Keeps t) (k : t.Keeps u) : s.Keeps u := ⟨k.queues ∘ h.queues, k.law ∘ h.law⟩

theorem State.Passes.keeps (h : s.Passes t) : s.Keeps t := by
  refine ⟨fun ⟨hl, hq⟩ => ⟨fun p => (h.links p).lawful (hl p), ?_⟩, h.law⟩
  rw [Calls.queuesBounded_iff] at hq ⊢
  exact fun k => Nat.le_zero.mp (hq k ▸ h.excess k)

/-- One port is written, and stays lawful. -/
theorem keeps_setPort {r : PortRecord} {s : State} (h : (s.links.get p).lawful → r.lawful) : s.Keeps (s.setPort p r) := by
  refine ⟨fun ⟨hl, hq⟩ => ⟨fun q => ?_, hq⟩, id⟩
  rw [State.setPort_links, Links.get_set]
  split
  · exact h (hl p)
  · exact hl q

theorem PortRecord.insertReply_replies (r : PortRecord) (n : Nat) (k : Byte) (a : Answer) :
    (r.insertReply n (.reply k a)).replies = r.replies + 1 ∧ (r.insertReply n (.reply k a)).notices = r.notices := by
  have hp : (r.insertReply n (.reply k a)).tx.Perm (.reply k a :: r.tx) := by
    have := List.perm_middle (a := TxFrame.reply k a) (l₁ := r.tx.take n) (l₂ := r.tx.drop n)
    rwa [List.take_append_drop] at this
  have h1 := (hp.filter fun f => !f.isNotice).length_eq
  have h2 := (hp.filter TxFrame.isNotice).length_eq
  exact ⟨h1, h2⟩

/-- A port with a free place for a reply takes one, and its request leaves. -/
theorem PortRecord.lawful.answered {r : PortRecord} (h : r.lawful) (hr : r.replies < replyRoom) (n : Nat) (k : Byte)
    (a : Answer) : ({ r.insertReply n (.reply k a) with rx := (r.insertReply n (.reply k a)).rx.drop 1 } :
      PortRecord).lawful := by
  obtain ⟨h1, h2, h3, h4, h5⟩ := h
  obtain ⟨k1, k2⟩ := r.insertReply_replies n k a
  refine ⟨?_, k1.trans_le hr, k2.trans_le h3, fun hl => ?_, h5⟩
  · rw [List.length_drop]
    exact (Nat.sub_le _ _).trans h1
  · obtain ⟨m1, m2⟩ := h4 hl
    exact ⟨k2.trans m1, m2⟩

theorem PortRecord.lawful.sent {r : PortRecord} (h : r.lawful) : r.sent.lawful := by
  obtain ⟨h1, h2, h3, h4, h5⟩ := h
  unfold PortRecord.sent
  split
  · exact ⟨h1, h2, h3, h4, h5⟩
  · next f rest htx =>
    have hn : ({ r with tx := rest } : PortRecord).notices ≤ r.notices := by
      unfold PortRecord.notices
      rw [htx]
      exact (List.Sublist.filter _ (List.sublist_cons_self f rest)).length_le
    have hr : ({ r with tx := rest } : PortRecord).replies ≤ r.replies := by
      unfold PortRecord.replies
      rw [htx]
      exact (List.Sublist.filter _ (List.sublist_cons_self f rest)).length_le
    have hrest : ({ r with tx := rest } : PortRecord).lawful :=
      ⟨h1, hr.trans h2, hn.trans h3, fun hl => ⟨Nat.le_zero.mp ((h4 hl).1 ▸ hn), (h4 hl).2⟩, h5⟩
    dsimp only
    split
    · next since ho =>
      split
      · next hroom =>
        have hk := PortRecord.notices_append { r with tx := rest } (.noticesLost since)
        refine ⟨h1, ?_, ?_, fun hl => ?_, h5⟩
        · have hrep : ({ r with tx := rest ++ [.notice (.noticesLost since)] } : PortRecord).replies =
              ({ r with tx := rest } : PortRecord).replies := by
            unfold PortRecord.replies
            rw [List.filter_append, List.length_append]
            rfl
          exact hrep.le.trans (hr.trans h2)
        · exact hk.trans_le hroom
        · have := (h4 hl).2.1
          rw [ho] at this
          cases this
      · exact hrest
    · exact hrest

theorem PortRecord.lawful.lost {r : PortRecord} (h : r.lawful) : r.lost.lawful := by
  obtain ⟨h1, h2, -, -, -⟩ := h
  have hn : r.lost.notices = 0 := by
    unfold PortRecord.notices PortRecord.lost
    rw [List.filter_filter]
    exact List.length_eq_zero_iff.mpr (List.filter_eq_nil_iff.mpr fun f _ => by cases f <;> simp [TxFrame.isNotice])
  have hr : r.lost.replies ≤ r.replies := (List.Sublist.filter _ List.filter_sublist).length_le
  exact ⟨h1, hr.trans h2, hn.trans_le (Nat.zero_le _), fun _ => ⟨hn, rfl, rfl⟩, fun hl => nomatch hl⟩

/-- A port with its timer restarted is lawful. -/
theorem PortRecord.lawful.heardAt {r : PortRecord} (h : r.lawful) (n : Nat) (v w : Option Nat) :
    ({ r with present := true, timer := some n, lastValid := v, changedAt := w } : PortRecord).lawful := by
  obtain ⟨h1, h2, h3, -, -⟩ := h
  exact ⟨h1, h2, h3, fun hl => (nomatch hl), fun _ => rfl⟩

theorem PortRecord.lawful.enqueue {r : PortRecord} (h : r.lawful) (f : Frame) : (r.enqueue f).lawful := by
  obtain ⟨h1, h2, h3, h4, h5⟩ := h
  unfold PortRecord.enqueue
  split
  · exact ⟨h1, h2, h3, h4, h5⟩
  · split
    · next hroom => exact ⟨by rw [List.length_append]; exact hroom, h2, h3, h4, h5⟩
    · exact ⟨h1, h2, h3, h4, h5⟩

theorem PortRecord.lawful.tick {r : PortRecord} (h : r.lawful) : r.tick.lawful := by
  obtain ⟨h1, h2, h3, h4, h5⟩ := h
  refine ⟨h1, h2, h3, fun hl => ?_, fun hl => ?_⟩
  · obtain ⟨m1, m2, m3⟩ := h4 hl
    refine ⟨m1, m2, ?_⟩
    show r.timer.map _ = none
    rw [m3]
    rfl
  · show (r.timer.map _).isSome = true
    rw [Option.isSome_map]
    exact h5 hl

/-! ## A change of presence (R170, R171) -/

theorem passes_handPresence (p : Port) (present : Bool) (s : State) : s.Passes (handPresence p present s) := by
  cases p with
  | prompt | house => exact .refl s
  | console => exact passes_onLights _ s
  | panel =>
    unfold handPresence
    dsimp only
    split
    · exact passes_post _ s
    · exact passes_zoneEvent (stands_panelLoss _ _)

/-- A change of presence to a lawful record. -/
theorem keeps_completePresence {r : PortRecord} {s : State} (v : Option Nat)
    (h : (s.links.get p).lawful → ({ r with changedAt := some s.clock } : PortRecord).lawful) :
    s.Keeps (completePresence p r v s) :=
  (keeps_setPort h).trans ((passes_post _ _).trans (passes_handPresence p r.present _)).keeps

theorem keeps_markPresent (p : Port) (s : State) : s.Keeps (markPresent p s) := by
  unfold markPresent
  dsimp only
  split
  · exact keeps_setPort fun h => h.heardAt _ _ _
  · exact keeps_completePresence _ fun h => h.heardAt _ _ _

theorem keeps_linkLoss (p : Port) (s : State) : s.Keeps (linkLoss p s) := by
  unfold linkLoss
  dsimp only
  split
  · exact keeps_completePresence _ fun h => h.lost
  · exact .refl s

theorem keeps_receiveOne (p : Port) (s : State) (b : Byte) : s.Keeps (receiveOne p s b) := by
  have hr : s.Keeps (s.setPort p { s.links.get p with receiver := (receiveByte p (s.links.get p).receiver b).1 }) :=
    keeps_setPort id
  unfold receiveOne
  dsimp only
  split
  · exact (hr.trans (keeps_markPresent p _)).trans (keeps_setPort fun h => h.enqueue _)
  · exact hr

theorem keeps_dropReception (p : Port) (s : State) : s.Keeps (dropReception p s) := keeps_setPort id

theorem keeps_receiveFrame (p : Port) (bytes : List Byte) (s : State) : s.Keeps (bytes.foldl (receiveOne p) s) := by
  induction bytes generalizing s with
  | nil => exact .refl s
  | cons b bs ih => exact (keeps_receiveOne p s b).trans (ih _)

/-! ## Requests (R172, R173) -/

/-- A taken request whose block passes the law on: its reply finds a place. -/
theorem takeRequest_keeps {i : Instr} {block : State → State × Answer} (hb : s.Passes (block s).1)
    (ht : takeRequest p i block s = .next t) : s.Keeps t := by
  have replied {u : State} (a : Answer) (n : Nat) (hu : s.Passes u) (hr : takeable p (requestFrame i) s = true) :
      s.Keeps (finishRequest p (requestFrame i).kind n (u, a)) := by
    have hroom : (s.links.get p).replies < replyRoom := by
      simp only [takeable, Bool.and_eq_true, decide_eq_true_eq] at hr
      exact hr.1.2
    rw [← (hu.links p).only.replies] at hroom
    exact hu.keeps.trans (keeps_setPort fun h => h.answered hroom _ _ _)
  have refused (a : Answer) (hr : takeable p (requestFrame i) s = true) :
      s.Keeps (s.withReply p (requestFrame i).kind a) := by
    rw [← finishRequest_unchanged]
    exact replied a _ (.refl s) hr
  rcases takeRequest_cases p i block s with ⟨-, k⟩ | ⟨hr, -, k⟩ | ⟨hr, -, -, k⟩ | ⟨hr, -, -, -, k⟩ | ⟨hr, -, -, -, k⟩ <;>
    rw [k] at ht <;> cases ht
  · exact .refl s
  · exact refused _ hr
  · exact refused _ hr
  · exact refused _ hr
  · exact replied (block s).2 _ hb hr

end

section
variable {s : State}

theorem passes_inPhase {accepted : Bool} {block : State → State × Answer} (hb : s.Passes (block s).1) :
    s.Passes (inPhase accepted block s).1 := by
  unfold inPhase; split
  · exact hb
  · exact .refl s

theorem passes_interlocked {failed : List Interlock} {block : State → State × Answer} (hb : s.Passes (block s).1) :
    s.Passes (interlocked failed block s).1 := by
  unfold interlocked; split
  · exact hb
  · exact .refl s

theorem passes_withAuthority {p : Port} {block : State → State × Answer} (hb : s.Passes (block s).1) :
    s.Passes (withAuthority p block s).1 := by
  unfold withAuthority; split
  · exact hb
  · exact .refl s

theorem passes_report (b : Option Body) : s.Passes (report b s).1 := by
  unfold report; split <;> exact .refl s

theorem passes_onZone {zone : Byte} {allowed : ZoneId → Bool} {block : ZoneId → State → State × Answer}
    (hb : ∀ z, s.Passes (block z s).1) : s.Passes (onZone zone allowed block s).1 := by
  unfold onZone
  split
  · split
    · exact hb _
    · exact .refl s
  · exact .refl s

theorem passes_configure {write : Option (State → State × Answer)} (hw : ∀ f, write = some f → s.Passes (f s).1) :
    s.Passes (configure write s).1 := by
  unfold configure
  split
  · split
    · next f => exact hw f rfl
    · exact .refl s
  · exact .refl s

/-- A block that writes neither the ports nor the calls nor the fire condition. -/
theorem passes_lights (l : Lights) (s : State) : s.Passes { s with lights := l } := .of_same rfl rfl rfl

/-! ### The Performance Unit and the Fire Monitor -/

theorem passes_openPerformance : s.Passes (openPerformanceBlock s).1 :=
  passes_inPhase ((passes_fire (f := s.fire.clearSuppressed) rfl).trans (passes_changeHouse _ _ _))

theorem passes_enterDark : s.Passes (enterDark s) := by
  rw [enterDark_eq]
  have hd : s.Passes s.darkening := (passes_house s.house.darkened s).trans
    (passes_call excess_darkCancelAct (fun _ h => h.darkCancelAct _) seen_darkCancelAct)
  exact hd.trans (passes_completeChange (fun _ => passes_zoneEvent (stands_promoteAll _ _)) _ _ _)

theorem passes_endAct (final : Bool) : s.Passes (endActBlock final s).1 := by
  refine passes_inPhase ?_
  split
  · exact passes_changeHouse _ _ s
  · split
    · exact .refl s
    · exact passes_changeHouse _ _ s

theorem passes_resume : s.Passes (resumeBlock s).1 := by
  unfold resumeBlock
  split
  · split <;> exact passes_interlocked (passes_changeHouse _ _ s)
  · exact .refl s

theorem passes_delayUp (n : Nat) : s.Passes (delayUpBlock n s).1 := by
  refine passes_inPhase ?_
  dsimp only
  split
  · exact .refl s
  · exact passes_changeHouse _ _ s

theorem passes_zoneReport (pairs : List (Byte × Byte)) : s.Passes (zoneReportBlock pairs s).1 := by
  unfold zoneReportBlock
  split
  · exact .refl s
  · next ps _ =>
    dsimp only
    clear * -
    induction ps generalizing s with
    | nil => exact .refl s
    | cons q qs ih => exact (passes_zoneEvent (stands_zoneArrival q.1 q.2 _ _)).trans ih

theorem passes_resetZone (z : ZoneId) : s.Passes (resetZoneBlock z s).1 := by
  unfold resetZoneBlock
  dsimp only
  split
  · split
    · exact .refl s
    · have hc : (leaveAlarm z s.fireEnv ⟨s.fire, []⟩).1.val.condition = s.fire.condition := by
        unfold leaveAlarm; dsimp only; split <;> rfl
      have hz : s.Passes (s.onZones (leaveAlarm z)).1 := .of_post s.clock _ rfl rfl hc
      exact hz.trans (passes_evaluateDemand _)
  · exact .refl s

theorem passes_isolate (z : ZoneId) : s.Passes (isolateBlock z s).1 := by
  unfold isolateBlock
  dsimp only
  split
  case h_4 | h_5 =>
    dsimp only
    exact passes_zoneEvent (stands_setZone rfl)
  all_goals exact .refl s

theorem passes_restoreZone (z : ZoneId) : s.Passes (restoreZoneBlock z s).1 := by
  unfold restoreZoneBlock
  split
  · exact passes_zoneEvent (stands_restoreIsolated z _ _)
  · exact .refl s

theorem passes_acknowledge (k : Desk) (zone : Option ZoneId) : s.Passes (acknowledgeBlock k zone s).1 := by
  cases zone <;> exact .of_same rfl rfl rfl

theorem passes_acknowledgeNamed (k : Desk) (zone : Byte) : s.Passes (acknowledgeNamed k zone s).1 := by
  unfold acknowledgeNamed
  split
  · exact passes_acknowledge k none
  · exact passes_onZone fun z => passes_acknowledge k (some z)

theorem passes_evacuate (cause : FireCause) : s.Passes (evacuateBlock cause s).1 := by
  unfold evacuateBlock; split
  · exact .refl s
  · exact passes_changeCondition_of_ne (new := .evacuate) (by decide)

theorem passes_returnToQuiet (required other : Condition) (cause : FireCause) :
    s.Passes (returnToQuiet required other cause s).1 := by
  unfold returnToQuiet
  split_ifs
  · exact .refl s
  · exact .refl s
  · exact passes_changeCondition_of_ne (new := .quiet) (by decide)
  · exact .refl s

/-! ### The Configuration Store, the Call Scheduler and the lights -/

theorem passes_writeZone (z : ZoneId) (c : ZoneClass) (a : Area) (r d : Bool) : s.Passes (writeZone z c a r d s).1 := by
  have hw : s.Passes (s.zoneWritten z c a r d) := .of_same rfl rfl rfl
  show s.Passes (afterZoneWrite z s.fire.zones[z] (s.zoneWritten z c a r d))
  rcases afterZoneWrite_cases z s.fire.zones[z] (s.zoneWritten z c a r d) with
    ⟨-, k⟩ | ⟨-, -, -, cause, -, k⟩ | ⟨-, -, k⟩ <;> rw [k]
  · exact hw
  · exact hw.trans (passes_changeCondition_of_ne (by decide))
  · exact hw.trans (passes_evaluateDemand _)

theorem passes_writePagingZone (z : Fin 12) (staff evac : Bool) : s.Passes (writePagingZone z staff evac s).1 := by
  have hw : s.Passes { s with calls := s.calls.zoneWritten z staff evac } := by
    refine ⟨.of_post 0 [] rfl rfl, ?_⟩
    simp only [State.callsLawful_iff]
    exact fun h => ⟨h.1.setPaging _, h.2⟩
  exact hw.trans (passes_call excess_afterPagingWrite (fun _ h => h.afterPagingWrite _) seen_afterPagingWrite)

theorem passes_createCall (k : Desk) (o : CallOrder) : s.Passes (createCallBlock k o s).1 := by
  unfold createCallBlock
  split_ifs
  · exact .refl s
  · exact .refl s
  · exact .refl s
  · split
    · exact .refl s
    · next i rest hp =>
      exact passes_call (excess_placeCall _ _)
        (fun _ h => Calls.Sound.placeCall (w := ⟨s.calls, []⟩) h (by rw [hp]; exact List.mem_cons_self) rfl _)
        (seen_placeCall _ _)

theorem passes_cancelCall (d : Byte) : s.Passes (cancelCallBlock d s).1 := by
  unfold cancelCallBlock
  split
  · exact .refl s
  · next i _ =>
    split_ifs with hg hl
    · exact .refl s
    · have h2 : 2 ≤ i.val := by
        simp only [isGeneral, Bool.not_eq_true', decide_eq_false_iff_not, Decidable.not_not] at hg
        exact hg
      exact passes_call (excess_cancelAct i) (fun _ h => Calls.Sound.cancelAct (w := ⟨s.calls, []⟩) h h2 hl _)
        (seen_cancelAct i)
    · exact .refl s

theorem passes_collect (k : Desk) : s.Passes (collectBlock k s).1 :=
  passes_onCalls (excess_collectAct k _ _) (fun _ h => h.collectAct k _) (seen_collectAct k _ _)

theorem passes_zoneGate (z : Byte) (m d : Bool) : s.Passes (zoneGateBlock z m d s).1 := by
  unfold zoneGateBlock
  split
  · exact passes_call (excess_gateAct _ _ _) (fun _ h => h.gateAct _ _ _ _) (seen_gateAct _ _ _)
  · exact .refl s

theorem passes_resetChannel (c : Byte) : s.Passes (resetChannelBlock c s).1 := by
  unfold resetChannelBlock
  split
  · exact .refl s
  · next ch _ =>
    split_ifs with hf
    · exact .refl s
    · exact passes_call (excess_resetChannelAct ch)
        (fun _ h => Calls.Sound.resetChannelAct (w := ⟨s.calls, []⟩) h hf _) (seen_resetChannelAct ch)
    · exact .refl s

theorem passes_raiseHold : s.Passes (raiseHoldBlock s).1 := by
  unfold raiseHoldBlock
  split
  case h_1 | h_2 | h_3 => exact passes_interlocked (passes_onCurtain _ s)
  · exact passes_onCurtain _ s
  all_goals exact .refl s

theorem passes_resetManual : s.Passes (resetManualBlock s).1 := by
  unfold resetManualBlock
  split_ifs
  · exact .refl s
  · exact passes_onCurtain (fun _ => clearManual) s
  · exact .refl s

theorem passes_lightsBlock (slot : Byte) (pairs : List (Byte × Byte)) : s.Passes (lightsBlock slot pairs s).1 := by
  unfold lightsBlock
  split
  · exact passes_lights _ s
  · exact .refl s

theorem passes_goPreset (p slot : Byte) : s.Passes (goPresetBlock p slot s).1 := by
  unfold goPresetBlock
  split
  · split_ifs
    · exact passes_lights _ s
    · exact .refl s
  · exact .refl s

/-! ## Events -/

theorem passes_sampleCurtain (raw : BitVec 17) (due : Curtain → Bool) (f : CurtainEnv → Act Curtain → Act Curtain) :
    s.Passes (sampleCurtain raw due f s) := by
  have hr : s.Passes (s.readEncoder raw) := .of_same rfl rfl rfl
  unfold sampleCurtain
  dsimp only
  split
  · exact hr.trans (passes_onCurtain _ _)
  · exact hr

theorem passes_handLine (l : Line) (old : Option Reading) (new : Reading) : s.Passes (handLine l old new s) := by
  unfold handLine
  split_ifs
  · exact passes_zoneEvent (stands_zoneArrival _ _ _ _)
  · exact passes_onCurtain _ s
  · exact passes_onCurtain _ s
  · exact passes_lights _ s
  · exact passes_onCurtain _ s
  · exact passes_onCurtain _ s

theorem passes_settleLine (l : Line) : s.Passes (settleLine l s) := by
  unfold settleLine
  dsimp only
  split
  · next c _ _ =>
    have hw (ls : Vector LineRecord 13) : s.Passes { s with lines := ls } := .of_same rfl rfl rfl
    exact (hw _).trans (passes_handLine l s.lines[l].settled _)
  · exact .refl s

/-- One decisecond. -/
theorem keeps_oneTick (s : State) : s.Keeps s.tick := by
  refine ⟨fun ⟨hl, hq⟩ => ⟨fun p => ?_, hq⟩, ?_⟩
  · have : s.tick.links.get p = (s.links.get p).tick := by cases p <;> rfl
    rw [this]
    exact (hl p).tick
  · simp only [State.callsLawful_iff]
    exact fun h => ⟨h.1.tick, h.2⟩

/-! ## Power-on and the baselines (R184, R185) -/

theorem atPowerOn_lawful (pins : Pins) : (State.atPowerOn pins).linksLawful ∧
    (State.atPowerOn pins).calls.queuesBounded ∧ (State.atPowerOn pins).callsLawful := by
  refine ⟨fun p => ?_, ⟨Nat.zero_le _, Nat.zero_le _⟩, powerOn_callsLawful, powerOn_callsOrdered, rfl⟩
  show (Links.powerOn.get p).lawful
  rw [powerOn_port]
  exact ⟨by decide, by decide, by decide, fun _ => ⟨rfl, rfl, rfl⟩, by decide⟩

/-- A state at power-on, whatever was before. -/
theorem keeps_powerOn {t : State} (pins : Pins) (hl : t.links = Links.powerOn) (hc : t.calls = Calls.powerOn)
    (hf : t.fire = Fire.powerOn) : s.Keeps t := by
  obtain ⟨h1, h2, h3⟩ := atPowerOn_lawful pins
  refine ⟨fun _ => ⟨?_, ?_⟩, fun _ => ?_⟩
  · unfold State.linksLawful; rw [hl]; exact h1
  · rw [hc]; exact h2
  · unfold State.callsLawful; rw [hc, hf]; exact h3

theorem keeps_poweredOn (s : State) : s.Keeps (poweredOn s) := by
  have check (t : State) (ch : Channel) : t.Passes (checkPlayer t ch) := by
    unfold checkPlayer
    split
    · exact passes_call (excess_playingRisesAct ch) (fun _ h => h.playingRisesAct ch _) (seen_playingRisesAct ch)
    · exact .refl t
  exact State.Keeps.trans (t := { State.atPowerOn s.pins with pending := s.pending }) (keeps_powerOn s.pins rfl rfl rfl)
    ((check _ .a).trans (check _ .b)).keeps

theorem passes_takeBaselines : s.Passes (takeBaselines s) := by
  have zones (zs : List (Fin 8)) (t : State) : t.Passes (zs.foldl zoneLineBaseline t) := by
    induction zs generalizing t with
    | nil => exact .refl t
    | cons z zs ih => exact (passes_zoneEvent (stands_zoneBaseline _ _ _ _)).trans (ih _)
  have hl : s.Passes s.linesTaken := .of_same rfl rfl rfl
  rw [takeBaselines_eq]
  exact (((hl.trans (zones _ _)).trans (passes_lights _ _)).trans (passes_onCurtain _ _)).trans (passes_onCurtain _ _)

end

/-! ## Every command and every step -/

section
variable {s t : State}

theorem keeps_of_ite {c : Prop} [Decidable c] {a b : State} (ha : s.Keeps a) (hb : s.Keeps b)
    (ht : (if c then .next a else .next b : Answered) = .next t) : s.Keeps t := by
  split at ht <;> cases ht
  · exact ha
  · exact hb

/-- An event of the calls that keeps their law. -/
theorem callEvent_keeps {f : CallEnv → Act Calls → Act Calls} (hx : ∀ e w, (f e w).val.excess = w.val.excess)
    (hs : ∀ R e (w : Act Calls), w.val.Sound R ∅ ∅ → (f e w).val.Sound R ∅ ∅)
    (ha : ∀ e w, (f e w).val.seen = w.val.seen) (ht : callEvent f s = .next t) : s.Keeps t :=
  keeps_of_ite (.refl s) (passes_call hx (fun R => hs R s.callEnv ⟨s.calls, []⟩) ha).keeps ht

theorem execUnknownRequest_keeps {p : Port} {k : Byte} {payload : List Byte}
    (ht : execUnknownRequest p k payload s = .next t) : s.Keeps t := by
  unfold execUnknownRequest at ht
  split at ht
  · cases ht; exact .refl s
  · refine takeRequest_keeps ?_ ht
    split
    · unfold unknownRecord; split <;> exact .refl s
    · exact .refl s

/-- Every command keeps the bounds of the queues and the law of the calls. -/
theorem exec_keeps (i : Instr) (ht : exec i s = .next t) : s.Keeps t := by
  have request {p : Port} {block : State → State × Answer} (hb : s.Passes (block s).1)
      (ht : takeRequest p i block s = .next t) : s.Keeps t := takeRequest_keeps hb ht
  have configured {p : Port} {write : Option (State → State × Answer)} (hw : ∀ f, write = some f → s.Passes (f s).1)
      (ht : takeRequest p i (configure write) s = .next t) : s.Keeps t :=
    takeRequest_keeps (passes_configure hw) ht
  have params (p : Params) : s.Passes { s with params := p } := .of_same rfl rfl rfl
  have playing (ch : Channel) (level : Bool) : s.Keeps (s.setPlaying ch level) :=
    State.Passes.keeps (.of_same rfl rfl rfl)
  cases i with
  | powerOn => cases ht; exact keeps_poweredOn s
  | resetAsserted => cases ht; exact keeps_powerOn s.pins rfl rfl rfl
  | startUpSettleEnd => exact keeps_of_ite passes_takeBaselines.keeps (.refl s) ht
  | lineRawChange l sound closed =>
    have hp (p : Pins) : s.Keeps { s with pins := p } := State.Passes.keeps (.of_same rfl rfl rfl)
    have hr (t : State) : t.Keeps (t.reread l) := State.Passes.keeps (.of_same rfl rfl rfl)
    exact keeps_of_ite (hp _) ((hp _).trans (hr _)) ht
  | settleExpiry l => exact keeps_of_ite (.refl s) (passes_settleLine l).keeps ht
  | receiveFrame p bytes => exact keeps_of_ite (.refl s) (keeps_receiveFrame p bytes s) ht
  | frameAbandoned p => exact keeps_of_ite (.refl s) (keeps_dropReception p s) ht
  | supervisionExpiry p => exact keeps_of_ite (.refl s) (keeps_linkLoss p s) ht
  | frameSent p => exact keeps_of_ite (.refl s) (keeps_setPort fun h => h.sent) ht
  | lengthAbove120 p n => exact keeps_of_ite (.refl s) (keeps_dropReception p s) ht
  | unknownRequest p k payload => exact execUnknownRequest_keeps ht
  | configureZone =>
    refine configured (fun f hf => ?_) ht
    split at hf <;> cases hf
    exact passes_writeZone _ _ _ _ _
  | configureCurtain => exact configured (fun f hf => by cases hf; exact params _) ht
  | configureCircuit | configureSlot | configurePreset =>
    refine configured (fun f hf => ?_) ht
    split at hf <;> cases hf
    exact .of_same rfl rfl rfl
  | configurePagingZone =>
    refine configured (fun f hf => ?_) ht
    split at hf <;> cases hf
    exact passes_writePagingZone _ _ _
  | configureBuiltInCall =>
    refine configured (fun f hf => ?_) ht
    split at hf
    · split at hf <;> cases hf
      exact params _
    · cases hf
  | configureTiming =>
    refine configured (fun f hf => ?_) ht
    split at hf <;> cases hf
    exact params _
  | configureLine =>
    refine configured (fun f hf => ?_) ht
    split at hf <;> cases hf
    exact .of_same rfl rfl rfl
  | configureOption => exact configured (fun f hf => by cases hf; exact params _) ht
  | configurationComplete | showStop | endPerformance | giveClearance | setPlannedUp | extendInterval | showModeOn
  | showModeOff => exact request (passes_inPhase (passes_changeHouse _ _ s)) ht
  | withdrawClearance => exact request (passes_changeHouse _ _ s) ht
  | openHouse | goAct => exact request (passes_inPhase (passes_interlocked (passes_changeHouse _ _ s))) ht
  | openPerformance => exact request passes_openPerformance ht
  | closePerformance | houseClosed => exact request (passes_inPhase passes_enterDark) ht
  | endAct => exact request (passes_endAct _) ht
  | resume => exact request passes_resume ht
  | delayUp => exact request (passes_delayUp _) ht
  | intervalCountdownExpiry =>
    have hp : s.Passes (({ s with intervalUpDue := false } : State).post [intervalUpMail s.house]) :=
      .of_post s.clock _ rfl rfl rfl
    exact keeps_of_ite hp.keeps (.refl s) ht
  | zoneReport => exact request (passes_zoneReport _) ht
  | panelResetZone | resetZone => exact request (passes_onZone fun z => passes_resetZone z) ht
  | isolateZone => exact request (passes_onZone fun z => passes_isolate z) ht
  | restoreZone => exact request (passes_onZone fun z => passes_restoreZone z) ht
  | acknowledgeZones => exact request (passes_acknowledgeNamed _ _) ht
  | showDelayExpiry z => exact keeps_of_ite (.refl s) (passes_zoneEvent (stands_delayExpiry z _ _)).keeps ht
  | investigationExpiry => exact keeps_of_ite (passes_changeCondition_of_ne (by decide)).keeps (.refl s) ht
  | evacuateNow | panelEvacuate => exact request (passes_evacuate _) ht
  | standDown | restore => exact request (passes_returnToQuiet _ _ _) ht
  | dropCurtain | stopRaise | clearCurtainFaults => exact request (.of_post s.clock _ rfl rfl rfl) ht
  | demonstrateCurtain => exact request (passes_inPhase (passes_interlocked (.of_post s.clock _ rfl rfl rfl))) ht
  | raiseHold => exact request passes_raiseHold ht
  | resetManualRelease => exact request passes_resetManual ht
  | leaseExpiry => exact keeps_of_ite (passes_onCurtain _ s).keeps (.refl s) ht
  | raiseSample raw | creepSample raw | descentSample raw => cases ht; exact (passes_sampleCurtain raw _ _).keeps
  | lights => exact request (passes_withAuthority (passes_lightsBlock _ _)) ht
  | goPreset => exact request (passes_withAuthority (passes_goPreset _ _)) ht
  | holdFades => exact request (passes_withAuthority (passes_lights _ s)) ht
  | fadeStep => exact keeps_of_ite (.refl s) (passes_lights _ s).keeps ht
  | takeLights => exact request (passes_inPhase (passes_interlocked (.of_post s.clock _ rfl rfl rfl))) ht
  | giveBackLights | reclaimLights => exact request (.of_post s.clock _ rfl rfl rfl) ht
  | panicLightsOn | panicLightsOff => exact request (passes_lights _ s) ht
  | dimmerFrame => exact keeps_of_ite (.refl s) (passes_lights _ s).keeps ht
  | createCall => exact request (passes_createCall _ _) ht
  | cancelCall => exact request (passes_cancelCall _) ht
  | collectCompletions => exact request (passes_collect _) ht
  | zoneGate => exact request (passes_zoneGate _ _ _) ht
  | resetChannel => exact request (passes_resetChannel _) ht
  | dueTimerExpiry => exact callEvent_keeps excess_dueTimerAct (fun _ e _ h => h.dueTimerAct e) seen_dueTimerAct ht
  | callDeadline c =>
    exact callEvent_keeps (excess_deadlineAct c) (fun _ e _ h => h.deadlineAct c e) (seen_deadlineAct c) ht
  | startTimerExpiry ch =>
    exact callEvent_keeps (excess_startTimerExpiryAct ch) (fun _ e _ h => h.startTimerExpiryAct ch e)
      (seen_startTimerExpiryAct ch) ht
  | guardTimerExpiry ch =>
    exact callEvent_keeps (excess_guardTimerExpiryAct ch) (fun _ e _ h => h.guardTimerExpiryAct ch e)
      (seen_guardTimerExpiryAct ch) ht
  | stopTimerExpiry ch =>
    exact callEvent_keeps (excess_stopTimerExpiryAct ch) (fun _ e _ h => h.stopTimerExpiryAct ch e)
      (seen_stopTimerExpiryAct ch) ht
  | builtInGapExpiry b =>
    exact callEvent_keeps (excess_gapExpiryAct b) (fun _ e _ h => h.gapExpiryAct b e) (seen_gapExpiryAct b) ht
  | playingRises ch =>
    exact (playing ch true).trans (callEvent_keeps (excess_playingRisesAct ch) (fun _ e _ h => h.playingRisesAct ch e)
      (seen_playingRisesAct ch) ht)
  | playingFalls ch =>
    exact (playing ch false).trans (callEvent_keeps (excess_playingFallsAct ch) (fun _ e _ h => h.playingFallsAct ch e)
      (seen_playingFallsAct ch) ht)
  | readHouse | readZones | readAlarmList | readCurtain | readCircuits | readCall | readQueues | readChannels
  | readLinks => exact request (passes_report _) ht
  | performanceClockTick raw =>
    have hr : s.Keeps (s.readEncoder raw) := State.Passes.keeps (.of_same rfl rfl rfl)
    exact keeps_of_ite hr (hr.trans (keeps_oneTick _)) ht

end

/-- Settles O56: the call in hand and the channel out of account are put back by every act of the calls, the drain alone
fills a completion queue, and notices keep every port within its bounds. -/
theorem everyStepKeepsTheQueues : Obligations.EveryStepKeepsTheQueues :=
  ⟨keptByStep_of_exec (fun _ _ h => h) fun i _ _ h ht => (exec_keeps i ht).queues h,
    keptByStep_of_exec (fun _ _ h => h) fun i _ _ h ht => (exec_keeps i ht).law h⟩

end Sys2Proof.Machine
end

section
/-! CREATE CALL (R133): its checks in their order, and what it does once they hold. -/
namespace Sys2Proof.Machine

/-! ## The operands of CREATE CALL -/

theorem callKindOf_isSome (b : Byte) : (callKindOf b).isSome = true ↔ b = 1 ∨ b = 2 := by
  have h1 : b = 1 ↔ b.toNat = 1 := by rw [← BitVec.toNat_inj]; rfl
  have h2 : b = 2 ↔ b.toNat = 2 := by rw [← BitVec.toNat_inj]; rfl
  rw [h1, h2]
  unfold callKindOf
  split <;> simp_all

theorem anchorOf_isSome (b : Byte) : (anchorOf b).isSome = true ↔ b.toNat < 6 := by
  unfold anchorOf
  split <;> simp_all
  omega

/-- The upper bits of a zone set are clear where it names paging zones alone. -/
theorem zonesHigh_eq_zero_iff (z : Half) : z.extractLsb' 12 4 = 0 ↔ z.toNat < 4096 := by
  rw [← BitVec.toNat_inj, BitVec.extractLsb'_toNat, Nat.shiftRight_eq_div_pow]
  have := z.isLt
  simp only [BitVec.ofNat_eq_ofNat, BitVec.toNat_ofNat]
  omega

/-- A zone set within the paging zones is read whole. -/
theorem zonesLow_toNat {z : Half} (h : z.toNat < 4096) : (z.extractLsb' 0 12).toNat = z.toNat := by
  rw [BitVec.extractLsb'_toNat, Nat.shiftRight_zero]
  exact Nat.mod_eq_of_lt h

theorem zonesLow_eq_zero_iff {z : Half} (h : z.toNat < 4096) : z.extractLsb' 0 12 = 0 ↔ z = 0 := by
  rw [← BitVec.toNat_inj, zonesLow_toNat h, ← BitVec.toNat_inj]
  rfl

theorem CallOrder.anchorGiven_isSome {o : CallOrder} {t : Byte × BitVec 32} (h : o.timing = some t) :
    o.anchorGiven.isSome = true ↔ t.1.toNat < 6 := by
  unfold CallOrder.anchorGiven
  rw [h, Option.bind_some, Option.isSome_map, anchorOf_isSome]

/-- The identifiers of a request are good (R133, check 2). -/
theorem CallOrder.named_iff (o : CallOrder) : o.named = true ↔ (o.kind = 1 ∨ o.kind = 2) ∧ o.message ≠ 0 ∧
    o.zones.toNat < 4096 ∧ ∀ t, o.timing = some t → t.1.toNat < 6 := by
  have ht : (o.timing.isNone || o.anchorGiven.isSome) = true ↔ ∀ t, o.timing = some t → t.1.toNat < 6 := by
    cases h : o.timing with
    | none => simp
    | some t =>
      rw [Option.isNone_some, Bool.false_or, CallOrder.anchorGiven_isSome h]
      exact ⟨fun hl u hu => Option.some.inj hu ▸ hl, fun hl => hl t rfl⟩
  unfold CallOrder.named
  rw [Bool.and_eq_true, Bool.and_eq_true, Bool.and_eq_true, callKindOf_isSome, bne_iff_ne, beq_iff_eq,
    zonesHigh_eq_zero_iff, ht, and_assoc, and_assoc]

/-! ## The block by its checks (R133) -/

section
variable {k : Desk} {o : CallOrder} {s : State}

theorem createCallBlock_wrongPhase (h : s.calls.phaseSeen = .unconfigured ∨ s.calls.phaseSeen = .dark) :
    createCallBlock k o s = (s, refuse .wrongPhase) := if_pos h

theorem createCallBlock_badNumber (h1 : s.calls.phaseSeen ≠ .unconfigured) (h2 : s.calls.phaseSeen ≠ .dark)
    (hn : ¬ o.named = true) : createCallBlock k o s = (s, refuse .badNumber) := by
  unfold createCallBlock
  rw [if_neg (not_or.mpr ⟨h1, h2⟩), if_pos (by simpa using hn)]

section
variable (h1 : s.calls.phaseSeen ≠ .unconfigured) (h2 : s.calls.phaseSeen ≠ .dark) (hn : o.named = true)
include h1 h2 hn

theorem createCallBlock_emptyZoneSet (hz : o.zones.extractLsb' 0 12 = 0) :
    createCallBlock k o s = (s, refuse .emptyZoneSet) := by
  unfold createCallBlock
  rw [if_neg (not_or.mpr ⟨h1, h2⟩), if_neg (by simp [hn]), if_pos hz]

theorem createCallBlock_noDescriptor (hz : o.zones.extractLsb' 0 12 ≠ 0) (hp : s.calls.pool = []) :
    createCallBlock k o s = (s, refuse .noDescriptor) := by
  unfold createCallBlock
  rw [if_neg (not_or.mpr ⟨h1, h2⟩), if_neg (by simp [hn]), if_neg hz, hp]

/-- With every check met the head of the pool takes the call (R134). -/
theorem createCallBlock_creates (hz : o.zones.extractLsb' 0 12 ≠ 0) {i : CallId} {rest : List CallId}
    (hp : s.calls.pool = i :: rest) : createCallBlock k o s =
      (s.onCalls (placeCall i (o.descriptor k s.clock)), doneOrClamped o.outOfRange
        (.callCreated (callNumber i) (placedLife s.callEnv s.calls.fireSeen (o.descriptor k s.clock)).1
          (placedLife s.callEnv s.calls.fireSeen (o.descriptor k s.clock)).2)) := by
  unfold createCallBlock
  rw [if_neg (not_or.mpr ⟨h1, h2⟩), if_neg (by simp [hn]), if_neg hz, hp]

end

end

/-- Settles O38: each check of R133 once those before it hold; a refused request changes nothing but its port. -/
theorem createCallByItsChecks : Obligations.CreateCallByItsChecks := by
  intro s p kind message length zones rep gap life notify timing i hi hport hs ht
  subst hi
  have hp : permitted p 0x2B = true := by rcases hport with rfl | rfl <;> rfl
  have refused {r : Reason} (hb : createCallBlock (deskOf p)
      ⟨kind, message, length.toNat, zones, rep.toNat, gap.toNat, life.toNat, flagOf notify, timing⟩ s = (s, refuse r)) :
      exec (.createCall p kind message length zones rep gap life notify timing) s =
        .next (s.withReply p 0x2B ⟨.refused, .refusal r⟩) :=
    takeRequest_unchanged ht rfl hp hs hb
  refine ⟨fun h => refused (createCallBlock_wrongPhase h), fun h1 h2 => ⟨fun hb => ?_, fun hk hm hz hl => ?_⟩⟩
  · refine refused (createCallBlock_badNumber h1 h2 fun hn => ?_)
    obtain ⟨n1, n2, n3, n4⟩ := (CallOrder.named_iff _).mp hn
    rcases hb with ⟨b1, b2⟩ | b | b | ⟨t, b1, b2⟩
    · exact n1.elim b1 b2
    · exact n2 b
    · exact absurd n3 (Nat.not_lt.mpr b)
    · exact absurd (n4 t b1) (Nat.not_lt.mpr b2)
  · have hn := (CallOrder.named_iff
      ⟨kind, message, length.toNat, zones, rep.toNat, gap.toNat, life.toNat, flagOf notify, timing⟩).mpr ⟨hk, hm, hz, hl⟩
    exact ⟨fun h0 => refused (createCallBlock_emptyZoneSet h1 h2 hn ((zonesLow_eq_zero_iff hz).mpr h0)),
      fun h0 hpool => refused (createCallBlock_noDescriptor h1 h2 hn (mt (zonesLow_eq_zero_iff hz).mp h0) hpool)⟩

end Sys2Proof.Machine
end

section
/-! SUPPORT. What a walk does with one call of the ready queue (R151, R157, R158): it starts it, silences it, or leaves
it. -/
namespace Sys2Proof.Machine

/-! ## A call started on a channel (R151) -/

section
variable (ch : Channel) (i : CallId) (live : ZoneSet) (c : Calls)

theorem startPlay_table_self : (startPlay ch i live c).table[i] = { c.table[i] with
    life := .playing, deadline := none, channel := some ch
    missed := if isGeneral i then c.table[i].missed ||| (c.table[i].zones &&& ~~~live) else c.table[i].missed } := by
  unfold startPlay
  dsimp only
  rw [Calls.setChan_table]
  exact Calls.setDesc_table_self i _ _

theorem startPlay_zone (z : Fin 12) : (startPlay ch i live c).paging[z] =
    if live.getLsbD z then { c.paging[z] with conn := some ch } else c.paging[z] := by
  cases ch <;> exact vmapIdx_get _ _ z

theorem startPlay_lists : (startPlay ch i live c).ready = c.ready.erase i ∧
    (startPlay ch i live c).timetable = c.timetable := by cases ch <;> exact ⟨rfl, rfl⟩

end

/-! ## The live set and the zones that allow a start (R157) -/

theorem Calls.liveSet_ne_zero_iff (c : Calls) (i : CallId) : c.liveSet i ≠ 0 ↔ c.audible c.table[i].zones :=
  (c.audible_iff c.table[i].zones).symm

/-- The zones of a live set that names no MUTED zone are those of its call. -/
theorem Calls.liveSet_eq {c : Calls} {i : CallId}
    (h : ∀ z : Fin 12, c.table[i].zones.getLsbD z = true → c.paging[z].muted = false) :
    c.liveSet i = c.table[i].zones := by
  refine BitVec.eq_of_getLsbD_eq fun n hn => ?_
  unfold Calls.liveSet
  have hm := Calls.zonesWhere_bit c (·.muted) ⟨n, hn⟩
  simp only at hm
  rw [BitVec.getLsbD_and, BitVec.getLsbD_not, Calls.mutedZones, hm]
  cases hz : c.table[i].zones.getLsbD n with
  | false => rfl
  | true => exact (by simpa [hn] using h ⟨n, hn⟩ hz)

theorem meets_zero (a : ZoneSet) : meets a 0 = false := by simp [meets]

/-- In QUIET a set allows a start where its zones are FREE and not HELD, with nothing reserved. -/
theorem Calls.zonesAllow_of_open {c : Calls} {live : ZoneSet} (hq : c.arbiterFire = .quiet)
    (h : ∀ z : Fin 12, live.getLsbD z = true → c.paging[z].conn = none ∧ c.paging[z].held = false) :
    c.zonesAllow live 0 = true := by
  have hopen : live &&& ~~~c.openZones = 0 := by
    rw [zoneSet_eq_zero_iff]
    intro z
    rw [BitVec.getLsbD_and, BitVec.getLsbD_not, Calls.openZones, Calls.zonesWhere_bit]
    cases hz : live.getLsbD z with
    | false => rfl
    | true =>
      obtain ⟨h1, h2⟩ := h z hz
      simp [-Fin.getElem_fin, h1, h2]
  unfold Calls.zonesAllow
  rw [hopen, meets_zero, hq]
  rfl

theorem Calls.builtInWaits_eq_false {c : Calls} (h1 : c.evacuation ≠ .waiting) (h2 : c.staffAlert ≠ .waiting) :
    c.builtInWaits = false := by simp [Calls.builtInWaits, h1, h2]

theorem usable_of_idle {r : ChannelRecord} (h : r.state = .idle) (hr : r.reserved = none) : r.usable = true := by
  simp [ChannelRecord.usable, h, hr]

theorem not_usable_of_ne {r : ChannelRecord} (h : r.state ≠ .idle) : r.usable = false := by
  simp [ChannelRecord.usable, h]

/-- A usable channel with none before it is the one that a walk uses. -/
theorem usableChannel_eq {c : Calls} {ch : Channel} (h1 : c.evacuation ≠ .waiting) (h2 : c.staffAlert ≠ .waiting)
    (hs : (c.chan ch).state = .idle) (hr : (c.chan ch).reserved = none) (ha : ch = .a ∨ c.chanA.state ≠ .idle) :
    c.usableChannel = some ch := by
  have hu := usable_of_idle hs hr
  unfold Calls.usableChannel
  rw [Calls.builtInWaits_eq_false h1 h2, if_neg (by decide)]
  cases ch with
  | a => exact if_pos hu
  | b =>
    rw [not_usable_of_ne (ha.resolve_left (by decide)), if_neg (by decide)]
    exact if_pos hu

/-! ## One call of a walk (R157, R158) -/

section
variable {now : Nat} {a : Act Calls × ZoneSet} {i x : CallId} {w : Act Calls} {ch : Channel}

theorem walkOne_silent (h : a.1.val.liveSet i = 0) : walkOne now a i = (silence now i a.1, a.2) := if_pos h

/-- A call for which there is no channel reserves its live set. -/
theorem walkOne_blocked (h : a.1.val.liveSet i ≠ 0) (hu : a.1.val.usableChannel = none) :
    walkOne now a i = (a.1, a.2 ||| a.1.val.liveSet i) := by
  unfold walkOne
  dsimp only
  rw [if_neg h, hu]

theorem walkOne_channel (h : a.1.val.liveSet i ≠ 0) (hu : a.1.val.usableChannel = some ch) : walkOne now a i =
    if a.1.val.zonesAllow (a.1.val.liveSet i) a.2 then (a.1.map (startPlay ch i (a.1.val.liveSet i)), a.2)
    else (a.1, a.2 ||| a.1.val.liveSet i) := by
  unfold walkOne
  dsimp only
  rw [if_neg h, hu]

theorem walk_evacuate (h : w.val.arbiterFire = .evacuate) : walk now w = w := if_pos h

theorem walk_eq (h : w.val.arbiterFire ≠ .evacuate) : walk now w = (w.val.ready.foldl (walkOne now) (w, 0)).1 := if_neg h

/-- With no channel for them a walk leaves calls that could play somewhere. -/
theorem walk_busy (hu : w.val.usableChannel = none) (hl : ∀ i ∈ w.val.ready, w.val.liveSet i ≠ 0) :
    walk now w = w := by
  have fold (is : List CallId) (r : ZoneSet) (hi : ∀ i ∈ is, w.val.liveSet i ≠ 0) :
      (is.foldl (walkOne now) (w, r)).1 = w := by
    induction is generalizing r with
    | nil => rfl
    | cons i is ih =>
      rw [List.foldl_cons, walkOne_blocked (a := (w, r)) (hi i List.mem_cons_self) hu]
      exact ih _ fun j hj => hi j (.tail _ hj)
  by_cases he : w.val.arbiterFire = .evacuate
  · exact walk_evacuate he
  · rw [walk_eq he]
    exact fold _ 0 hl

/-- A walk with one call READY, which could play somewhere, starts it or leaves it. -/
theorem walk_one (h : w.val.ready = [x]) (hl : w.val.liveSet x ≠ 0) :
    walk now w = w ∨ ∃ ch, w.val.usableChannel = some ch ∧ walk now w = w.map (startPlay ch x (w.val.liveSet x)) := by
  by_cases he : w.val.arbiterFire = .evacuate
  · exact .inl (walk_evacuate he)
  · rw [walk_eq he, h, List.foldl_cons, List.foldl_nil]
    cases hu : w.val.usableChannel with
    | none => rw [walkOne_blocked (a := (w, 0)) hl hu]; exact .inl rfl
    | some ch =>
      rw [walkOne_channel (a := (w, 0)) hl hu]
      split
      · exact .inr ⟨ch, rfl, rfl⟩
      · exact .inl rfl

/-- A walk in QUIET starts the one READY call on a usable channel where its zones are FREE and not HELD. -/
theorem walk_starts (h : w.val.ready = [x]) (hl : w.val.liveSet x ≠ 0) (hq : w.val.arbiterFire = .quiet)
    (hu : w.val.usableChannel = some ch) (hz : ∀ z : Fin 12, (w.val.liveSet x).getLsbD z = true →
      w.val.paging[z].conn = none ∧ w.val.paging[z].held = false) :
    walk now w = w.map (startPlay ch x (w.val.liveSet x)) := by
  rw [walk_eq (by rw [hq]; decide), h, List.foldl_cons, List.foldl_nil, walkOne_channel (a := (w, 0)) hl hu,
    if_pos (Calls.zonesAllow_of_open hq hz)]

/-! ## A call silenced (R158) -/

theorem Calls.SameZones.mutedZones {c c' : Calls} (h : c.SameZones c') : c'.mutedZones = c.mutedZones :=
  zonesWhere_ext fun z => by rw [h z]

/-- A call has finished with its missed zones, and is READY no more. -/
def Calls.silenced (x : CallId) (k : Desk) (o : CallOutcome) (now : Nat) (missed : ZoneSet) (c : Calls) : Prop :=
  c.ended x k o now ∧ x ∉ c.ready ∧ (c.table[x].life = .finished → c.table[x].missed = missed)

theorem Calls.silenced.spared {k : Desk} {o : CallOutcome} {m : ZoneSet} {c c' : Calls} (h : c.silenced x k o now m)
    {J : CallId → Prop} (hs : c.Spares J c') (hx : ¬ J x) : c'.silenced x k o now m := by
  obtain ⟨h1, h2, h3⟩ := h
  refine ⟨hs.ended x k o now hx h1, mt (hs.ready x hx).mp h2, fun hl => ?_⟩
  rcases hs.table x hx with e | ⟨-, e⟩ <;> rw [e] at hl ⊢
  · exact h3 hl
  · cases hl

/-- A finished call that no drain has taken keeps its missed zones. -/
theorem finishCall_missed {o : CallOutcome} (hl : (finishCall now x o w).val.table[x].life = .finished) :
    (finishCall now x o w).val.table[x].missed = w.val.table[x].missed := by
  have hw : (w.val.withFinished now x o).table[x].missed = w.val.table[x].missed := by
    unfold Calls.withFinished
    dsimp only
    rw [Calls.setDesc_table_self]
  have hd : finishCall now x o w = drain false w.val.table[x].creator
      ⟨w.val.withFinished now x o, w.out ++ finishedMail x w.val.table[x] o now⟩ := rfl
  rw [hd] at hl ⊢
  rcases drain_table false w.val.table[x].creator
    ⟨w.val.withFinished now x o, w.out ++ finishedMail x w.val.table[x] o now⟩ x with e | ⟨-, e⟩ <;> rw [e] at hl ⊢
  · exact hw
  · cases hl

/-- A READY call that is silenced. -/
theorem silence_silenced (hr : w.val.ready.Nodup) :
    (silence now x w).val.silenced x w.val.table[x].creator
      (if w.val.table[x].plays = 0 then .silenced else .partly) now
      (w.val.table[x].missed ||| w.val.table[x].zones) := by
  unfold silence
  dsimp only
  generalize hd : ({ w.val.table[x] with missed := w.val.table[x].missed ||| w.val.table[x].zones } : Descriptor) = d
  have ht : (w.map (Calls.setDesc x d)).val.table[x] = d := Calls.setDesc_table_self x d w.val
  have hc : w.val.table[x].creator = d.creator := by rw [← hd]
  have hm : w.val.table[x].missed ||| w.val.table[x].zones = d.missed := by rw [← hd]
  rw [hc, hm]
  refine ⟨?_, ?_, fun hl => ?_⟩
  · have := finishCall_ended now x (if w.val.table[x].plays = 0 then .silenced else .partly) (w.map (Calls.setDesc x d))
    rwa [ht] at this
  · rw [finishCall_others]
    exact hr.not_mem_erase
  · exact (finishCall_missed hl).trans (congrArg Descriptor.missed ht)

/-- A walk silences a READY call that can play nowhere, whatever it does with the others. -/
theorem walk_silences {d : Descriptor} (he : w.val.arbiterFire ≠ .evacuate) (hn : w.val.ready.Nodup)
    (hq : w.val.queued x d) (hz : ¬ w.val.audible d.zones) : (walk now w).val.silenced x d.creator
      (if d.plays = 0 then .silenced else .partly) now (d.missed ||| d.zones) := by
  obtain ⟨l, r, hlr⟩ := List.append_of_mem hq.2.1
  have hxl : x ∉ l ∧ x ∉ r := by
    rw [hlr, List.nodup_append] at hn
    exact ⟨fun hm => hn.2.2 x hm x List.mem_cons_self rfl, (List.nodup_cons.mp hn.2.1).1⟩
  have zones (is : List CallId) (a : Act Calls × ZoneSet) : a.1.val.SameZones (is.foldl (walkOne now) a).1.val := by
    induction is generalizing a with
    | nil => exact .refl _
    | cons i is ih => exact (sameZones_walkOne now a i).trans (ih _)
  have lists (is : List CallId) (a : Act Calls × ZoneSet) : a.1.val.ListsShrink (is.foldl (walkOne now) a).1.val := by
    induction is generalizing a with
    | nil => exact .refl _
    | cons i is ih => exact (listsShrink_walkOne now a i).trans (ih _)
  have h1 := hq.spared (spares_foldl_walkOne now l (w, 0)) hxl.1
  have h2 := (zones l (w, 0)).mutedZones
  have h3 := (lists l (w, 0)).2.2
  rw [walk_eq he, hlr, List.foldl_append, List.foldl_cons]
  generalize l.foldl (walkOne now) (w, 0) = a at h1 h2 h3 ⊢
  have hsilent : a.1.val.liveSet x = 0 := by
    unfold Calls.liveSet
    rw [h1.1, h2]
    by_contra hne
    exact hz ((w.val.audible_iff d.zones).mpr hne)
  rw [walkOne_silent hsilent]
  have hs := silence_silenced (now := now) (x := x) (hn.sublist h3)
  rw [h1.1] at hs
  exact hs.spared (spares_foldl_walkOne now r (silence now x a.1, a.2)) hxl.2

end

end Sys2Proof.Machine
end

section
/-! CREATE CALL for an IMMEDIATE call (R132, R134, R141, R151, R157, R158). -/
namespace Sys2Proof.Machine

/-! ## A call created (R134) -/

/-- The operands of CREATE CALL as its block reads them (Table 10-9). -/
def callOrder (kind message : Byte) (length zones : Half) (rep : Byte) (gap life : Half) (notify : Byte)
    (timing : Option (Byte × BitVec 32)) : CallOrder :=
  ⟨kind, message, length.toNat, zones, rep.toNat, gap.toNat, life.toNat, flagOf notify, timing⟩

/-- Some quantity is out of its range (R134). -/
theorem CallOrder.outOfRange_iff (o : CallOrder) : o.outOfRange = true ↔
    ¬ ((∀ x, o.anchorGiven = some x → -36000 ≤ x.2 ∧ x.2 ≤ 36000) ∧ (1 ≤ o.length ∧ o.length ≤ 600) ∧
      (1 ≤ o.repeatCount ∧ o.repeatCount ≤ 255) ∧ o.gap ≤ 3000 ∧ o.lifetime ≤ 6000) := by
  unfold CallOrder.outOfRange clampNat clampInt offsetMax
  cases o.anchorGiven with
  | none =>
    simp only [Bool.or_eq_true, decide_eq_true_eq, Bool.false_eq_true, or_false, reduceCtorEq, false_implies,
      implies_true, true_and]
    omega
  | some x =>
    simp only [Bool.or_eq_true, decide_eq_true_eq, Option.some.injEq, forall_eq']
    omega

/-- A taken CREATE CALL whose checks hold places the call (R134). -/
theorem createCall_taken {s : State} {p : Port} {k : Desk} {kind message : Byte} {length zones : Half} {rep : Byte}
    {gap life : Half} {n : Byte} {timing : Option (Byte × BitVec 32)} {x : CallId} {rest : List CallId}
    (hport : p = .prompt ∧ k = .prompt ∨ p = .house ∧ k = .house)
    (hs : shapeOk (.createCall p kind message length zones rep gap life n timing) = true)
    (ht : takeable p (requestFrame (.createCall p kind message length zones rep gap life n timing)) s = true)
    (h1 : s.calls.phaseSeen ≠ .unconfigured) (h2 : s.calls.phaseSeen ≠ .dark)
    (hn : (callOrder kind message length zones rep gap life n timing).named = true)
    (hz : zones.extractLsb' 0 12 ≠ 0) (hp : s.calls.pool = x :: rest) :
    ∀ o, o = callOrder kind message length zones rep gap life n timing → ∀ d, d = o.descriptor k s.clock →
    ∃ t, exec (.createCall p kind message length zones rep gap life n timing) s = .next t ∧
      AnsweredWith p 0x2B (doneOrClamped o.outOfRange (.callCreated (x.val + 1)
        (placedLife s.callEnv s.calls.fireSeen d).1 (placedLife s.callEnv s.calls.fireSeen d).2)) s t ∧
      KeepsAllButCalls s t ∧ t.calls = (placeCall x d s.callEnv ⟨s.calls, []⟩).val := by
  rintro o rfl d rfl
  have hperm : permitted p 0x2B = true := by rcases hport with ⟨rfl, -⟩ | ⟨rfl, -⟩ <;> rfl
  have hdesk : deskOf p = k := by rcases hport with ⟨rfl, rfl⟩ | ⟨rfl, rfl⟩ <;> rfl
  obtain ⟨t, hx, ha, hu, -⟩ := takeRequest_answers ht rfl hperm hs
    (createCallBlock_creates (k := deskOf p) h1 h2 hn hz hp) (quietly_onCalls _ s).2
  rw [hdesk] at ha hu
  refine ⟨t, hx, ha, ?_, by rw [hu]; rfl⟩
  rw [hu]
  exact ⟨.refl s, rfl, rfl, rfl, rfl⟩

/-! ## The head of the pool placed READY (R132, R134) -/

section
variable {c : Calls} {d : Descriptor} {x : CallId} {rest : List CallId} {now : Nat}

theorem allocate_table (x : CallId) (d : Descriptor) (c : Calls) : (allocate x d c).table[x] = d :=
  Calls.setDesc_table_self x d c

theorem allocate_pool (hp : c.pool = x :: rest) : (allocate x d c).pool = rest := by
  show c.pool.erase x = rest
  rw [hp, List.erase_cons_head]

/-- The descriptor of an allocated call, written again. -/
theorem setDesc_allocate_table (x : CallId) (d d' : Descriptor) (c : Calls) :
    ((allocate x d c).setDesc x d').table = c.table.set x d' := Vector.set_set ..

/-- The free pool holds FREE calls, which stand nowhere else (R131). -/
theorem Calls.lawful.free {c : Calls} (h : c.lawful) {x : CallId} (hx : 2 ≤ x.val) (hm : x ∈ c.pool) :
    x ∉ c.waiting ∧ x ∉ c.timetable ∧ x ∉ c.ready ∧ .general x ∉ c.finished := by
  have hl : c.table[x].life = .free := (h.standsIn_iff hx .free).mp (List.contains_iff_mem.mpr hm)
  refine ⟨?_, ?_, ?_, ?_⟩
  · rw [h.mem_waiting hx, hl]; decide
  · rw [h.mem_timetable hx, hl]; decide
  · rw [h.mem_ready hx, hl]; decide
  · rw [h.mem_finished hx, hl]; decide

/-- The calls with the head of the pool placed READY. -/
def Calls.placedReady (now : Nat) (x : CallId) (d : Descriptor) (c : Calls) : Calls := enterReady now x (allocate x d c)

theorem placedReady_table (now : Nat) (x : CallId) (d : Descriptor) (c : Calls) :
    (c.placedReady now x d).table = c.table.set x (d.readyAt now) := by
  have hd := allocate_table x d c
  have ht := setDesc_allocate_table x d (d.readyAt now) c
  unfold Calls.placedReady enterReady
  dsimp only
  rw [hd]
  exact ht

theorem placedReady_self (now : Nat) (x : CallId) (d : Descriptor) (c : Calls) :
    (c.placedReady now x d).table[x] = d.readyAt now := by
  rw [placedReady_table]; simp

theorem mem_placedReady (now : Nat) (x : CallId) (d : Descriptor) (c : Calls) : x ∈ (c.placedReady now x d).ready :=
  (mem_insertBy _ _ _ _).mpr (.inl rfl)

/-- A call that enters READY changes the queue, so a walk follows (R132). -/
theorem walkOnChange_enterReady {w : Act Calls} {before : Calls} (hr : w.val.ready = before.ready) :
    walkOnChange now before (w.map (enterReady now x)) = walk now (w.map (enterReady now x)) := by
  refine if_neg fun h => ?_
  have hl : (w.map (enterReady now x)).val.ready.length = w.val.ready.length + 1 := (insertBy_perm _ _ _).length_eq
  rw [h, hr] at hl
  omega

theorem placeCall_immediate (hk : d.kind = .immediate) (e : CallEnv) :
    placeCall x d e ⟨c, []⟩ = walk e.now ⟨c.placedReady e.now x d, []⟩ := by
  unfold placeCall
  dsimp only
  rw [if_pos hk]
  exact walkOnChange_enterReady (w := ⟨allocate x d c, []⟩) (before := c) rfl

end

/-! ## O39 -/

/-- The descriptor that an IMMEDIATE request makes READY (R134, R141). -/
theorem immediate_readyAt {message : Byte} {length zones : Half} {rep : Byte} {gap life : Half} {notify : Bool} {n : Byte}
    {k : Desk} {now : Nat} (hn : n = if notify then (1 : Byte) else 0) :
    ((callOrder 2 message length zones rep gap life n none).descriptor k now).readyAt now = { Descriptor.free with
      life := .ready, kind := .immediate, creator := k, message := message.toNat
      length := max 1 (min 600 length.toNat), zones := zones.extractLsb' 0 12
      repeatCount := max 1 rep.toNat, gap := min 3000 gap.toNat
      lifetime := min 6000 life.toNat, notify := notify, createdAt := now, entry := some now
      deadline := if life = 0 then none else some (min (now + min 6000 life.toNat) 4294967295) } := by
  have hrep : clampNat 1 255 rep.toNat = max 1 rep.toNat := by
    have := rep.isLt
    unfold clampNat
    omega
  have hlife : min 6000 life.toNat = 0 ↔ life = 0 := by
    rw [← BitVec.toNat_inj]
    simp only [BitVec.ofNat_eq_ofNat, BitVec.toNat_ofNat, Nat.zero_mod]
    omega
  have hdead : deadlineOf now (min 6000 life.toNat) =
      if life = 0 then none else some (min (now + min 6000 life.toNat) 4294967295) := by
    unfold deadlineOf
    simp only [hlife]
    rfl
  have hflag : flagOf n = notify := by rw [hn]; cases notify <;> rfl
  unfold Descriptor.readyAt CallOrder.descriptor callOrder
  dsimp only
  rw [hrep, hdead, hflag]
  rfl

/-- The answer of a request says CLAMPED where a quantity was out of its range (R174). -/
theorem doneOrClamped_eq {clamped : Bool} {c : Prop} [Decidable c] (h : clamped = true ↔ ¬ c) (b : Body) :
    doneOrClamped clamped b = ⟨if c then .done else .clamped, b⟩ := by
  unfold doneOrClamped
  by_cases hc : c
  · rw [if_pos hc, if_neg (mt h.mp (not_not.mpr hc))]
  · rw [if_neg hc, if_pos (h.mpr hc)]

/-- A call placed READY that can play nowhere is silenced by the walk (R158). -/
theorem placedReady_silenced {c : Calls} {d : Descriptor} {x : CallId} {rest : List CallId} {now : Nat} (h : c.lawful)
    (hx : 2 ≤ x.val) (hp : c.pool = x :: rest) (he : c.arbiterFire ≠ .evacuate) (hz : ¬ c.audible d.zones)
    (h0 : d.plays = 0) (hm : d.missed = 0) :
    (walk now ⟨c.placedReady now x d, []⟩).val.silenced x d.creator .silenced now d.zones := by
  obtain ⟨f1, f2, f3, f4⟩ := h.free hx (by rw [hp]; exact List.mem_cons_self)
  have hq : (c.placedReady now x d).queued x (d.readyAt now) :=
    ⟨placedReady_self now x d c, mem_placedReady now x d c, f1, f2, f4⟩
  have hs := walk_silences (now := now) (w := ⟨c.placedReady now x d, []⟩) he (insertBy_nodup f3 h.nodup.2.2) hq hz
  rw [show (d.readyAt now).plays = 0 from h0, if_pos rfl, show (d.readyAt now).missed = 0 from hm] at hs
  simpa [Descriptor.readyAt] using hs

/-- With channel A and its zones free in QUIET, and nothing else waiting, a call placed READY starts at once (R151). -/
theorem placedReady_starts {c : Calls} {d : Descriptor} {x : CallId} {now : Nat} (hw : NothingWaits c)
    (hq : c.arbiterFire = .quiet) (ha : c.chanA.state = .idle) (hr : c.chanA.reserved = none)
    (hz : ∀ z : Fin 12, c.paging[z].conn = none ∧ c.paging[z].held = false ∧ c.paging[z].muted = false)
    (hd : d.zones ≠ 0) : walk now ⟨c.placedReady now x d, []⟩ =
      ⟨startPlay .a x d.zones (c.placedReady now x d), []⟩ := by
  obtain ⟨w1, w2, w3⟩ := hw
  have hready : (c.placedReady now x d).ready = [x] := by
    show insertBy _ x c.ready = [x]
    rw [w1]
    rfl
  have hlive : (c.placedReady now x d).liveSet x = d.zones := by
    rw [Calls.liveSet_eq (c := c.placedReady now x d) fun z _ => (hz z).2.2, placedReady_self]
    rfl
  have hs := walk_starts (now := now) (w := ⟨c.placedReady now x d, []⟩) (ch := .a) hready (by rw [hlive]; exact hd) hq
    (usableChannel_eq w2 w3 ha hr (.inl rfl)) (fun z _ => ⟨(hz z).1, (hz z).2.1⟩)
  rw [hlive] at hs
  exact hs

/-- Settles O39: the head of the pool is placed READY, and the walk that follows keeps it in an evacuation, starts it on
a free channel, or silences it. -/
theorem immediateCallIsPlaced : Obligations.ImmediateCallIsPlaced := by
  intro s p k message length zones rep gap life notify hport x rest hp hx n hn i hi ht h1 h2 hm hzl hz0 d hd
  subst hi
  have hzones : zones.extractLsb' 0 12 ≠ 0 := mt (zonesLow_eq_zero_iff hzl).mp hz0
  have hnamed : (callOrder 2 message length zones rep gap life n none).named = true :=
    (CallOrder.named_iff _).mpr ⟨.inr rfl, hm, hzl, fun t h => nomatch h⟩
  have hshape : shapeOk (.createCall p 2 message length zones rep gap life n none) = true := by
    rw [hn]; cases notify <;> rfl
  generalize ho : callOrder 2 message length zones rep gap life n none = o
  generalize hd0 : o.descriptor k s.clock = d0
  obtain ⟨t, hexec, hans, hkeep, hcalls⟩ := createCall_taken hport hshape ht h1 h2 hnamed hzones hp o ho.symm d0 hd0.symm
  have hready : d0.readyAt s.clock = d := by rw [hd, ← hd0, ← ho]; exact immediate_readyAt hn
  have hkind : d0.kind = .immediate := by rw [← hd0, ← ho]; rfl
  have hdz : d0.zones = d.zones := by rw [← hready]; rfl
  have hlife : placedLife s.callEnv s.calls.fireSeen d0 = (.ready, none) := by unfold placedLife; rw [hkind]
  have hrange : o.outOfRange = true ↔ ¬ (1 ≤ length.toNat ∧ length.toNat ≤ 600 ∧ 1 ≤ rep.toNat ∧ gap.toNat ≤ 3000 ∧
      life.toNat ≤ 6000) := by
    have := rep.isLt
    rw [CallOrder.outOfRange_iff, ← ho]
    simp only [CallOrder.anchorGiven, callOrder, Option.bind_none, reduceCtorEq, false_implies, implies_true, true_and]
    omega
  rw [hlife, doneOrClamped_eq hrange] at hans
  rw [placeCall_immediate hkind, show s.callEnv.now = s.clock from rfl] at hcalls
  refine ⟨t, hexec, hans, hkeep, fun ho y hy => ?_, fun he => ?_, fun hw hq ha hr hall => ?_, fun hl he ha => ?_⟩
  · have hpair := ho.1
    rw [hp] at hpair hy
    rcases List.mem_cons.mp hy with rfl | hy
    · exact Nat.le_refl _
    · exact (List.rel_of_pairwise_cons hpair hy).le
  · rw [walk_evacuate (w := ⟨s.calls.placedReady s.clock x d0, []⟩) he] at hcalls
    rw [hcalls]
    refine ⟨?_, allocate_pool (d := d0) hp, mem_placedReady _ _ _ _, rfl, rfl⟩
    rw [← hready]
    exact placedReady_table _ _ _ _
  · have hdne : d.zones ≠ 0 := by rw [hd]; exact hzones
    rw [placedReady_starts hw hq ha hr hall (by rw [hdz]; exact hdne), hdz] at hcalls
    have hself := startPlay_table_self .a x d.zones (s.calls.placedReady s.clock x d0)
    rw [placedReady_self, hready] at hself
    have hmissed : (if isGeneral x then d.missed ||| (d.zones &&& ~~~d.zones) else d.missed) = d.missed := by
      rw [hd]; simp
    rw [hmissed] at hself
    rw [hcalls]
    refine ⟨hself, rfl, rfl, ?_, rfl, rfl, rfl, ?_, rfl, fun z => ?_⟩
    · show (s.calls.placedReady s.clock x d0).table[x].message = _
      rw [placedReady_self, hready, hd]
    · rw [(startPlay_lists _ _ _ _).1]
      show (insertBy _ x s.calls.ready).erase x = []
      rw [hw.1]
      simp [insertBy]
    · rw [startPlay_zone]
      split
      · rfl
      · exact (hall z).1
  · have hs := placedReady_silenced (now := s.clock) hl hx hp he (by rw [hdz]; exact ha) (by rw [← hd0]; rfl)
      (by rw [← hd0]; rfl)
    rw [← hcalls, hdz, show d0.creator = k by rw [← hd0]; rfl] at hs
    exact ⟨hs.1.finishedAs, hs.2⟩

end Sys2Proof.Machine
end

section
/-! CREATE CALL for a SCHEDULED call (R134, R135, R139). -/
namespace Sys2Proof.Machine

/-! ## Where arming puts a call (R135) -/

section
variable {now due lifetime : Nat} {fire : Condition}

theorem placingOf_timed (h : now < due ∨ fire = .evacuate) : placingOf now due lifetime fire = .timed := by
  unfold placingOf
  rcases h with h | h
  · rw [if_pos h]
  · rw [if_pos h, ite_self]

theorem placingOf_late (h : due ≤ now) (hf : fire ≠ .evacuate) : placingOf now due lifetime fire =
    if 0 < lifetime ∧ due + lifetime < now then .expired else .ready := by
  unfold placingOf
  rw [if_neg (Nat.not_lt.mpr h), if_neg hf]

end

section
variable {c : Calls} {d : Descriptor} {x : CallId} {rest : List CallId} {e : CallEnv}

theorem placedLife_waiting (hk : d.kind = .scheduled) (ha : e.anchorDue d = none) (fire : Condition) :
    placedLife e fire d = (.waiting, none) := by
  unfold placedLife
  rw [hk, ha]

/-- The life state in the reply to a SCHEDULED request whose anchor is present. -/
theorem placedLife_placing {due : Nat} (hk : d.kind = .scheduled) (ha : e.anchorDue d = some due) {fire : Condition}
    {q : Placing} (hq : placingOf e.now due d.lifetime fire = q) :
    (q = .timed → placedLife e fire d = (.timed, some due)) ∧ (q = .expired → placedLife e fire d = (.finished, none)) ∧
      (q = .ready → placedLife e fire d = (.ready, none)) := by
  refine ⟨?_, ?_, ?_⟩ <;> rintro rfl <;> unfold placedLife <;> rw [hk, ha] <;> dsimp only <;> rw [hq]

/-! ## The head of the pool armed -/

theorem placeCall_scheduled (hk : d.kind = .scheduled) : placeCall x d e ⟨c, []⟩ =
    walkOnChange e.now c (armFromAnchor e x ⟨allocate x d c, []⟩) := by
  unfold placeCall
  dsimp only
  rw [if_neg (by rw [hk]; decide)]
  rfl

theorem walkOnChange_same {now : Nat} {before : Calls} {w : Act Calls} (h : w.val.ready = before.ready) :
    walkOnChange now before w = w := if_pos h

/-- The anchor is absent: the call waits for it. -/
theorem placeCall_waiting (hk : d.kind = .scheduled) (ha : e.anchorDue d = none) :
    placeCall x d e ⟨c, []⟩ = ⟨enterWaiting x (allocate x d c), []⟩ := by
  rw [placeCall_scheduled hk]
  unfold armFromAnchor
  dsimp only
  rw [allocate_table, ha]
  exact walkOnChange_same rfl

/-- The anchor is present: the call is armed with its due time. -/
theorem placeCall_armed {due : Nat} (hk : d.kind = .scheduled) (ha : e.anchorDue d = some due) :
    placeCall x d e ⟨c, []⟩ = walkOnChange e.now c (armCall e.now due .anchor x ⟨allocate x d c, []⟩) := by
  rw [placeCall_scheduled hk]
  unfold armFromAnchor
  dsimp only
  rw [allocate_table, ha]

theorem enterWaiting_allocate_table : (enterWaiting x (allocate x d c)).table = c.table.set x d.awaiting := by
  have ht := setDesc_allocate_table x d d.awaiting c
  unfold enterWaiting
  rw [allocate_table]
  exact ht

theorem enterTimed_allocate_table (due : Nat) (basis : DueBasis) :
    (enterTimed due basis x (allocate x d c)).table = c.table.set x (d.timedAt due basis) := by
  have ht := setDesc_allocate_table x d (d.timedAt due basis) c
  unfold enterTimed
  rw [allocate_table]
  exact ht

theorem placeCall_timed {due : Nat} (hk : d.kind = .scheduled) (ha : e.anchorDue d = some due)
    (h : e.now < due ∨ c.fireSeen = .evacuate) :
    placeCall x d e ⟨c, []⟩ = ⟨enterTimed due .anchor x (allocate x d c), []⟩ := by
  rw [placeCall_armed hk ha, armCall_timed (w := ⟨allocate x d c, []⟩) h]
  exact walkOnChange_same rfl

/-- A due call past its lifetime finishes EXPIRED, and joins no list of live calls. -/
theorem placeCall_expired {due : Nat} (hk : d.kind = .scheduled) (ha : e.anchorDue d = some due) (h : due ≤ e.now)
    (hf : c.fireSeen ≠ .evacuate) (hl : 0 < d.lifetime) (ho : due + d.lifetime < e.now) (hw : x ∉ c.waiting)
    (ht : x ∉ c.timetable) (hr : x ∉ c.ready) :
    (placeCall x d e ⟨c, []⟩).val.ended x d.creator .expired e.now ∧ (placeCall x d e ⟨c, []⟩).val.ready = c.ready ∧
      (placeCall x d e ⟨c, []⟩).val.timetable = c.timetable ∧ (placeCall x d e ⟨c, []⟩).val.waiting = c.waiting := by
  have ht' := allocate_table x d c
  have lists : (finishCall e.now x .expired ⟨allocate x d c, []⟩).val.ready = c.ready ∧
      (finishCall e.now x .expired ⟨allocate x d c, []⟩).val.timetable = c.timetable ∧
      (finishCall e.now x .expired ⟨allocate x d c, []⟩).val.waiting = c.waiting := by
    rw [finishCall_others]
    exact ⟨List.erase_of_not_mem hr, List.erase_of_not_mem ht, List.erase_of_not_mem hw⟩
  rw [placeCall_armed hk ha, armCall_late (w := ⟨allocate x d c, []⟩) h hf,
    if_pos (by rw [ht']; exact ⟨hl, ho⟩), walkOnChange_same lists.1]
  have he := finishCall_ended e.now x .expired ⟨allocate x d c, []⟩
  rw [ht'] at he
  exact ⟨he, lists⟩

theorem placeCall_ready {due : Nat} (hk : d.kind = .scheduled) (ha : e.anchorDue d = some due) (h : due ≤ e.now)
    (hf : c.fireSeen ≠ .evacuate) (hl : d.lifetime = 0 ∨ e.now ≤ due + d.lifetime) :
    placeCall x d e ⟨c, []⟩ = walk e.now ⟨c.placedReady e.now x d, []⟩ := by
  rw [placeCall_armed hk ha, armCall_late (w := ⟨allocate x d c, []⟩) h hf,
    if_neg (by rw [allocate_table]; omega)]
  exact walkOnChange_enterReady (w := ⟨allocate x d c, []⟩) (before := c) rfl

/-- A call placed READY alone, with both channels busy, stays there. -/
theorem placedReady_waits {now : Nat} (hp : c.pool = x :: rest) (hr : c.ready = []) (ha : c.chanA.state ≠ .idle)
    (hb : c.chanB.state ≠ .idle) (hz : c.audible d.zones) : (walk now ⟨c.placedReady now x d, []⟩).val = { c with
      table := c.table.set x (d.readyAt now), pool := rest, ready := [x]
      creation := (allocate x d c).creation, nextCreation := (allocate x d c).nextCreation } := by
  have hready : (c.placedReady now x d).ready = [x] := by
    show insertBy _ x c.ready = [x]
    rw [hr]
    rfl
  rw [walk_busy (w := ⟨c.placedReady now x d, []⟩) (usableChannel_busy ha hb) fun i hi => ?_]
  · have ht := placedReady_table now x d c
    have hpool : (c.placedReady now x d).pool = rest := allocate_pool (d := d) hp
    show c.placedReady now x d = _
    rw [← ht, ← hpool, ← hready]
    rfl
  · rw [hready, List.mem_singleton] at hi
    rw [hi, Calls.liveSet_ne_zero_iff, placedReady_self]
    exact hz

end

/-! ## O40 -/

theorem anchorOf_eq_some {a : Byte} {anchor : Anchor}
    (h : a = 0 ∧ anchor = .plannedUp ∨ a = 1 ∧ anchor = .houseOpen ∨ a = 2 ∧ anchor = .actStart ∨
      a = 3 ∧ anchor = .intervalStart ∨ a = 4 ∧ anchor = .intervalEnd ∨ a = 5 ∧ anchor = .curtainDown) :
    anchorOf a = some anchor := by
  rcases h with ⟨rfl, rfl⟩ | ⟨rfl, rfl⟩ | ⟨rfl, rfl⟩ | ⟨rfl, rfl⟩ | ⟨rfl, rfl⟩ | ⟨rfl, rfl⟩ <;> rfl

/-- The descriptor that a SCHEDULED request allocates (R134). -/
theorem scheduled_descriptor {message : Byte} {length zones : Half} {rep : Byte} {gap life : Half} {notify : Bool}
    {n a : Byte} {anchor : Anchor} {offset : BitVec 32} {k : Desk} {now : Nat} (hn : n = if notify then (1 : Byte) else 0)
    (ha : anchorOf a = some anchor) :
    (callOrder 1 message length zones rep gap life n (some (a, offset))).descriptor k now = { Descriptor.free with
      life := .waiting, kind := .scheduled, creator := k, message := message.toNat
      length := max 1 (min 600 length.toNat), zones := zones.extractLsb' 0 12
      repeatCount := max 1 rep.toNat, gap := min 3000 gap.toNat, lifetime := min 6000 life.toNat
      notify := notify, createdAt := now
      anchor := some anchor, offset := max (-36000) (min 36000 offset.toInt) } := by
  have hrep : clampNat 1 255 rep.toNat = max 1 rep.toNat := by
    have := rep.isLt
    unfold clampNat
    omega
  have hflag : flagOf n = notify := by rw [hn]; cases notify <;> rfl
  have hg : (callOrder 1 message length zones rep gap life n (some (a, offset))).anchorGiven =
      some (anchor, offset.toInt) := by
    unfold CallOrder.anchorGiven callOrder
    rw [Option.bind_some, ha]
    rfl
  unfold CallOrder.descriptor
  rw [hg]
  unfold callOrder
  dsimp only
  rw [hrep, hflag]
  rfl

/-- Settles O40: the head of the pool is armed from its anchor, and a walk follows where it is READY. -/
theorem scheduledCallIsArmed : Obligations.ScheduledCallIsArmed := by
  intro s p k message length zones rep gap life notify a anchor offset hport x rest hp hx n hn i hi hanchor ht h1 h2 hm hzl
    hz0 d hd result hresult
  subst hi
  have ha := anchorOf_eq_some hanchor
  have hcode : a.toNat < 6 := (anchorOf_isSome a).mp (by rw [ha]; rfl)
  have hzones : zones.extractLsb' 0 12 ≠ 0 := mt (zonesLow_eq_zero_iff hzl).mp hz0
  have hnamed : (callOrder 1 message length zones rep gap life n (some (a, offset))).named = true :=
    (CallOrder.named_iff _).mpr ⟨.inl rfl, hm, hzl, fun t h => by cases h; exact hcode⟩
  have hshape : shapeOk (.createCall p 1 message length zones rep gap life n (some (a, offset))) = true := by
    rw [hn]; cases notify <;> rfl
  generalize ho : callOrder 1 message length zones rep gap life n (some (a, offset)) = o
  have hdo : d = o.descriptor k s.clock := by rw [hd, ← ho]; exact (scheduled_descriptor hn ha).symm
  obtain ⟨t, hexec, hans, hkeep, hcalls⟩ := createCall_taken hport hshape ht h1 h2 hnamed hzones hp o ho.symm d hdo
  have hkind : d.kind = .scheduled := by rw [hd]
  have hgiven : o.anchorGiven = some (anchor, offset.toInt) := by
    rw [← ho]
    unfold CallOrder.anchorGiven callOrder
    rw [Option.bind_some, ha]
    rfl
  have hrange : o.outOfRange = true ↔ ¬ (-36000 ≤ offset.toInt ∧ offset.toInt ≤ 36000 ∧ 1 ≤ length.toNat ∧
      length.toNat ≤ 600 ∧ 1 ≤ rep.toNat ∧ gap.toNat ≤ 3000 ∧ life.toNat ≤ 6000) := by
    have := rep.isLt
    rw [CallOrder.outOfRange_iff, hgiven, ← ho]
    simp only [callOrder, Option.some.injEq, forall_eq']
    omega
  have hdue : s.callEnv.anchorDue d = (s.house.anchors.get anchor).map fun v => dueFromAnchor v d.offset := by
    unfold CallEnv.anchorDue
    rw [show d.anchor = some anchor by rw [hd]]
    rfl
  rw [doneOrClamped_eq hrange, ← hresult] at hans
  refine ⟨t, hexec, hkeep, fun hnone => ?_, fun v hv due hduev => ?_⟩
  · rw [hnone, Option.map_none] at hdue
    rw [placedLife_waiting hkind hdue] at hans
    rw [placeCall_waiting hkind hdue] at hcalls
    rw [hcalls]
    refine ⟨hans, ?_, (mem_insertBy _ _ _ _).mpr (.inl rfl), allocate_pool (d := d) hp, rfl, rfl⟩
    rw [enterWaiting_allocate_table, hd]
    rfl
  · rw [hv, Option.map_some, show dueFromAnchor v d.offset = due from hduev.symm] at hdue
    refine ⟨fun hlate => ?_, fun hpast hfire hlife hover => ?_, fun hpast hfire hlife => ?_⟩
    · rw [(placedLife_placing hkind hdue (placingOf_timed hlate)).1 rfl] at hans
      rw [placeCall_timed hkind hdue hlate] at hcalls
      rw [hcalls]
      refine ⟨hans, ?_, (mem_insertBy _ _ _ _).mpr (.inl rfl), allocate_pool (d := d) hp, rfl, rfl⟩
      rw [enterTimed_allocate_table, hd]
      rfl
    · have hplace := placingOf_late (lifetime := d.lifetime) hpast hfire
      rw [if_pos ⟨hlife, hover⟩] at hplace
      rw [(placedLife_placing hkind hdue hplace).2.1 rfl] at hans
      refine ⟨hans, fun hl => ?_⟩
      obtain ⟨f1, f2, f3, -⟩ := hl.free hx (by rw [hp]; exact List.mem_cons_self)
      obtain ⟨he, hlists⟩ := placeCall_expired (c := s.calls) hkind hdue hpast hfire hlife hover f1 f2 f3
      rw [← hcalls, show d.creator = k by rw [hd]] at he
      rw [← hcalls] at hlists
      exact ⟨he.finishedAs, hlists⟩
    · have hplace := placingOf_late (lifetime := d.lifetime) hpast hfire
      rw [if_neg (by omega)] at hplace
      rw [(placedLife_placing hkind hdue hplace).2.2 rfl] at hans
      refine ⟨hans, fun hr hA hB hz => ?_⟩
      rw [placeCall_ready hkind hdue hpast hfire hlife] at hcalls
      have hw := placedReady_waits (now := s.clock) (x := x) hp hr hA hB hz
      have hready : d.readyAt s.clock = { d with
          life := .ready, entry := some s.clock
          deadline := if d.lifetime = 0 then none else some (min (s.clock + d.lifetime) 4294967295) } := by
        rw [hd]
        rfl
      rw [show s.callEnv.now = s.clock from rfl, hw, hready] at hcalls
      rw [hcalls]

end Sys2Proof.Machine
end

section
/-! SUPPORT. A finished call whose entry joins its creator's queue at once (R164, R165), and what the search of the
built-in calls and a walk keep (R157 to R162). -/
namespace Sys2Proof.Machine

/-! ## A completion reported at once (R165) -/

section
variable {w : Act Calls} {x : CallId} {k : Desk} {f : Finished}

theorem takeOwned_one {owned : Finished → Bool} {room : Nat} (h : owned f = true) (hr : room ≠ 0) :
    takeOwned owned room [f] = ([f], []) := by simp [takeOwned, h, hr]

/-- The only finished item moves into its owner's queue, where there is room. -/
theorem drain_one (hf : w.val.finished = [f]) (ho : w.val.ownerOf f = k) (hq : (w.val.queue k).length < 16) :
    drain false k w = ⟨drainItem k { w.val with finished := [] } f,
      w.out ++ if w.val.queue k = [] then [⟨[k.port], .completionsWaiting 1⟩] else []⟩ := by
  have ht := takeOwned_one (owned := fun x => w.val.ownerOf x = k) (f := f)
    (room := completionRoom - (w.val.queue k).length) (by simp [ho]) (by unfold completionRoom; omega)
  have hqueue := drainItem_queue k k { w.val with finished := [] } f
  rw [if_pos rfl, show ({ w.val with finished := [] } : Calls).queue k = w.val.queue k by cases k <;> rfl] at hqueue
  unfold drain
  dsimp only
  rw [hf, ht, List.foldl_cons, List.foldl_nil, hqueue]
  cases hw : w.val.queue k with
  | nil => simp
  | cons a as => simp

/-- A call that finishes with nothing in the finished list and room in its creator's queue is FREE again, its entry
joins the queue, and its notices are raised (R164, R165). -/
theorem finishCall_reported {d : Descriptor} (now : Nat) (o : CallOutcome) (hd : w.val.table[x] = d)
    (hf : w.val.finished = []) (hq : (w.val.queue d.creator).length < 16) : ∀ u, u = finishCall now x o w →
    u.val.queue d.creator = w.val.queue d.creator ++ [⟨x.val + 1, d.message, o, d.plays, d.missed, now, 1⟩] ∧
      u.val.finished = [] ∧ u.val.table[x] = Descriptor.free ∧ x ∈ u.val.pool ∧
      u.out = w.out ++ finishedMail x d o now ++
        if w.val.queue d.creator = [] then [⟨[d.creator.port], .completionsWaiting 1⟩] else [] := by
  rintro u rfl
  have hqueue : (w.val.withFinished now x o).queue d.creator = w.val.queue d.creator := by cases d.creator <;> rfl
  have hself : (w.val.withFinished now x o).table[x] = { d with
      life := .finished, due := none, basis := none, entry := none, deadline := none, channel := none
      outcome := some o, finishTime := some now } := by
    unfold Calls.withFinished
    dsimp only
    rw [Calls.setDesc_table_self, hd]
  have hdrain := drain_one (k := d.creator) (f := .general x)
    (w := ⟨w.val.withFinished now x o, w.out ++ finishedMail x d o now⟩)
    (by show w.val.finished ++ _ = _; rw [hf]; rfl)
    (by show ((w.val.withFinished now x o).table[x]).creator = _; rw [hself]) (by rw [hqueue]; exact hq)
  have hfinish : finishCall now x o w =
      drain false d.creator ⟨w.val.withFinished now x o, w.out ++ finishedMail x d o now⟩ := by
    rw [← hd]
    rfl
  rw [hfinish, hdrain]
  refine ⟨?_, ?_, ?_, ?_, ?_⟩
  · rw [drainItem_queue, if_pos rfl]
    show _ ++ [(w.val.withFinished now x o).table[x].completion x] = _
    rw [hself, ← hqueue]
    cases d.creator <;> rfl
  · rw [drainItem_others]
  · rw [drainItem_table, if_pos rfl]
  · exact (mem_insertBy _ _ _ _).mpr (.inl rfl)
  · rw [hqueue]

end

/-! ## What the search of the built-in calls keeps (R159, R160, R162) -/

section
variable {P : Calls → Prop} {e : CallEnv}

/-- A start keeps what pre-emptions and a play started on an IDLE channel keep. -/
theorem startBuiltIn_keeps (hpre : ∀ ch w, P w.val → P (preEmpt e ch w).val)
    (hstart : ∀ b ch zones c, (c.chan ch).state = .idle → P c → P (c.builtInStarted b ch zones)) {b : BuiltIn}
    {ch : Channel} {w : Act Calls} (hs : (w.val.chan ch).state = .idle) (hw : P w.val) :
    P (startBuiltIn e b ch w).val := by
  obtain ⟨v, hv, he⟩ := startBuiltIn_cleared e b ch w
  have hidle : (v.val.chan ch).state = .idle := hv.keeps (P := fun c => (c.chan ch).state = .idle)
    (fun k w hk => by rw [preEmpt_chan_of_free e k (carrying_of_state (.inl hk))]; exact hk) hs
  rw [he]
  exact hstart b ch _ v.val hidle (hv.keeps hpre hw)

theorem seekEvacuation_keeps (hpre : ∀ ch w, P w.val → P (preEmpt e ch w).val)
    (hstart : ∀ b ch zones c, (c.chan ch).state = .idle → P c → P (c.builtInStarted b ch zones)) {announce : Bool}
    {w : Act Calls} (hw : P w.val) : P (seekEvacuation e announce w).val := by
  unfold seekEvacuation
  split
  · split
    · exact hw
    · split
      · next ch hch => exact startBuiltIn_keeps hpre hstart (Calls.evacChannel_idle hch) hw
      · split <;> exact hw
  · exact hw

theorem seekBuiltIns_keeps (hpre : ∀ ch w, P w.val → P (preEmpt e ch w).val)
    (hstart : ∀ b ch zones c, (c.chan ch).state = .idle → P c → P (c.builtInStarted b ch zones)) {announce : Bool}
    {w : Act Calls} (hw : P w.val) : P (seekBuiltIns e announce w).val := by
  have first : P (seekEvacuation e announce w).val := seekEvacuation_keeps hpre hstart hw
  unfold seekBuiltIns seekStaffAlert
  split_ifs with _ ha hb
  · exact startBuiltIn_keeps hpre hstart (ch := .a) ha first
  · exact startBuiltIn_keeps hpre hstart (ch := .b) hb first
  · exact first
  · exact first

/-- A walk keeps what a silenced call and a play started on an IDLE channel keep (R157, R158). -/
theorem walk_keeps {now : Nat} (hsilent : ∀ i w, P w.val → P (silence now i w).val)
    (hstart : ∀ ch i live c, c.usableChannel = some ch → P c → P (startPlay ch i live c)) {w : Act Calls}
    (hw : P w.val) : P (walk now w).val := by
  have one (a : Act Calls × ZoneSet) (i : CallId) (ha : P a.1.val) : P (walkOne now a i).1.val := by
    unfold walkOne
    dsimp only
    split
    · exact hsilent i a.1 ha
    · split
      · next ch hch =>
        split
        · exact hstart ch i _ _ hch ha
        · exact ha
      · exact ha
  have fold (is : List CallId) (a : Act Calls × ZoneSet) (ha : P a.1.val) : P (is.foldl (walkOne now) a).1.val := by
    induction is generalizing a with
    | nil => exact ha
    | cons i is ih => exact ih _ (one a i ha)
  unfold walk
  split
  · exact hw
  · exact fold w.val.ready (w, 0) hw

end

/-! ## A channel that carries nothing, and connects nothing -/

/-- A channel stands with a record, and no zone is connected to it. -/
def Calls.unplugged (ch : Channel) (r : ChannelRecord) (c : Calls) : Prop :=
  c.chan ch = r ∧ ∀ z : Fin 12, c.paging[z].conn ≠ some ch

section
variable {ch k : Channel} {r : ChannelRecord} {c : Calls} {e : CallEnv} {w : Act Calls}

theorem usableChannel_usable (h : c.usableChannel = some ch) : (c.chan ch).usable = true := by
  unfold Calls.usableChannel at h
  split_ifs at h with h1 h2 h3 <;> cases h
  · exact h2
  · exact h3

theorem Calls.unplugged.of_stage {c' : Calls} (h : c.unplugged ch r) (hs : c.SameStage c') : c'.unplugged ch r := by
  obtain ⟨-, -, hp, ha, hb, -⟩ := hs
  refine ⟨?_, fun z => by rw [hp]; exact h.2 z⟩
  rw [← h.1]
  cases ch
  · exact ha
  · exact hb

theorem Calls.unplugged.stopChannel (h : c.unplugged ch r) (hk : k ≠ ch) : (stopChannel e k c).unplugged ch r := by
  refine ⟨(stopChannel_chan_of_ne e c (Ne.symm hk)).trans h.1, fun z => ?_⟩
  have hz : (Machine.stopChannel e k c).paging[z] = (c.release k).paging[z] := by cases k <;> rfl
  rw [hz, release_zone]
  split
  · exact (nomatch ·)
  · exact h.2 z

/-- A pre-emption finds nothing on the channel, and releases the zones of the other alone. -/
theorem Calls.unplugged.preEmpt (h : w.val.unplugged ch r) (hr : r.carrying = false) :
    (preEmpt e k w).val.unplugged ch r := by
  have hch := preEmpt_chan_of_free e k (w := w) (k := ch) (by rw [h.1]; exact hr)
  rcases preEmpt_cases e k w with he | ⟨i, hi, he⟩
  · rw [he]; exact h
  · have hk : k ≠ ch := by
      rintro rfl
      have := (Calls.generalOn_eq_some_iff.mp hi).1
      rw [h.1, hr] at this
      cases this
    rw [he]
    exact (h.of_stage (sameStage_finishCall e.now i .preEmpted w)).stopChannel hk

theorem Calls.unplugged.startPlay (h : c.unplugged ch r) (hk : k ≠ ch) (i : CallId) (live : ZoneSet) :
    (startPlay k i live c).unplugged ch r := by
  refine ⟨by rw [startPlay_chan, if_neg (Ne.symm hk)]; exact h.1, fun z => ?_⟩
  rw [startPlay_zone]
  split
  · exact fun e => hk (Option.some.inj e)
  · exact h.2 z

theorem Calls.unplugged.builtInStarted (h : c.unplugged ch r) (hk : k ≠ ch) (b : BuiltIn) (zones : ZoneSet) :
    (c.builtInStarted b k zones).unplugged ch r := by
  refine ⟨by rw [builtInStarted_chan, if_neg (Ne.symm hk)]; exact h.1, fun z => ?_⟩
  rw [builtInStarted_zone]
  split
  · exact fun e => hk (Option.some.inj e)
  · exact h.2 z

theorem Calls.unplugged.silence (h : w.val.unplugged ch r) (now : Nat) (i : CallId) :
    (silence now i w).val.unplugged ch r :=
  h.of_stage (sameStage_finishCall now i _ (w.map (Calls.setDesc i _)))

/-- A walk that does not use the channel leaves it unplugged. -/
theorem Calls.unplugged.walk (h : w.val.unplugged ch r) (hr : r.usable = false) (now : Nat) :
    (walk now w).val.unplugged ch r := by
  refine walk_keeps (fun i w hw => hw.silence now i) (fun k i live c hu hc => hc.startPlay ?_ i live) h
  rintro rfl
  have := usableChannel_usable hu
  rw [hc.1, hr] at this
  cases this

/-- The search of the built-in calls leaves a channel that is neither IDLE nor carrying unplugged. -/
theorem Calls.unplugged.seekBuiltIns (h : w.val.unplugged ch r) (hr : r.carrying = false) (hs : r.state ≠ .idle)
    (announce : Bool) : (seekBuiltIns e announce w).val.unplugged ch r := by
  refine seekBuiltIns_keeps (fun k w hw => hw.preEmpt hr) (fun b k zones c hk hc => hc.builtInStarted ?_ b zones) h
  rintro rfl
  exact hs (by rw [← hc.1]; exact hk)

theorem Calls.unplugged.seekEvacuation (h : w.val.unplugged ch r) (hr : r.carrying = false) (hs : r.state ≠ .idle)
    (announce : Bool) : (seekEvacuation e announce w).val.unplugged ch r := by
  refine seekEvacuation_keeps (fun k w hw => hw.preEmpt hr) (fun b k zones c hk hc => hc.builtInStarted ?_ b zones) h
  rintro rfl
  exact hs (by rw [← hc.1]; exact hk)

end

end Sys2Proof.Machine
end

section
/-! CANCEL CALL on a call in any life state (R143, R144, R154, R164, R165). -/
namespace Sys2Proof.Machine

section
variable {c : Calls} {x : CallId} {e : CallEnv} {d : Descriptor} {w : Act Calls}

/-! ## The collections under the search of the built-in calls -/

theorem listsShrink_stopChannel (e : CallEnv) (ch : Channel) (c : Calls) : c.ListsShrink (stopChannel e ch c) := by
  cases ch <;> exact .refl c

theorem listsShrink_preEmpt (e : CallEnv) (ch : Channel) (w : Act Calls) : w.val.ListsShrink (preEmpt e ch w).val := by
  rcases preEmpt_cases e ch w with h | ⟨i, -, h⟩ <;> rw [h]
  · exact .refl _
  · exact (listsShrink_finishCall e.now i .preEmpted w).trans (listsShrink_stopChannel e ch _)

theorem listsShrink_seekBuiltIns (e : CallEnv) (announce : Bool) (w : Act Calls) :
    w.val.ListsShrink (seekBuiltIns e announce w).val :=
  seekBuiltIns_keeps (P := w.val.ListsShrink) (fun ch v hv => hv.trans (listsShrink_preEmpt e ch v))
    (fun b ch zones c _ hc => hc.trans (listsShrink_builtInStarted b ch zones c)) (.refl _)

theorem Calls.gone.builtInStarted {k : Desk} {o : CallOutcome} {n : Nat} (h : c.gone x k o n) (hx : 2 ≤ x.val)
    (b : BuiltIn) (ch : Channel) (zones : ZoneSet) : (c.builtInStarted b ch zones).gone x k o n := by
  have hb : x ≠ builtInCall b := by rintro rfl; cases b <;> exact absurd hx (by decide)
  obtain ⟨h1, h2, h3⟩ := h
  have sp := spares_builtInStarted b ch zones c
  refine ⟨sp.ended x k o n hb h1, fun j => ?_, mt (sp.ready x hb).mp h3⟩
  rw [builtInStarted_chan]
  split
  · exact fun he => hb (Option.some.inj he).symm
  · exact h2 j

/-- What follows a channel becoming IDLE brings no call back. -/
theorem Calls.gone.afterIdle {k : Desk} {o : CallOutcome} {n : Nat} (h : w.val.gone x k o n) (hx : 2 ≤ x.val)
    (e : CallEnv) : (afterIdle e w).val.ended x k o n ∧ w.val.ListsShrink (afterIdle e w).val := by
  have hseek := seekBuiltIns_keeps (e := e) (announce := true) (fun ch v => preEmpt_gone ch v)
    (fun b ch zones c _ hc => hc.builtInStarted hx b ch zones) h
  exact ⟨(spares_walk e.now (seekBuiltIns e true w)).ended x k o n hseek.2.2 hseek.1,
    (listsShrink_seekBuiltIns e true w).trans (listsShrink_walk e.now _)⟩

/-! ## The act (R144) -/

/-- A call that waits or is TIMED finishes, and no walk follows. -/
theorem cancelAct_parked (hl : w.val.table[x].life = .waiting ∨ w.val.table[x].life = .timed) (hr : x ∉ w.val.ready) :
    cancelAct x e w = finishCall e.now x .cancelled w := by
  have hp : w.val.table[x].life ≠ .playing := by rcases hl with h | h <;> rw [h] <;> decide
  have hc : cancelCall e x w = finishCall e.now x .cancelled w := by
    rcases cancelCall_cases e x w with ⟨ch, h, -⟩ | ⟨-, h⟩
    · exact absurd h hp
    · exact h
  unfold cancelAct
  dsimp only
  rw [if_neg hp, hc]
  refine walkOnChange_same ?_
  rw [finishCall_others]
  exact List.erase_of_not_mem hr

/-- A cancelled call is on no channel and in no collection of live calls (R144). -/
theorem cancelCall_gone (h : c.lawful) (hx : 2 ≤ x.val) (e : CallEnv) :
    (cancelCall e x ⟨c, []⟩).val.gone x c.table[x].creator .cancelled e.now ∧
      x ∉ (cancelCall e x ⟨c, []⟩).val.waiting ∧ x ∉ (cancelCall e x ⟨c, []⟩).val.timetable := by
  obtain ⟨l1, l2, l3⟩ := cancelCall_lists e x ⟨c, []⟩
  obtain ⟨n1, n2, n3⟩ := h.nodup
  rw [l1, l2]
  refine ⟨⟨cancelCall_ended e x ⟨c, []⟩, fun ch => cancelCall_offChannel fun hc => (h.onChannel hx hc).2, ?_⟩,
    n1.not_mem_erase, n2.not_mem_erase⟩
  rw [l3]
  exact n3.not_mem_erase

theorem cancelAct_ends (h : c.lawful) (hx : 2 ≤ x.val) (e : CallEnv) : ∀ u, u = (cancelAct x e ⟨c, []⟩).val →
    u.ended x c.table[x].creator .cancelled e.now ∧ x ∉ u.waiting ∧ x ∉ u.timetable ∧ x ∉ u.ready := by
  rintro u rfl
  obtain ⟨hg, hw, ht⟩ := cancelCall_gone h hx e
  have hafter : (cancelAct x e ⟨c, []⟩).val.ended x c.table[x].creator .cancelled e.now ∧
      (cancelCall e x ⟨c, []⟩).val.ListsShrink (cancelAct x e ⟨c, []⟩).val := by
    unfold cancelAct
    dsimp only
    split
    · exact hg.afterIdle hx e
    · obtain ⟨sp, ls⟩ := spares_walkOnChange e.now c (cancelCall e x ⟨c, []⟩)
      exact ⟨sp.ended x _ _ _ hg.2.2 hg.1, ls⟩
  obtain ⟨he, s1, s2, s3⟩ := hafter
  exact ⟨he, mt (s1.subset ·) hw, mt (s2.subset ·) ht, mt (s3.subset ·) hg.2.2⟩

/-- A channel whose PLAYING line is high stops, and its zones are free (R154). -/
theorem stopChannel_unplugged {ch : Channel} (hp : e.playing ch = true) (c : Calls) :
    (stopChannel e ch c).unplugged ch
      { (c.chan ch).emptied .stopping with stopTimer := some playerTime, stopStrobe := true } := by
  refine ⟨?_, fun z => ?_⟩
  · unfold stopChannel
    rw [Calls.chan_setChan_self, if_pos hp]
    cases ch <;> rfl
  · have hz : (stopChannel e ch c).paging[z] = (c.release ch).paging[z] := by cases ch <;> rfl
    rw [hz, release_zone]
    split
    · exact (nomatch ·)
    · assumption

/-- The channel of a cancelled play stops, whatever starts on the other (R144, R154). -/
theorem cancelAct_stops {ch : Channel} (hl : w.val.table[x].life = .playing) (hc : w.val.table[x].channel = some ch)
    (hp : e.playing ch = true) : (cancelAct x e w).val.unplugged ch
      { (w.val.chan ch).emptied .stopping with stopTimer := some playerTime, stopStrobe := true } := by
  have hcancel : cancelCall e x w = (finishCall e.now x .cancelled w).map (stopChannel e ch) := by
    unfold cancelCall
    dsimp only
    rw [hl, hc]
  have hstop := stopChannel_unplugged hp (finishCall e.now x .cancelled w).val
  rw [finishCall_chan] at hstop
  unfold cancelAct
  dsimp only
  rw [if_pos hl, hcancel]
  exact (Calls.unplugged.seekBuiltIns (w := (finishCall e.now x .cancelled w).map (stopChannel e ch)) hstop
    rfl (nomatch ·) true).walk rfl e.now

end

/-! ## O41 -/

section
variable {s : State} {p : Port} {b : Byte} {x : CallId}

theorem cancelCallBlock_badNumber (h : b = 0 ∨ 48 < b.toNat) : cancelCallBlock b s = (s, refuse .badNumber) := by
  unfold cancelCallBlock
  rw [identifierFrom1_out (h.imp_left fun h => by rw [h]; rfl)]

theorem cancelCallBlock_notPermitted (hb : b.toNat = x.val + 1) (hx : x.val < 2) :
    cancelCallBlock b s = (s, refuse .notPermitted) := by
  unfold cancelCallBlock
  rw [identifierFrom1_of_lt hb]
  have hg : isGeneral x = false := by simp [isGeneral, hx]
  dsimp only
  rw [hg]
  rfl

theorem cancelCallBlock_notActive (hb : b.toNat = x.val + 1) (hx : 2 ≤ x.val) (hl : s.calls.table[x].life.live = false) :
    cancelCallBlock b s = (s, refuse .notActive) := by
  unfold cancelCallBlock
  rw [identifierFrom1_of_lt hb]
  have hg : isGeneral x = true := by simp [isGeneral, hx]
  dsimp only
  rw [hg, hl]
  rfl

theorem cancelCallBlock_cancels (hb : b.toNat = x.val + 1) (hx : 2 ≤ x.val) (hl : s.calls.table[x].life.live = true) :
    cancelCallBlock b s = (s.onCalls (cancelAct x), done (.lifeBefore s.calls.table[x].life)) := by
  unfold cancelCallBlock
  rw [identifierFrom1_of_lt hb]
  have hg : isGeneral x = true := by simp [isGeneral, hx]
  dsimp only
  rw [hg, hl]
  rfl

end

/-- Settles O41: a live call finishes, and a walk or what follows an IDLE channel does not bring it back. -/
theorem cancelCallFinishesIt : Obligations.CancelCallFinishesIt := by
  rintro s p b x hport hb ht d rfl
  have hperm : permitted p 0x2C = true := by rcases hport with rfl | rfl <;> rfl
  refine ⟨fun hx hlife => ?_, fun hx hlife => ?_, fun hx => ?_, fun b' hb' ht' => ?_⟩
  · have hlive : s.calls.table[x].life.live = true := by rcases hlife with h | h | h | h <;> rw [h] <;> rfl
    obtain ⟨t, hexec, hans, hu, hreach⟩ := takeRequest_answers (i := .cancelCall p b) ht rfl hperm rfl
      (cancelCallBlock_cancels hb hx hlive) (quietly_onCalls _ s).2
    have hcalls : t.calls = (cancelAct x s.callEnv ⟨s.calls, []⟩).val := by rw [hu]; rfl
    have hkeep : KeepsAllButCalls s t := by
      rw [hu]
      exact ⟨.refl s, rfl, rfl, rfl, rfl⟩
    refine ⟨t, hexec, hans, hkeep, fun hpark hfin hr hq => ?_, fun hl => ?_, fun hl hpark => ?_, fun ch hch hplay hpin => ?_⟩
    · have hact := cancelAct_parked (e := s.callEnv) (w := ⟨s.calls, []⟩) hpark hr
      obtain ⟨r1, r2, r3, r4, r5⟩ := finishCall_reported (w := ⟨s.calls, []⟩) s.clock .cancelled rfl hfin hq _ rfl
      have hready : (finishCall s.clock x .cancelled ⟨s.calls, []⟩).val.ready = s.calls.ready := by
        rw [finishCall_others]
        exact List.erase_of_not_mem hr
      have told {m : Mail} {q : Port} (hm : m ∈ (finishCall s.clock x .cancelled ⟨s.calls, []⟩).out)
          (hp : q ∈ m.ports) : Reaches q m.notice s t :=
        hreach q _ (reaches_onCalls hp (by rw [hact]; exact hm))
      rw [hcalls, hact]
      refine ⟨r1, r2, by rw [show s.callEnv.now = s.clock from rfl, r3]; rfl, r4, hready, fun hn => ?_, fun hempty => ?_⟩
      · refine told (m := ⟨[_], _⟩) ?_ List.mem_cons_self
        rw [r5, finishedMail, if_pos hn]
        exact List.mem_append_left _ (by simp [callNumber])
      · refine told (m := ⟨[_], _⟩) ?_ List.mem_cons_self
        rw [r5, if_pos hempty]
        exact List.mem_append_right _ List.mem_cons_self
    · obtain ⟨he, h1, h2, h3⟩ := cancelAct_ends hl hx s.callEnv _ hcalls
      exact ⟨he.finishedAs, h1, h2, h3⟩
    · have hr : x ∉ s.calls.ready := by
        rw [hl.mem_ready hx]
        rcases hpark with h | h <;> rw [h] <;> decide
      rw [hcalls, cancelAct_parked (e := s.callEnv) (w := ⟨s.calls, []⟩) hpark hr, finishCall_others]
      exact ⟨rfl, rfl⟩
    · have hpin' : s.callEnv.playing ch = true := by
        rw [← hpin]
        cases ch <;> rfl
      obtain ⟨hs, hz⟩ := cancelAct_stops (w := ⟨s.calls, []⟩) hplay hch hpin'
      rw [hcalls, hs]
      exact ⟨rfl, rfl, rfl, rfl, rfl, hz⟩
  · have hlive : s.calls.table[x].life.live = false := by rcases hlife with h | h <;> rw [h] <;> rfl
    exact takeRequest_unchanged (i := .cancelCall p b) ht rfl hperm rfl (cancelCallBlock_notActive hb hx hlive)
  · exact takeRequest_unchanged (i := .cancelCall p b) ht rfl hperm rfl (cancelCallBlock_notPermitted hb hx)
  · exact takeRequest_unchanged (i := .cancelCall p b') ht' rfl hperm rfl (cancelCallBlock_badNumber hb')

end Sys2Proof.Machine
end

section
/-! The timetable falls due, and the deadlines of READY calls (R131, R132, R139, R141). -/
namespace Sys2Proof.Machine

/-! ## An event of the calls -/

section
variable {s : State} {f : CallEnv → Act Calls → Act Calls}

theorem callEvent_live (hi : s.inert = false) : callEvent f s = .next (s.onCalls f) := by
  unfold callEvent
  rw [hi]
  rfl

/-- An act that does nothing leaves the state as it is. -/
theorem State.onCalls_nothing (h : f s.callEnv ⟨s.calls, []⟩ = ⟨s.calls, []⟩) : s.onCalls f = s := by
  unfold State.onCalls
  rw [h]
  rfl

theorem callEvent_nothing (hi : s.inert = false) (h : f s.callEnv ⟨s.calls, []⟩ = ⟨s.calls, []⟩) :
    callEvent f s = .next s := by
  rw [callEvent_live hi, State.onCalls_nothing h]

end

/-! ## Times in order -/

/-- In a list whose times ascend, those that have come stand at the head. -/
theorem takeWhile_reached {α : Type} {now : Nat} {time : α → Nat} {p : α → Bool} {l : List α}
    (ho : l.Pairwise fun i j => time i ≤ time j) (hp : ∀ i ∈ l, p i = decide (time i ≤ now)) :
    l = l.takeWhile p ++ l.filter (fun i => decide (now < time i)) ∧
      ∀ i, i ∈ l.takeWhile p ↔ i ∈ l ∧ time i ≤ now := by
  induction l with
  | nil => simp
  | cons a as ih =>
    obtain ⟨h1, h2⟩ := List.pairwise_cons.mp ho
    obtain ⟨ih1, ih2⟩ := ih h2 fun i hi => hp i (.tail _ hi)
    have ha := hp a List.mem_cons_self
    by_cases hn : time a ≤ now
    · rw [List.takeWhile_cons_of_pos (by rw [ha]; exact decide_eq_true hn),
        List.filter_cons_of_neg (by simpa using hn)]
      refine ⟨congrArg (a :: ·) ih1, fun i => ?_⟩
      rw [List.mem_cons, ih2, List.mem_cons]
      constructor
      · rintro (rfl | ⟨hi, hl⟩)
        · exact ⟨.inl rfl, hn⟩
        · exact ⟨.inr hi, hl⟩
      · rintro ⟨rfl | hi, hl⟩
        · exact .inl rfl
        · exact .inr ⟨hi, hl⟩
    · have late (i : α) (hi : i ∈ a :: as) : now < time i := by
        rcases List.mem_cons.mp hi with rfl | hi
        · omega
        · exact Nat.lt_of_lt_of_le (by omega) (h1 i hi)
      rw [List.takeWhile_cons_of_neg (by rw [ha]; simpa using hn),
        List.filter_eq_self.mpr fun i hi => decide_eq_true (late i hi)]
      refine ⟨rfl, fun i => ⟨(nomatch ·), fun ⟨hi, hl⟩ => absurd (late i hi) (by omega)⟩⟩

/-! ## Calls fall due (R139) -/

/-- One call of the timetable falls due. -/
def fallDue (now : Nat) (w : Act Calls) (i : CallId) : Act Calls := w.map fun c => enterReady now i (c.leave i)

theorem takeDue_eq (now : Nat) (w : Act Calls) : takeDue now w = (w.val.dueNow now).foldl (fallDue now) w := rfl

section
variable {now : Nat} {w : Act Calls} {i x : CallId} {is : List CallId}

theorem fallDue_table (now : Nat) (w : Act Calls) (i x : CallId) :
    (fallDue now w i).val.table[x] = if x = i then w.val.table[x].readyAt now else w.val.table[x] := by
  refine (Calls.setDesc_table i x _ (w.val.leave i)).trans ?_
  split
  · next h => rw [h]; rfl
  · rfl

theorem mem_fallDue_ready : x ∈ (fallDue now w i).val.ready ↔ x ∈ w.val.ready ∨ x = i := by
  refine (mem_insertBy _ _ _ _).trans ?_
  show x = i ∨ x ∈ w.val.ready.erase i ↔ _
  by_cases h : x = i
  · simp [h]
  · rw [List.mem_erase_of_ne h, or_comm]

theorem foldl_fallDue_stage (w : Act Calls) : w.val.SameStage (is.foldl (fallDue now) w).val := by
  induction is generalizing w with
  | nil => exact .refl _
  | cons i is ih => exact .trans ⟨rfl, rfl, rfl, rfl, rfl, rfl, rfl⟩ (ih (fallDue now w i))

theorem foldl_fallDue_table (w : Act Calls) (x : CallId) : (is.foldl (fallDue now) w).val.table[x] =
    if x ∈ is then w.val.table[x].readyAt now else w.val.table[x] := by
  induction is generalizing w with
  | nil => simp
  | cons i is ih =>
    rw [List.foldl_cons, ih, fallDue_table]
    by_cases h1 : x = i <;> by_cases h2 : x ∈ is <;> simp [h1, h2, Descriptor.readyAt]

theorem mem_foldl_fallDue_ready (w : Act Calls) :
    x ∈ (is.foldl (fallDue now) w).val.ready ↔ x ∈ w.val.ready ∨ x ∈ is := by
  induction is generalizing w with
  | nil => simp
  | cons i is ih => rw [List.foldl_cons, ih, mem_fallDue_ready, List.mem_cons, or_assoc]

/-- The calls that fall due leave the head of the timetable. -/
theorem foldl_fallDue_timetable {rest : List CallId} (h : w.val.timetable = is ++ rest) :
    (is.foldl (fallDue now) w).val.timetable = rest := by
  induction is generalizing w with
  | nil => exact h
  | cons i is ih =>
    refine ih (w := fallDue now w i) ?_
    show w.val.timetable.erase i = _
    rw [h, List.cons_append, List.erase_cons_head]

/-- With no channel IDLE and every READY call audible, a change of the ready queue moves nothing more. -/
theorem walkOnChange_busy {before : Calls} (ha : w.val.chanA.state ≠ .idle) (hb : w.val.chanB.state ≠ .idle)
    (hl : ∀ i ∈ w.val.ready, w.val.liveSet i ≠ 0) : walkOnChange now before w = w := by
  rcases walkOnChange_cases now before w with h | h <;> rw [h]
  exact walk_busy (usableChannel_busy ha hb) hl

theorem dueTimerAct_evacuate {e : CallEnv} (h : w.val.fireSeen = .evacuate) : dueTimerAct e w = w := if_pos h

/-- With both channels busy and every call of the timetable and the ready queue audible, the calls that have fallen due
enter READY, and that is all. -/
theorem dueTimerAct_busy {e : CallEnv} {c : Calls} (hf : c.fireSeen ≠ .evacuate) (ha : c.chanA.state ≠ .idle)
    (hb : c.chanB.state ≠ .idle) (hz : ∀ x ∈ c.timetable ++ c.ready, c.audible c.table[x].zones) :
    dueTimerAct e ⟨c, []⟩ = (c.dueNow e.now).foldl (fallDue e.now) ⟨c, []⟩ := by
  unfold dueTimerAct
  rw [if_neg hf, takeDue_eq]
  have hs := foldl_fallDue_stage (now := e.now) (is := c.dueNow e.now) ⟨c, []⟩
  obtain ⟨-, -, hp, h1, h2, -⟩ := hs
  refine walkOnChange_busy (by rw [h1]; exact ha) (by rw [h2]; exact hb) fun i hi => ?_
  have hmem : i ∈ c.timetable ++ c.ready := by
    rcases (mem_foldl_fallDue_ready _).mp hi with h | h
    · exact List.mem_append_right _ h
    · exact List.mem_append_left _ (mem_dueNow h).1
  have hzones : ((c.dueNow e.now).foldl (fallDue e.now) ⟨c, []⟩).val.table[i].zones = c.table[i].zones := by
    rw [foldl_fallDue_table]
    split <;> rfl
  rw [Calls.liveSet_ne_zero_iff, hzones]
  unfold Calls.audible
  rw [hp]
  exact hz i hmem

end

/-! ## Deadlines (R141) -/

section
variable {x : CallId} {e : CallEnv} {w : Act Calls} {d : Descriptor}

theorem deadlineAct_idle (h : w.val.table[x].life ≠ .ready ∨ timeReached e.now w.val.table[x].deadline = false) :
    deadlineAct x e w = w := by
  refine if_neg fun hc => ?_
  rcases h with h | h
  · exact h hc.1
  · rw [h] at hc
    exact absurd hc.2 (by decide)

/-- The deadline of the only READY call finishes it, and the queue is empty. -/
theorem deadlineAct_finishes (hl : w.val.table[x].life = .ready) (ht : timeReached e.now w.val.table[x].deadline = true)
    (hr : w.val.ready = [x]) : deadlineAct x e w = finishCall e.now x w.val.table[x].lateOutcome w ∧
      (deadlineAct x e w).val.ready = [] := by
  have hready : (finishCall e.now x w.val.table[x].lateOutcome w).val.ready = [] := by
    rw [finishCall_others]
    show w.val.ready.erase x = []
    rw [hr, List.erase_cons_head]
  have hact : deadlineAct x e w = finishCall e.now x w.val.table[x].lateOutcome w := by
    refine (if_pos ⟨hl, ht⟩).trans ?_
    rcases walkOnChange_cases e.now w.val (finishCall e.now x w.val.table[x].lateOutcome w) with h | h <;> rw [h]
    exact walk_of_empty hready
  exact ⟨hact, by rw [hact]; exact hready⟩

end

/-! ## O42 -/

/-- Settles O42: the head of the timetable that has come is taken call by call, and a deadline finishes its call. -/
theorem callsFallDueAndExpire : Obligations.CallsFallDueAndExpire := by
  refine ⟨fun s x rest htt due hdue hi => ⟨fun hf hpast hrest hr ha hb hz => ?_, fun hno => ?_⟩, ?_, ?_⟩
  · subst hrest
    have hnow : s.calls.dueNow s.clock = [x] := by
      rw [dueNow_eq, htt, List.takeWhile_cons_of_pos (by rw [hdue]; simpa using hpast), List.takeWhile_nil]
    have hact := dueTimerAct_busy (e := s.callEnv) hf ha hb fun y hy => by
      rw [htt, hr] at hy
      rw [List.mem_singleton.mp hy]
      exact (s.calls.audible_iff _).mpr hz
    rw [show s.callEnv.now = s.clock from rfl, hnow, List.foldl_cons, List.foldl_nil] at hact
    refine ⟨_, callEvent_live hi, (quietly_onCalls _ s).2, keepsAllButCalls_onCalls _ s, ?_⟩
    rw [State.onCalls_calls, hact]
    refine ⟨?_, ?_, rfl⟩
    · show s.calls.timetable.erase x = []
      rw [htt, List.erase_cons_head]
    · show insertBy _ x (s.calls.ready.erase x) = [x]
      rw [hr]
      rfl
  · refine callEvent_nothing hi ?_
    rcases hno with hlate | hevac
    · by_cases hevac : s.calls.fireSeen = .evacuate
      · exact dueTimerAct_evacuate hevac
      · have hnow : s.calls.dueNow s.clock = [] := by
          rw [dueNow_eq, htt, List.takeWhile_cons_of_neg (by rw [hdue]; simpa using hlate)]
        have htake : takeDue s.clock ⟨s.calls, []⟩ = ⟨s.calls, []⟩ := by rw [takeDue_eq, hnow]; rfl
        refine (if_neg hevac).trans ?_
        rw [show s.callEnv.now = s.clock from rfl, htake]
        exact walkOnChange_same rfl
    · exact dueTimerAct_evacuate hevac
  · intro s hi hf hl ho ha hb hz
    have hact := dueTimerAct_busy (e := s.callEnv) hf ha hb hz
    have hreached : ∀ i ∈ s.calls.timetable, timeReached s.clock s.calls.table[i].due =
        decide (s.calls.table[i].due.getD 0 ≤ s.clock) := by
      intro i hm
      obtain ⟨h2, hlife⟩ := (hl.sound ho).filed.timed hm
      obtain ⟨due, hd⟩ := Option.isSome_iff_exists.mp ((ho.2.2.2.2 i h2).1 hlife)
      rw [hd]
      rfl
    obtain ⟨hsplit, hmem⟩ := takeWhile_reached (time := fun i : CallId => s.calls.table[i].due.getD 0) ho.2.2.1 hreached
    have hsound := ((hl.sound ho).dueTimerAct (w := ⟨s.calls, []⟩) s.callEnv).filed.ordered
    refine ⟨_, callEvent_live hi, (quietly_onCalls _ s).2, keepsAllButCalls_onCalls _ s, ?_⟩
    rw [State.onCalls_calls]
    refine ⟨?_, fun x => ?_, fun x => ?_, hsound.2.2.2.1⟩
    · rw [hact]
      exact foldl_fallDue_timetable hsplit
    · rw [hact, foldl_fallDue_table]
      exact if_congr (hmem x) rfl rfl
    · rw [hact, mem_foldl_fallDue_ready]
      exact or_congr_right (hmem x)
  · rintro s x hi d rfl
    have nothing (h : s.calls.table[x].life ≠ .ready ∨ timeReached s.clock s.calls.table[x].deadline = false) :
        exec (.callDeadline x) s = .next s :=
      callEvent_nothing hi (deadlineAct_idle (e := s.callEnv) (w := ⟨s.calls, []⟩) h)
    refine ⟨fun deadline hd hlife hpast => ?_, fun h => nothing (.inl h), fun h => nothing (.inr (by rw [h]; rfl)),
      fun deadline h hlate => nothing (.inr (by rw [h]; exact decide_eq_false (by omega)))⟩
    refine ⟨_, callEvent_live hi, (quietly_onCalls _ s).2, keepsAllButCalls_onCalls _ s, fun hr hfin hq => ?_⟩
    have htime : timeReached s.clock s.calls.table[x].deadline = true := by rw [hd]; exact decide_eq_true hpast
    obtain ⟨hact, hready⟩ := deadlineAct_finishes (e := s.callEnv) (w := ⟨s.calls, []⟩) hlife htime hr
    obtain ⟨r1, -, r3, r4, -⟩ := finishCall_reported (w := ⟨s.calls, []⟩) s.clock s.calls.table[x].lateOutcome rfl hfin hq
      _ rfl
    rw [State.onCalls_calls]
    refine ⟨?_, hready, ?_, ?_⟩
    · rw [hact]
      exact r1
    · rw [hact]
      exact congrArg Descriptor.life r3
    · rw [hact]
      exact r4

end Sys2Proof.Machine
end

section
/-! SUPPORT. The end of a play (R153, R154): the channel that becomes IDLE, the call that plays again, and the notices
that stay. -/
namespace Sys2Proof.Machine

/-! ## Notices stay -/

section
variable {m : Mail} {w : Act Calls} {e : CallEnv}

theorem mem_finishCall_out (h : m ∈ w.out) (now : Nat) (i : CallId) (o : CallOutcome) : m ∈ (finishCall now i o w).out := by
  unfold finishCall drain
  dsimp only
  split
  · exact List.mem_append_left _ (List.mem_append_left _ h)
  · exact List.mem_append_left _ h

theorem mem_preEmpt_out (h : m ∈ w.out) (ch : Channel) : m ∈ (preEmpt e ch w).out := by
  rcases preEmpt_cases e ch w with he | ⟨i, -, he⟩ <;> rw [he]
  · exact h
  · exact mem_finishCall_out h e.now i .preEmpted

theorem mem_startBuiltIn_out (h : m ∈ w.out) (b : BuiltIn) (ch : Channel) : m ∈ (startBuiltIn e b ch w).out := by
  show m ∈ (cutMet e (w.val.builtInZones b) (otherChannel ch) w).out
  unfold cutMet
  split
  · exact mem_preEmpt_out h _
  · exact h

theorem mem_seekEvacuation_out (h : m ∈ w.out) (announce : Bool) : m ∈ (seekEvacuation e announce w).out := by
  have emit (m' : Mail) : m ∈ (w.emit m').out := List.mem_append_left _ h
  unfold seekEvacuation
  split
  · split
    · exact emit _
    · split
      · exact mem_startBuiltIn_out h _ _
      · split
        · exact emit _
        · exact h
  · exact h

end

/-! ## A channel that becomes IDLE (R153, R156) -/

theorem Calls.SameStage.chan {c c' : Calls} (h : c.SameStage c') (k : Channel) : c'.chan k = c.chan k := by
  obtain ⟨-, -, -, ha, hb, -⟩ := h
  exact congrFun (chan_eq ha hb) k

section
variable {ch k : Channel} {x : CallId} {c : Calls} {e : CallEnv} {w : Act Calls} {now : Nat} {d : Descriptor}

/-- A channel is IDLE, or a built-in call starts on it. -/
def Calls.takenByBuiltIn (ch : Channel) (c : Calls) : Prop :=
  (c.chan ch).state = .idle ∨ (c.chan ch).state = .starting ∧ ∃ b, (c.chan ch).call = some (builtInCall b)

theorem Calls.takenByBuiltIn.preEmpt (h : w.val.takenByBuiltIn ch) : (preEmpt e k w).val.takenByBuiltIn ch := by
  by_cases hk : ch = k
  · subst hk
    have hg : w.val.generalOn ch = none := by
      refine Option.eq_none_iff_forall_not_mem.mpr fun i hi => ?_
      obtain ⟨hcarry, hcall, h2⟩ := Calls.generalOn_eq_some_iff.mp hi
      rcases h with h | ⟨-, b, hb⟩
      · rw [carrying_of_state (.inl h)] at hcarry
        cases hcarry
      · rw [hb] at hcall
        cases hcall
        cases b <;> exact absurd h2 (by decide)
    rw [preEmpt_none hg]
    exact h
  · unfold Calls.takenByBuiltIn
    rw [preEmpt_chan_of_ne e w hk]
    exact h

theorem Calls.takenByBuiltIn.builtInStarted (h : c.takenByBuiltIn ch) (b : BuiltIn) (zones : ZoneSet) :
    (c.builtInStarted b k zones).takenByBuiltIn ch := by
  unfold Calls.takenByBuiltIn
  rw [builtInStarted_chan]
  split
  · exact .inr ⟨rfl, b, rfl⟩
  · exact h

theorem silence_chan (now : Nat) (i : CallId) (w : Act Calls) (k : Channel) :
    (silence now i w).val.chan k = w.val.chan k := finishCall_chan now i _ (w.map (Calls.setDesc i _)) k

/-- What follows a channel becoming IDLE leaves it IDLE or starts on it. -/
theorem afterIdle_state (h : (w.val.chan ch).state = .idle) (e : CallEnv) :
    ((afterIdle e w).val.chan ch).state = .idle ∨ ((afterIdle e w).val.chan ch).state = .starting := by
  have hseek : (seekBuiltIns e true w).val.takenByBuiltIn ch := seekBuiltIns_keeps (P := Calls.takenByBuiltIn ch)
    (fun k w hw => hw.preEmpt) (fun b k zones c _ hc => hc.builtInStarted b zones) (.inl h)
  refine walk_keeps (P := fun c => (c.chan ch).state = .idle ∨ (c.chan ch).state = .starting) (fun i v hv => ?_)
    (fun k i live c _ hc => ?_) (hseek.imp_right And.left)
  · rw [silence_chan]
    exact hv
  · rw [startPlay_chan]
    split
    · exact .inr rfl
    · exact hc

/-- With no built-in call waiting a walk alone follows. -/
theorem afterIdle_walk (h1 : w.val.evacuation ≠ .waiting) (h2 : w.val.staffAlert ≠ .waiting) :
    afterIdle e w = walk e.now w := congrArg (walk e.now) (seekBuiltIns_idle h1 h2)

/-! ## The end of a play (R153) -/

theorem endPlay_chan (ch k : Channel) (x : CallId) (c : Calls) : (endPlay ch x c).chan k =
    if k = ch then (c.chan ch).emptied .idle else c.chan k := by
  cases ch <;> cases k <;> rfl

theorem endPlay_chan_self (ch : Channel) (x : CallId) (c : Calls) :
    (endPlay ch x c).chan ch = (c.chan ch).emptied .idle := by rw [endPlay_chan, if_pos rfl]

theorem endPlay_zone (ch : Channel) (x : CallId) (c : Calls) (z : Fin 12) : (endPlay ch x c).paging[z] =
    if c.paging[z].conn = some ch then { c.paging[z] with conn := none } else c.paging[z] := by
  have hz : (endPlay ch x c).paging[z] = (c.release ch).paging[z] := by cases ch <;> rfl
  rw [hz, release_zone]

/-- The end of a play writes the call's descriptor, its channel and the zones, and nothing else. -/
theorem endPlay_others (ch : Channel) (x : CallId) (c : Calls) : endPlay ch x c = { c with
    table := (endPlay ch x c).table, paging := (endPlay ch x c).paging
    chanA := (endPlay ch x c).chanA, chanB := (endPlay ch x c).chanB } := by
  cases ch <;> rfl

theorem endPlay_runs (ch : Channel) (x : CallId) (c : Calls) :
    (endPlay ch x c).evacuation = c.evacuation ∧ (endPlay ch x c).staffAlert = c.staffAlert := by
  cases ch <;> exact ⟨rfl, rfl⟩

theorem endPlay_queue (ch : Channel) (x : CallId) (c : Calls) (k : Desk) : (endPlay ch x c).queue k = c.queue k := by
  rw [endPlay_others]
  cases k <;> rfl

/-- The channel of a play that has ended is IDLE, and its zones are free. -/
theorem endPlay_unplugged (ch : Channel) (x : CallId) (c : Calls) :
    (endPlay ch x c).unplugged ch ((c.chan ch).emptied .idle) := by
  refine ⟨endPlay_chan_self ch x c, fun z => ?_⟩
  rw [endPlay_zone]
  split
  · exact (nomatch ·)
  · assumption

theorem builtInOf_general (hx : 2 ≤ x.val) : builtInOf x = none := by
  unfold builtInOf
  rw [if_neg (by omega), if_neg (by omega)]

theorem builtInOf_builtInCall (b : BuiltIn) : builtInOf (builtInCall b) = some b := by cases b <;> rfl

theorem playingFallsAct_general (hs : (c.chan ch).state = .playing) (hc : (c.chan ch).call = some x) (hx : 2 ≤ x.val)
    (e : CallEnv) :
    playingFallsAct ch e ⟨c, []⟩ = afterIdle e (afterPlay e.now x ⟨endPlay ch x c, []⟩) := by
  unfold playingFallsAct
  dsimp only
  rw [hs, hc]
  dsimp only
  rw [builtInOf_general hx]
  rfl

/-- The calls with a built-in call in its gap at the end of its play. -/
def Calls.gapEntered (b : BuiltIn) (ch : Channel) (c : Calls) : Calls := enterGap b ch (endPlay ch (builtInCall b) c)

theorem playingFallsAct_builtIn {b : BuiltIn} (hs : (c.chan ch).state = .playing)
    (hc : (c.chan ch).call = some (builtInCall b)) (e : CallEnv) : playingFallsAct ch e ⟨c, []⟩ =
      walk e.now (if (c.gapEntered b ch).table[builtInCall b].gap = 0 then leaveGap e b ch ⟨c.gapEntered b ch, []⟩
        else ⟨c.gapEntered b ch, []⟩) := by
  unfold playingFallsAct
  dsimp only
  rw [hs, hc]
  dsimp only
  rw [builtInOf_builtInCall]
  rfl

theorem playingFallsAct_stopping (hs : (c.chan ch).state = .stopping) (e : CallEnv) :
    playingFallsAct ch e ⟨c, []⟩ = afterIdle e ⟨c.setChan ch ((c.chan ch).emptied .idle), []⟩ := by
  unfold playingFallsAct
  dsimp only
  rw [hs]
  rfl

/-! ## A general call after its play (R142) -/

theorem afterPlay_again (hd : w.val.table[x] = d) (hr : d.repeatCount = 255 ∨ d.plays < d.repeatCount) :
    afterPlay now x w = armCall now (satClock (now + d.gap)) .replay x w := by
  unfold afterPlay
  dsimp only
  rw [hd, if_pos hr]

theorem afterPlay_over (hd : w.val.table[x] = d) (hr : d.repeatCount ≠ 255) (hp : d.repeatCount ≤ d.plays) :
    afterPlay now x w = finishCall now x (if d.missed = 0 then .delivered else .partly) w := by
  unfold afterPlay
  dsimp only
  rw [hd, if_neg (by omega)]

theorem sameStage_afterPlay (now : Nat) (x : CallId) (w : Act Calls) : w.val.SameStage (afterPlay now x w).val := by
  unfold afterPlay
  dsimp only
  split
  · exact (spares_armCall now _ .replay x w).2
  · exact sameStage_finishCall now x _ w

/-- The calls with a call READY again at the end of its play. -/
def Calls.replayed (now : Nat) (ch : Channel) (x : CallId) (c : Calls) : Calls := enterReady now x (endPlay ch x c)

theorem replayed_self (now : Nat) (ch : Channel) (x : CallId) (c : Calls) : (c.replayed now ch x).table[x] =
    Descriptor.readyAt now { c.table[x] with plays := min 255 (c.table[x].plays + 1), channel := none } := by
  rw [← endPlay_table ch x c]
  exact Calls.setDesc_table_self x _ _

theorem replayed_ready (h : c.ready = []) : (c.replayed now ch x).ready = [x] := by
  have he : (endPlay ch x c).ready = [] := by rw [endPlay_others]; exact h
  show insertBy _ x (endPlay ch x c).ready = [x]
  rw [he]
  rfl

theorem replayed_others (now : Nat) (ch : Channel) (x : CallId) (c : Calls) :
    (c.replayed now ch x).timetable = c.timetable ∧ (c.replayed now ch x).arbiterFire = c.arbiterFire ∧
      (c.replayed now ch x).evacuation = c.evacuation ∧ (c.replayed now ch x).staffAlert = c.staffAlert := by
  cases ch <;> exact ⟨rfl, rfl, rfl, rfl⟩

theorem replayed_chan (now : Nat) (ch k : Channel) (x : CallId) (c : Calls) : (c.replayed now ch x).chan k =
    if k = ch then (c.chan ch).emptied .idle else c.chan k := endPlay_chan ch k x c

theorem replayed_zone (now : Nat) (ch : Channel) (x : CallId) (c : Calls) (z : Fin 12) :
    (c.replayed now ch x).paging[z] =
      if c.paging[z].conn = some ch then { c.paging[z] with conn := none } else c.paging[z] := endPlay_zone ch x c z

/-- The call can play where it could before the play. -/
theorem replayed_liveSet : (c.replayed now ch x).liveSet x = c.liveSet x := by
  have hm : (c.replayed now ch x).mutedZones = c.mutedZones := zonesWhere_ext fun z => by
    rw [replayed_zone]
    split <;> rfl
  unfold Calls.liveSet
  rw [hm, replayed_self]
  rfl

end

end Sys2Proof.Machine
end

section
/-! The PLAYING line rises and falls (R142, R150, R152, R153, R154, R155, R159). -/
namespace Sys2Proof.Machine

/-! ## PLAYING rises (R150, R152, R155) -/

section
variable {ch : Channel} {x : CallId} {c : Calls} {e : CallEnv} {w : Act Calls} {b : BuiltIn}

theorem playingRisesAct_starting (hc : (c.chan ch).call = some x) (hs : (c.chan ch).state = .starting) :
    playingRisesAct ch e ⟨c, []⟩ = ⟨c.setChan ch { c.chan ch with
      state := .playing, startTimer := none, guardTimer := some (c.table[x].length + 20) }, []⟩ := by
  unfold playingRisesAct
  dsimp only
  rw [hs, hc]
  rfl

theorem playingRisesAct_idle (hs : (w.val.chan ch).state = .idle) :
    playingRisesAct ch e w = seekEvacuation e true (faultChannel ch .unsolicited none false w) := by
  unfold playingRisesAct
  dsimp only
  rw [hs]

theorem playingRisesAct_recorded (hs : (w.val.chan ch).state = .playing ∨ (w.val.chan ch).state = .stopping ∨
    (w.val.chan ch).state = .faulted) : playingRisesAct ch e w = w := by
  unfold playingRisesAct
  dsimp only
  rcases hs with h | h | h <;> rw [h]

theorem faultChannel_unplugged (ch : Channel) (reason : ChannelFault) (call : Option (CallId × Nat)) (strobe : Bool)
    (w : Act Calls) : (faultChannel ch reason call strobe w).val.unplugged ch
      { (w.val.chan ch).emptied .faulted with
        fault := some reason, stopStrobe := (w.val.chan ch).stopStrobe || strobe } := by
  refine ⟨?_, fun z => ?_⟩
  · unfold faultChannel
    dsimp only
    rw [Calls.chan_setChan_self, release_chan]
  · have hz : (faultChannel ch reason call strobe w).val.paging[z] = (w.val.release ch).paging[z] := by
      cases ch <;> rfl
    rw [hz, release_zone]
    split
    · exact (nomatch ·)
    · assumption

/-- A rise on an IDLE channel faults it, whatever the evacuation call does, and both desks are told (R155). -/
theorem playingRisesAct_unsolicited (hs : (c.chan ch).state = .idle) (e : CallEnv) :
    ∀ u, u = playingRisesAct ch e ⟨c, []⟩ →
    (u.val.chan ch).state = .faulted ∧ (u.val.chan ch).fault = some .unsolicited ∧
      (⟨[.prompt, .house], .channelFault ⟨ch, .unsolicited, none, none, (c.chan (otherChannel ch)).state⟩⟩ : Mail) ∈ u.out := by
  rintro u rfl
  rw [playingRisesAct_idle (w := ⟨c, []⟩) hs]
  have hf := faultChannel_unplugged ch .unsolicited none false ⟨c, []⟩
  obtain ⟨hch, -⟩ := hf.seekEvacuation (e := e) rfl (nomatch ·) true
  rw [hch]
  exact ⟨rfl, rfl, mem_seekEvacuation_out (by rw [← release_chan c ch]; exact List.mem_singleton_self _) true⟩

/-! ## A general call READY again (R142) -/

/-- A call READY again is started by the walk that follows, or stays READY alone. -/
theorem replayed_walk {now : Nat} (hr : c.ready = []) (hz : c.audible c.table[x].zones) :
    ∀ u, u = (walk now ⟨c.replayed now ch x, []⟩).val →
    u.timetable = c.timetable ∧ u.table[x].plays = min 255 (c.table[x].plays + 1) ∧ u.table[x].entry = some now ∧
      (u.table[x].life = .ready ∧ u.ready = [x] ∧ (u.chan ch).state = .idle ∨
        u.table[x].life = .playing ∧ u.ready = []) := by
  rintro u rfl
  have hready := replayed_ready (now := now) (ch := ch) (x := x) hr
  have hself := replayed_self now ch x c
  obtain ⟨ht, -⟩ := replayed_others now ch x c
  have hlive : (c.replayed now ch x).liveSet x ≠ 0 := by
    rw [replayed_liveSet, Calls.liveSet_ne_zero_iff]
    exact hz
  rcases walk_one (now := now) (w := ⟨c.replayed now ch x, []⟩) hready hlive with h | ⟨k, -, h⟩ <;> rw [h]
  · refine ⟨ht, ?_, ?_, .inl ⟨?_, hready, ?_⟩⟩
    · rw [hself]; rfl
    · rw [hself]; rfl
    · rw [hself]; rfl
    · rw [replayed_chan, if_pos rfl]; rfl
  · have hplay := startPlay_table_self k x ((c.replayed now ch x).liveSet x) (c.replayed now ch x)
    obtain ⟨l1, l2⟩ := startPlay_lists k x ((c.replayed now ch x).liveSet x) (c.replayed now ch x)
    rw [hself] at hplay
    rw [Act.map_val, hplay, l1, l2, hready]
    exact ⟨ht, rfl, rfl, .inr ⟨rfl, List.erase_cons_head x []⟩⟩

/-- In QUIET with its zones free it starts again on its channel. -/
theorem replayed_starts {now : Nat} (hn : NothingWaits c) (hz : c.audible c.table[x].zones)
    (hq : c.arbiterFire = .quiet) (ha : ch = .a ∨ c.chanA.state ≠ .idle)
    (hfree : ∀ u : Fin 12, c.table[x].zones.getLsbD u = true → c.paging[u].held = false ∧
      (c.paging[u].conn = none ∨ c.paging[u].conn = some ch)) : ∀ u, u = (walk now ⟨c.replayed now ch x, []⟩).val →
    (u.chan ch).state = .starting ∧ (u.chan ch).call = some x := by
  rintro u rfl
  obtain ⟨hr, hev, hst⟩ := hn
  obtain ⟨-, hf, he, hs⟩ := replayed_others now ch x c
  have hself := replayed_chan now ch ch x c
  rw [if_pos rfl] at hself
  have hother : ch = .a ∨ (c.replayed now ch x).chanA.state ≠ .idle := by
    cases ch with
    | a => exact .inl rfl
    | b => exact .inr (ha.resolve_left (by decide))
  have hstart := walk_starts (now := now) (w := ⟨c.replayed now ch x, []⟩) (ch := ch) (replayed_ready hr)
    (by rw [replayed_liveSet, Calls.liveSet_ne_zero_iff]; exact hz) (hf.trans hq)
    (usableChannel_eq (by rw [he]; exact hev) (by rw [hs]; exact hst) (by rw [hself]; rfl) (by rw [hself]; rfl) hother)
    fun z hzl => by
      rw [replayed_liveSet] at hzl
      have hzones : c.table[x].zones.getLsbD z = true := by
        unfold Calls.liveSet at hzl
        rw [BitVec.getLsbD_and, Bool.and_eq_true] at hzl
        exact hzl.1
      obtain ⟨h1, h2⟩ := hfree z hzones
      dsimp only
      rw [replayed_zone]
      split
      · exact ⟨rfl, h1⟩
      · next hne => exact ⟨h2.resolve_right hne, h1⟩
  rw [hstart, Act.map_val, startPlay_chan, if_pos rfl]
  exact ⟨rfl, rfl⟩

/-! ## A built-in call after its play (R159) -/

/-- A built-in call has made its plays, and stands in no collection. -/
def Calls.hasPlayed (x : CallId) (n : Nat) (c : Calls) : Prop :=
  c.table[x].plays = n ∧ x ∉ c.ready ∧ .general x ∉ c.finished

theorem Calls.hasPlayed.spared {n : Nat} {c' : Calls} (h : c.hasPlayed x n) {J : CallId → Prop} (k : c.Spares J c')
    (hx : ¬ J x) : c'.hasPlayed x n := by
  obtain ⟨h1, h2, h3⟩ := h
  exact ⟨by rw [k.table_eq hx h3]; exact h1, mt (k.ready x hx).mp h2, mt (k.finished x hx) h3⟩

theorem Calls.hasPlayed.preEmpt {n : Nat} {k : Channel} (h : w.val.hasPlayed (builtInCall b) n) :
    (preEmpt e k w).val.hasPlayed (builtInCall b) n := by
  rcases preEmpt_cases e k w with he | ⟨i, hi, he⟩ <;> rw [he]
  · exact h
  · refine h.spared (spares_preEmpted e k i w) ?_
    rintro rfl
    obtain ⟨-, -, h2⟩ := Calls.generalOn_eq_some_iff.mp hi
    cases b <;> exact absurd h2 (by decide)

theorem builtInStarted_self (b : BuiltIn) (ch : Channel) (zones : ZoneSet) (c : Calls) :
    (c.builtInStarted b ch zones).table[builtInCall b].plays = c.table[builtInCall b].plays ∧
      (c.builtInStarted b ch zones).table[builtInCall b].life = .playing := by
  unfold Calls.builtInStarted
  rw [Calls.setRun_table, startPlay_table_self, Calls.setDesc_table_self]
  exact ⟨rfl, rfl⟩

theorem Calls.hasPlayed.builtInStarted {n : Nat} (h : c.hasPlayed (builtInCall b) n) (b' : BuiltIn) (ch : Channel)
    (zones : ZoneSet) : (c.builtInStarted b' ch zones).hasPlayed (builtInCall b) n := by
  by_cases hb : b = b'
  · subst hb
    obtain ⟨h1, h2, h3⟩ := h
    refine ⟨(builtInStarted_self b ch zones c).1.trans h1, fun hm => h2 ?_, ?_⟩
    · exact (listsShrink_builtInStarted b ch zones c).2.2.subset hm
    · cases b <;> cases ch <;> exact h3
  · exact h.spared (spares_builtInStarted b' ch zones c) fun he => hb (builtInCall_injective he)

theorem Calls.hasPlayed.walk {n now : Nat} (h : w.val.hasPlayed x n) :
    (walk now w).val.hasPlayed x n ∧ (walk now w).val.table[x] = w.val.table[x] :=
  ⟨h.spared (spares_walk now w) h.2.1, (spares_walk now w).table_eq h.2.1 h.2.2⟩

theorem gapEntered_self (b : BuiltIn) (ch : Channel) (c : Calls) : (c.gapEntered b ch).table[builtInCall b] =
    { c.table[builtInCall b] with
      life := .ready, channel := none, plays := min 255 (c.table[builtInCall b].plays + 1) } := by
  unfold Calls.gapEntered enterGap
  dsimp only
  rw [Calls.setRun_table, Calls.setChan_table, Calls.setDesc_table_self, endPlay_table]

theorem gapEntered_run (b : BuiltIn) (ch : Channel) (c : Calls) :
    (c.gapEntered b ch).run b = .inGap ch c.table[builtInCall b].gap := by
  unfold Calls.gapEntered
  rw [enterGap_run, endPlay_table]

/-- Its channel is IDLE and reserved for it, and its zones are free. -/
theorem gapEntered_unplugged (b : BuiltIn) (ch : Channel) (c : Calls) :
    (c.gapEntered b ch).unplugged ch { (c.chan ch).emptied .idle with reserved := some b } := by
  obtain ⟨h1, h2⟩ := endPlay_unplugged ch (builtInCall b) c
  refine ⟨?_, fun z => ?_⟩
  · unfold Calls.gapEntered enterGap
    rw [setRun_chan, Calls.chan_setChan_self, show ((endPlay ch (builtInCall b) c).setDesc _ _).chan ch = _ from h1]
  · have hz : (c.gapEntered b ch).paging = (endPlay ch (builtInCall b) c).paging := by cases b <;> cases ch <;> rfl
    rw [hz]
    exact h2 z

theorem gapEntered_zones (b b' : BuiltIn) (ch : Channel) (c : Calls) :
    (c.gapEntered b ch).builtInZones b' = c.builtInZones b' := by
  have hz (z : Fin 12) : (c.gapEntered b ch).paging[z] = (endPlay ch (builtInCall b) c).paging[z] := by
    cases b <;> cases ch <;> rfl
  cases b' with
  | evacuation => exact zonesWhere_ext fun z => by rw [hz, endPlay_zone]; split <;> rfl
  | staffAlert => exact zonesWhere_ext fun z => by rw [hz, endPlay_zone]; split <;> rfl

/-- A built-in call has played once more, where the collections are lawful. -/
theorem gapEntered_hasPlayed (h : c.lawful) (b : BuiltIn) (ch : Channel) :
    (c.gapEntered b ch).hasPlayed (builtInCall b) (min 255 (c.table[builtInCall b].plays + 1)) := by
  obtain ⟨-, -, h1, h2⟩ := h.builtIn_nowhere (x := builtInCall b) (by cases b <;> decide)
  refine ⟨by rw [gapEntered_self], ?_, ?_⟩
  · rwa [show (c.gapEntered b ch).ready = c.ready by cases b <;> cases ch <;> rfl]
  · rwa [show (c.gapEntered b ch).finished = c.finished by cases b <;> cases ch <;> rfl]

/-- The calls with a built-in call that looks for a channel, its own being free for it. -/
def Calls.gapLeft (b : BuiltIn) (ch : Channel) (c : Calls) : Calls :=
  (waitAgain b c).setChan ch { c.chan ch with reserved := none }

theorem gapLeft_chan (b : BuiltIn) (ch : Channel) (c : Calls) :
    (c.gapLeft b ch).chan ch = { c.chan ch with reserved := none } := Calls.chan_setChan_self _ ch _

theorem gapLeft_zones (b b' : BuiltIn) (ch : Channel) (c : Calls) :
    (c.gapLeft b ch).builtInZones b' = c.builtInZones b' := by cases b <;> cases ch <;> cases b' <;> rfl

theorem Calls.hasPlayed.gapLeft {n : Nat} (h : c.hasPlayed (builtInCall b) n) (ch : Channel) :
    (c.gapLeft b ch).hasPlayed (builtInCall b) n := by
  obtain ⟨h1, h2, h3⟩ := h
  refine ⟨?_, ?_, ?_⟩
  · unfold Calls.gapLeft waitAgain
    rw [Calls.setChan_table, Calls.setRun_table, Calls.setDesc_table_self]
    exact h1
  · rwa [show (c.gapLeft b ch).ready = c.ready by cases b <;> cases ch <;> rfl]
  · rwa [show (c.gapLeft b ch).finished = c.finished by cases b <;> cases ch <;> rfl]

theorem leaveGap_eq (e : CallEnv) (b : BuiltIn) (ch : Channel) (c : Calls) : leaveGap e b ch ⟨c, []⟩ =
    if (c.chan ch).state = .idle ∧ c.builtInZones b ≠ 0 then startBuiltIn e b ch ⟨c.gapLeft b ch, []⟩
    else seekBuiltIns e true ⟨c.gapLeft b ch, []⟩ := by
  have hw : leaveGap e b ch ⟨c, []⟩ =
      if ((c.gapLeft b ch).chan ch).state = .idle ∧ (c.gapLeft b ch).builtInZones b ≠ 0 then
        startBuiltIn e b ch ⟨c.gapLeft b ch, []⟩
      else seekBuiltIns e true ⟨c.gapLeft b ch, []⟩ := by
    unfold leaveGap Calls.gapLeft
    cases b <;> cases ch <;> rfl
  rw [hw, gapLeft_chan, gapLeft_zones]

theorem leaveGap_hasPlayed {n : Nat} (h : c.hasPlayed (builtInCall b) n) (e : CallEnv) (ch : Channel) :
    (leaveGap e b ch ⟨c, []⟩).val.hasPlayed (builtInCall b) n := by
  have hw := h.gapLeft ch
  rw [leaveGap_eq]
  split
  · next hs =>
    exact startBuiltIn_keeps (fun k w hv => hv.preEmpt) (fun b' k zones c _ hc => hc.builtInStarted b' k zones)
      (w := ⟨c.gapLeft b ch, []⟩) (by dsimp only; rw [gapLeft_chan]; exact hs.1) hw
  · exact seekBuiltIns_keeps (fun k w hv => hv.preEmpt) (fun b' k zones c _ hc => hc.builtInStarted b' k zones)
      (w := ⟨c.gapLeft b ch, []⟩) hw

/-- With a zone to sound in, a built-in call starts again on its IDLE channel (R159). -/
theorem leaveGap_starts (hs : (c.chan ch).state = .idle) (hz : c.builtInZones b ≠ 0) (e : CallEnv) :
    ∀ u, u = (leaveGap e b ch ⟨c, []⟩).val → (u.chan ch).state = .starting ∧ (u.chan ch).call = some (builtInCall b) ∧
      (u.chan ch).live = c.builtInZones b ∧ u.table[builtInCall b].life = .playing := by
  rintro u rfl
  rw [leaveGap_eq, if_pos ⟨hs, hz⟩]
  obtain ⟨v, -, hv⟩ := startBuiltIn_cleared e b ch ⟨c.gapLeft b ch, []⟩
  rw [hv, Act.map_val, builtInStarted_chan, if_pos rfl, gapLeft_zones]
  exact ⟨rfl, rfl, rfl, (builtInStarted_self b ch _ _).2⟩

end

/-! ## O44 -/

/-- An act of the calls with the level of a PLAYING line recorded moves no other block. -/
theorem lineMoved_keeps (ch : Channel) (level : Bool) (f : CallEnv → Act Calls → Act Calls) (s : State) : ∀ t,
    t = (s.setPlaying ch level).onCalls f →
    KeepsLinks s t ∧ t.pins.playing ch = level ∧ t.house = s.house ∧ t.fire = s.fire ∧ t.curtain = s.curtain ∧
      t.lights = s.lights := by
  rintro t rfl
  exact ⟨(quietly_onCalls f (s.setPlaying ch level)).2, by cases ch <;> rfl, rfl, rfl, rfl, rfl⟩

theorem playingLine_rises (s : State) (ch : Channel) (hi : s.inert = false) :
    exec (.playingRises ch) s = .next ((s.setPlaying ch true).onCalls (playingRisesAct ch)) :=
  callEvent_live (s := s.setPlaying ch true) hi

theorem playingLine_falls (s : State) (ch : Channel) (hi : s.inert = false) :
    exec (.playingFalls ch) s = .next ((s.setPlaying ch false).onCalls (playingFallsAct ch)) :=
  callEvent_live (s := s.setPlaying ch false) hi

end Sys2Proof.Machine
end

section
/-! What the fall of PLAYING makes of a general call (R142, R153), and the obligation on the PLAYING line. -/
namespace Sys2Proof.Machine

section
variable {c : Calls} {ch : Channel} {x : CallId} {d : Descriptor} {e : CallEnv}

/-- The descriptor of a call whose play has ended. -/
def Descriptor.played (d : Descriptor) : Descriptor := { d with plays := min 255 (d.plays + 1), channel := none }

theorem satClock_of_le {n : Nat} (h : n ≤ 4294967295) : satClock n = n := Nat.min_eq_left h

theorem generalFall_state (hs : (c.chan ch).state = .playing) (hc : (c.chan ch).call = some x) (hx : 2 ≤ x.val)
    (e : CallEnv) : ((playingFallsAct ch e ⟨c, []⟩).val.chan ch).state = .idle ∨
      ((playingFallsAct ch e ⟨c, []⟩).val.chan ch).state = .starting := by
  rw [playingFallsAct_general hs hc hx]
  refine afterIdle_state ?_ e
  rw [(sameStage_afterPlay e.now x ⟨endPlay ch x c, []⟩).chan ch, endPlay_chan_self]
  rfl

/-- With no built-in call waiting, the end of a play is the repeat or the finish of the call, and one walk. -/
theorem generalFall_walk (hs : (c.chan ch).state = .playing) (hc : (c.chan ch).call = some x) (hx : 2 ≤ x.val)
    (h1 : c.evacuation ≠ .waiting) (h2 : c.staffAlert ≠ .waiting) (e : CallEnv) :
    playingFallsAct ch e ⟨c, []⟩ = walk e.now (afterPlay e.now x ⟨endPlay ch x c, []⟩) := by
  obtain ⟨-, -, -, -, -, hev, hst⟩ := sameStage_afterPlay e.now x ⟨endPlay ch x c, []⟩
  obtain ⟨r1, r2⟩ := endPlay_runs ch x c
  rw [playingFallsAct_general hs hc hx, afterIdle_walk]
  · rw [hev, r1]; exact h1
  · rw [hst, r2]; exact h2

theorem generalFall_again (hs : (c.chan ch).state = .playing) (hc : (c.chan ch).call = some x) (hx : 2 ≤ x.val)
    (h1 : c.evacuation ≠ .waiting) (h2 : c.staffAlert ≠ .waiting) (hd : c.table[x] = d)
    (hr : d.repeatCount = 255 ∨ min 255 (d.plays + 1) < d.repeatCount) (e : CallEnv) :
    playingFallsAct ch e ⟨c, []⟩ =
      walk e.now (armCall e.now (satClock (e.now + d.gap)) .replay x ⟨endPlay ch x c, []⟩) := by
  rw [generalFall_walk hs hc hx h1 h2, afterPlay_again (d := d.played) ((endPlay_table ch x c).trans (by rw [hd]; rfl)) hr]
  rfl

/-- A call with a gap waits in the timetable for its next play. -/
theorem generalFall_gap (hs : (c.chan ch).state = .playing) (hc : (c.chan ch).call = some x) (hx : 2 ≤ x.val)
    (hn : NothingWaits c) (hd : c.table[x] = d) (hr : d.repeatCount = 255 ∨ min 255 (d.plays + 1) < d.repeatCount)
    (hg : 0 < d.gap) (hb : e.now + d.gap ≤ 4294967295) : ∀ u, u = (playingFallsAct ch e ⟨c, []⟩).val →
    (u.chan ch).state = .idle ∧ (u.chan ch).call = none ∧ x ∈ u.timetable ∧ u.table[x].life = .timed ∧
      u.table[x].plays = min 255 (d.plays + 1) ∧ u.table[x].due = some (e.now + d.gap) ∧
      u.table[x].basis = some .replay := by
  rintro u rfl
  obtain ⟨hready, h1, h2⟩ := hn
  have hself : (enterTimed (e.now + d.gap) .replay x (endPlay ch x c)).table[x] =
      d.played.timedAt (e.now + d.gap) .replay := by
    refine (Calls.setDesc_table_self x _ _).trans ?_
    rw [endPlay_table, hd]
    rfl
  have hch : (enterTimed (e.now + d.gap) .replay x (endPlay ch x c)).chan ch = (c.chan ch).emptied .idle :=
    endPlay_chan_self ch x c
  rw [generalFall_again hs hc hx h1 h2 hd hr, satClock_of_le hb,
    armCall_timed (w := ⟨endPlay ch x c, []⟩) (.inl (by omega)),
    walk_of_empty (by show (endPlay ch x c).ready = []; rw [endPlay_others]; exact hready), Act.map_val, hself, hch]
  exact ⟨rfl, rfl, (mem_insertBy _ _ _ _).mpr (.inl rfl), rfl, rfl, rfl, rfl⟩

/-- A call with gap 0 is READY again at once, and one walk follows. -/
theorem generalFall_replays (hs : (c.chan ch).state = .playing) (hc : (c.chan ch).call = some x) (hx : 2 ≤ x.val)
    (hn : NothingWaits c) (hd : c.table[x] = d) (hr : d.repeatCount = 255 ∨ min 255 (d.plays + 1) < d.repeatCount)
    (hg : d.gap = 0) (hb : e.now ≤ 4294967295) (hf : c.fireSeen ≠ .evacuate) :
    playingFallsAct ch e ⟨c, []⟩ = walk e.now ⟨c.replayed e.now ch x, []⟩ := by
  obtain ⟨-, h1, h2⟩ := hn
  have hfire : (endPlay ch x c).fireSeen ≠ .evacuate := by rw [endPlay_others]; exact hf
  rw [generalFall_again hs hc hx h1 h2 hd hr, hg, Nat.add_zero, satClock_of_le hb,
    armCall_late (w := ⟨endPlay ch x c, []⟩) (Nat.le_refl _) hfire, if_neg (by omega)]
  rfl

/-- A call that has made its plays finishes, and its completion joins its creator's queue. -/
theorem generalFall_over (hs : (c.chan ch).state = .playing) (hc : (c.chan ch).call = some x) (hx : 2 ≤ x.val)
    (hn : NothingWaits c) (hd : c.table[x] = d) (hr : d.repeatCount ≠ 255) (hp : d.repeatCount ≤ min 255 (d.plays + 1))
    (hfin : c.finished = []) (hq : (c.queue d.creator).length < 16) : ∀ u, u = (playingFallsAct ch e ⟨c, []⟩).val →
    (u.chan ch).state = .idle ∧ (u.chan ch).call = none ∧ u.table[x].life = .free ∧
      u.queue d.creator = c.queue d.creator ++
        [⟨x.val + 1, d.message, if d.missed = 0 then .delivered else .partly, min 255 (d.plays + 1), d.missed, e.now,
          1⟩] := by
  rintro u rfl
  obtain ⟨hready, h1, h2⟩ := hn
  have hself : (endPlay ch x c).table[x] = d.played := (endPlay_table ch x c).trans (by rw [hd]; rfl)
  obtain ⟨r1, -, r3, -⟩ := finishCall_reported (w := ⟨endPlay ch x c, []⟩) (d := d.played) e.now
    (if d.missed = 0 then .delivered else .partly) hself (by rw [endPlay_others]; exact hfin)
    (by rw [endPlay_queue]; exact hq) _ rfl
  have hlist : (finishCall e.now x (if d.missed = 0 then .delivered else .partly) ⟨endPlay ch x c, []⟩).val.ready = [] := by
    rw [finishCall_others]
    show (endPlay ch x c).ready.erase x = []
    rw [endPlay_others]
    show c.ready.erase x = []
    rw [hready]
    rfl
  rw [generalFall_walk hs hc hx h1 h2, afterPlay_over (d := d.played) hself hr hp, show d.played.missed = d.missed from rfl,
    walk_of_empty hlist]
  dsimp only [Descriptor.played] at r1 r3 ⊢
  rw [r1, r3, endPlay_queue, finishCall_chan, endPlay_chan_self]
  exact ⟨rfl, rfl, rfl, rfl⟩

/-! ## The end of a stop (R154) -/

theorem stopFall_state (hs : (c.chan ch).state = .stopping) (e : CallEnv) :
    ((playingFallsAct ch e ⟨c, []⟩).val.chan ch).state = .idle ∨
      ((playingFallsAct ch e ⟨c, []⟩).val.chan ch).state = .starting := by
  rw [playingFallsAct_stopping hs]
  exact afterIdle_state (w := ⟨c.setChan ch ((c.chan ch).emptied .idle), []⟩) (by rw [Calls.chan_setChan_self]; rfl) e

theorem stopFall_idle (hs : (c.chan ch).state = .stopping) (hn : NothingWaits c) (e : CallEnv) :
    (playingFallsAct ch e ⟨c, []⟩).val.chan ch = (c.chan ch).emptied .idle := by
  obtain ⟨hready, h1, h2⟩ := hn
  have hrun := setChan_runs ch ((c.chan ch).emptied .idle) c
  rw [playingFallsAct_stopping hs, afterIdle_walk (w := ⟨c.setChan ch ((c.chan ch).emptied .idle), []⟩)
    (by rw [show (c.setChan ch ((c.chan ch).emptied .idle)).evacuation = c.evacuation from congrFun hrun .evacuation]
        exact h1)
    (by rw [show (c.setChan ch ((c.chan ch).emptied .idle)).staffAlert = c.staffAlert from congrFun hrun .staffAlert]
        exact h2),
    walk_of_empty (by cases ch <;> exact hready)]
  exact Calls.chan_setChan_self c ch _

/-! ## A built-in call after its play (R159) -/

section
variable {b : BuiltIn}

theorem builtInFall_waits (hs : (c.chan ch).state = .playing) (hc : (c.chan ch).call = some (builtInCall b))
    (hg : 0 < c.table[builtInCall b].gap) (e : CallEnv) :
    playingFallsAct ch e ⟨c, []⟩ = walk e.now ⟨c.gapEntered b ch, []⟩ := by
  rw [playingFallsAct_builtIn hs hc, gapEntered_self, if_neg (Nat.ne_of_gt hg)]

theorem builtInFall_leaves (hs : (c.chan ch).state = .playing) (hc : (c.chan ch).call = some (builtInCall b))
    (hg : c.table[builtInCall b].gap = 0) (e : CallEnv) :
    playingFallsAct ch e ⟨c, []⟩ = walk e.now (leaveGap e b ch ⟨c.gapEntered b ch, []⟩) := by
  rw [playingFallsAct_builtIn hs hc, gapEntered_self, if_pos hg]

/-- A built-in call counts its play. -/
theorem builtInFall_plays (h : c.lawful) (hs : (c.chan ch).state = .playing)
    (hc : (c.chan ch).call = some (builtInCall b)) (e : CallEnv) :
    (playingFallsAct ch e ⟨c, []⟩).val.table[builtInCall b].plays = min 255 (c.table[builtInCall b].plays + 1) := by
  have hplayed := gapEntered_hasPlayed h b ch
  rcases Nat.eq_zero_or_pos c.table[builtInCall b].gap with hg | hg
  · rw [builtInFall_leaves hs hc hg]
    exact (leaveGap_hasPlayed hplayed e ch).walk.1.1
  · rw [builtInFall_waits hs hc hg]
    exact (Calls.hasPlayed.walk (w := ⟨c.gapEntered b ch, []⟩) hplayed).1.1

/-- With a gap it stands in it, and its channel is IDLE and reserved for it. -/
theorem builtInFall_gap (h : c.lawful) (hs : (c.chan ch).state = .playing)
    (hc : (c.chan ch).call = some (builtInCall b)) (hg : 0 < c.table[builtInCall b].gap) (e : CallEnv) : ∀ u,
    u = (playingFallsAct ch e ⟨c, []⟩).val → u.run b = .inGap ch c.table[builtInCall b].gap ∧
      u.table[builtInCall b] = { c.table[builtInCall b] with
        life := .ready, channel := none, plays := min 255 (c.table[builtInCall b].plays + 1) } ∧
      u.unplugged ch { (c.chan ch).emptied .idle with reserved := some b } := by
  rintro u rfl
  rw [builtInFall_waits hs hc hg]
  refine ⟨?_, ?_, ?_⟩
  · rw [walk_run]
    exact gapEntered_run b ch c
  · rw [(Calls.hasPlayed.walk (w := ⟨c.gapEntered b ch, []⟩) (gapEntered_hasPlayed h b ch)).2]
    exact gapEntered_self b ch c
  · exact Calls.unplugged.walk (w := ⟨c.gapEntered b ch, []⟩) (gapEntered_unplugged b ch c) rfl e.now

/-- With gap 0 and a zone to sound in it starts again at once on its channel. -/
theorem builtInFall_starts (h : c.lawful) (hs : (c.chan ch).state = .playing)
    (hc : (c.chan ch).call = some (builtInCall b)) (hg : c.table[builtInCall b].gap = 0) (hz : c.builtInZones b ≠ 0)
    (e : CallEnv) : ∀ u, u = (playingFallsAct ch e ⟨c, []⟩).val → (u.chan ch).state = .starting ∧
      (u.chan ch).call = some (builtInCall b) ∧ u.table[builtInCall b].life = .playing ∧
      (u.chan ch).live = c.builtInZones b := by
  rintro u rfl
  rw [builtInFall_leaves hs hc hg]
  have hplayed := leaveGap_hasPlayed (gapEntered_hasPlayed h b ch) e ch
  obtain ⟨h1, h2, h3, h4⟩ := leaveGap_starts (c := c.gapEntered b ch) (b := b) (ch := ch)
    (by rw [(gapEntered_unplugged b ch c).1]; rfl) (by rw [gapEntered_zones]; exact hz) e _ rfl
  rw [gapEntered_zones] at h3
  rw [walk_chan (by rw [h1]; exact (nomatch ·)), hplayed.walk.2]
  exact ⟨h1, h2, h4, h3⟩

end

end

/-! ## O44 -/

/-- Settles O44: a rise moves its channel alone; a fall ends a play or a stop, and what follows takes the channel. -/
theorem playingLineMovesItsChannel : Obligations.PlayingLineMovesItsChannel := by
  refine ⟨fun s ch hi pins hpins => ⟨fun x hc hs => ?_, fun hs => ?_, fun hs => ?_⟩,
    fun s ch hi => ⟨fun x hc hs hx d hd => ?_, fun hs => ?_⟩, fun s ch b x hi hb hl hc hs d hd => ?_⟩
  · have hp : s.setPlaying ch true = { s with pins := pins } := by rw [hpins]; cases ch <;> rfl
    rw [playingLine_rises s ch hi]
    unfold State.onCalls
    dsimp only
    rw [playingRisesAct_starting (c := (s.setPlaying ch true).calls) hc hs, hp]
    rfl
  · obtain ⟨hf1, hf2, hmail⟩ := playingRisesAct_unsolicited (c := s.calls) hs (s.setPlaying ch true).callEnv _ rfl
    obtain ⟨k1, -, k2, k3, k4, k5⟩ := lineMoved_keeps ch true (playingRisesAct ch) s _ rfl
    refine ⟨_, playingLine_rises s ch hi, ?_, k1, hf1, hf2, k2, k3, k4, k5, fun q hq => ?_⟩
    · rw [hpins]; cases ch <;> rfl
    · have hq' : q ∈ [Port.prompt, Port.house] := by rcases hq with rfl | rfl <;> decide
      exact (reaches_onCalls (s := s.setPlaying ch true) hq' hmail).congr rfl rfl
  · have hp : s.setPlaying ch true = { s with pins := pins } := by rw [hpins]; cases ch <;> rfl
    rw [playingLine_rises s ch hi,
      State.onCalls_nothing (playingRisesAct_recorded (w := ⟨(s.setPlaying ch true).calls, []⟩) hs), hp]
  · subst hd
    obtain ⟨k1, k2, k3, k4, k5, k6⟩ := lineMoved_keeps ch false (playingFallsAct ch) s _ rfl
    refine ⟨_, playingLine_falls s ch hi, k1, k2, k3, k4, k5, k6, generalFall_state hs hc hx _, ?_, ?_, ?_⟩
    · intro hn hr hg hb
      exact generalFall_gap (e := (s.setPlaying ch false).callEnv) hs hc hx hn rfl hr hg hb _ rfl
    · intro hn hr hg hb hf hz
      have hact := generalFall_replays (e := (s.setPlaying ch false).callEnv) hs hc hx hn rfl hr hg hb hf
      have hcalls := congrArg Act.val hact
      obtain ⟨r1, r2, r3, r4⟩ := replayed_walk (ch := ch) hn.1 hz _ hcalls
      exact ⟨r1, r2, r3, r4, fun hq ha hfree => replayed_starts hn hz hq ha hfree _ hcalls⟩
    · intro hn hr hp hfin hq
      exact generalFall_over (e := (s.setPlaying ch false).callEnv) hs hc hx hn rfl hr hp hfin hq _ rfl
  · obtain ⟨k1, k2, k3, k4, k5, k6⟩ := lineMoved_keeps ch false (playingFallsAct ch) s _ rfl
    refine ⟨_, playingLine_falls s ch hi, k1, k2, k3, k4, k5, k6, stopFall_state hs _, fun hn => ?_⟩
    rw [State.onCalls_calls, stopFall_idle (c := (s.setPlaying ch false).calls) hs hn]
    exact ⟨rfl, rfl⟩
  · subst hd
    obtain rfl : x = builtInCall b := by rcases hb with ⟨rfl, rfl⟩ | ⟨rfl, rfl⟩ <;> rfl
    obtain ⟨k1, k2, k3, k4, k5, k6⟩ := lineMoved_keeps ch false (playingFallsAct ch) s _ rfl
    refine ⟨_, playingLine_falls s ch hi, k1, k2, k3, k4, k5, k6, ?_⟩
    refine ⟨builtInFall_plays hl hs hc _, fun hg => ?_, fun hg hz => builtInFall_starts hl hs hc hg hz _ _ rfl⟩
    obtain ⟨hrun, hself, hch, hzone⟩ := builtInFall_gap hl hs hc hg (s.setPlaying ch false).callEnv _ rfl
    refine ⟨?_, ?_, hself, ?_, ?_, ?_, ?_, hzone⟩
    · rintro rfl; exact hrun
    · rintro rfl; exact hrun
    · exact congrArg ChannelRecord.state hch
    · exact congrArg ChannelRecord.call hch
    · exact congrArg ChannelRecord.reserved hch
    · exact congrArg ChannelRecord.guardTimer hch

end Sys2Proof.Machine
end
